-- ==== Sys2Proof/Word.lean ====
section
/-! DEFINITION. The byte of the L316's frames, images and panel transactions. Times and durations are natural
numbers of microseconds of the station's own timebase (00_scope section 5). -/

namespace Sys2Proof

/-- A byte of a loop frame, of the configuration image or of a panel transaction. -/
abbrev Byte := BitVec 8

end Sys2Proof
end

