-- ==== Sys2Proof/Syntax.lean ====
section
/-! DEFINITION. The commands of the L316: one constructor of Instr for each row of spec/opcode_table.json. -/

namespace Sys2Proof

/-- The two operator keys (section 8.8). -/
inductive Key where
  | ack
  | test
  deriving DecidableEq, Repr

/-- The two outputs whose level changes wait for a period start (R135, R139, R145). -/
inductive Output where
  | snd
  | bcn
  deriving DecidableEq, Repr

/-- What brings a beat (R1): a fall of BEAT that is followed, or the beat timer reaching 250 ms. -/
inductive BeatCause where
  | fall
  | expiry
  deriving DecidableEq, Repr

/-- What brings an eighth mark (R20): the eighth's own time, or a beat, which gives eighth 0. -/
inductive EighthCause where
  | mark
  | beat (c : BeatCause)
  deriving DecidableEq, Repr

/-- What makes the beat index become 0 (R2): the advance at a beat, or a bar mark. -/
inductive ZeroCause where
  | beat (c : BeatCause)
  | barMark
  deriving DecidableEq, Repr

/-- The commands. Every command carries `after`, the time that passes between the step before it and itself.
A row that the manual gives as one case of a more general step (a third stray is a fall of BEAT) names, where
that is needed, the step it is a case of. -/
inductive Instr where
  | powerOn (after : Nat) (rstLow : Bool)
  | rstFall (after : Nat)
  | resetPin (after : Nat)
  | rstRise (after : Nat)
  | settlingWaitEnd (after : Nat) (straps : BitVec 5)
  | headerReadComplete (after : Nat) (header : List Byte)
  | missingAcknowledge (after : Nat) (sent : Nat)
  | imageReadComplete (after : Nat) (rest : List Byte)
  | loadComplete (after : Nat)
  | beatFall (after : Nat)
  | thirdStray (after : Nat)
  | beatTimerExpiry (after : Nat)
  | enterLocked (after : Nat) (cause : BeatCause)
  | markRelease (after : Nat)
  | barMark (after : Nat)
  | beatRise (after : Nat)
  | beatStuck (after : Nat)
  | eighthMark (after : Nat)
  | introEnd (after : Nat) (cause : EighthCause)
  | testEnd (after : Nat) (cause : BeatCause)
  | messageExpiry (after : Nat) (cause : BeatCause)
  | slotBegin (after : Nat)
  | openSlotAttempt (after : Nat)
  | slotEnd (after : Nat)
  | frameStart (after : Nat)
  | raiseFrame (after : Nat)
  | clearFrame (after : Nat)
  | statusFrame (after : Nat)
  | silenceFrame (after : Nat)
  | restoreFrame (after : Nat)
  | gapTimeout (after : Nat)
  | readBackMismatch (after : Nat)
  | frameComplete (after : Nat)
  | dataStuck (after : Nat)
  | scanRequest (after : Nat)
  | supplyOwnTimer (after : Nat)
  | conversionComplete (after : Nat) (microvolts : Nat)
  | qualification (after : Nat) (input : Nat)
  | lowCondition (after : Nat) (microvolts : Nat)
  | normalCondition (after : Nat) (microvolts : Nat)
  | cutoff (after : Nat) (microvolts : Nat)
  | recoveryEvent (after : Nat) (microvolts : Nat)
  | membership (after : Nat) (cause : ZeroCause)
  | keyLevelChange (after : Nat) (key : Key) (pressed : Bool)
  | debounceExpiry (after : Nat) (key : Key)
  | restoreAction (after : Nat) (cause : EighthCause)
  | chirpEnd (after : Nat)
  | transactionOpen (after : Nat)
  | noCommand (after : Nat)
  | unknownCommand (after : Nat)
  | readSummary (after : Nat)
  | readTable (after : Nat)
  | readRoster (after : Nat)
  | readInputs (after : Nat)
  | readCounters (after : Nat)
  | post (after : Nat)
  | withdraw (after : Nat)
  | silence (after : Nat)
  | restore (after : Nat)
  | test (after : Nat)
  | clearCounters (after : Nat)
  | dataFall (after : Nat)
  | dataRise (after : Nat)
  | bitSample (after : Nat)
  | bitTimeEnd (after : Nat)
  | badCheck (after : Nat)
  | psckRise (after : Nat) (psi : Bool)
  | psckFall (after : Nat)
  | periodStart (after : Nat) (output : Output)
  deriving DecidableEq, Repr

end Sys2Proof
end

