-- ==== Sys2Proof/Decode.lean ====
section
/-! DEFINITION. The words of spec/opcode_table.json. The L316 has no instruction words: not one of the table's
rows gives a fixed bit or a field, so no word spells a command. -/

namespace Sys2Proof

/-- The command that a word of `nbits` bits spells by the table's bits: none, because no row of the table
gives bits (00_scope, the reader's counts: n_rows_with_fixed 0, n_rows_with_fields 0). -/
def decodeTableWord (_nbits _w : Nat) : Option Instr :=
  none

end Sys2Proof
end

