-- ==== Sys2Proof/Config.lean ====
section
/-! DEFINITION. What the manual leaves open and the model leaves free: three orders between blocks that take
one event together, and two moments within a period. Each is an uninterpreted constant; no proof can learn its value. -/

namespace Sys2Proof.Config

/-- R67 lets the beat unit and the cue table take a STATUS frame in either order. When true, an entry the
frame inserts is stamped with the clock as adopted from the frame; when false, with the clock before it. -/
opaque stampAfterAdoption : Bool

/-- R20 hands an eighth mark to the pattern player and the key unit and orders neither before the other.
When true, the key unit takes first the mark that completes a chord (R167). -/
opaque keysBeforePlayer : Bool

/-- R106 gives both orders of a restore and a conflict report that arrive together, as they do at the end of
a RESTORE frame that carries the own address (R69). When true the restore is taken first. -/
opaque restoreBeforeConflict : Bool

/-- R186 gives CFG_CLK's period, 10 µs, and not the moment at which it rises. The line rises this much more than 1 µs into
each clock period. -/
opaque memoryClockRise : Fin 9

/-- R139 gives the part of each period for which BCN is high at a level, and not where in the period that part lies.
At level `l` BCN is low for this many millionths of the period before it rises, taken modulo the places that leave
the high part whole. -/
opaque beaconLead (level : Nat) : Nat

end Sys2Proof.Config
end

