-- ==== Sys2Proof/Machine/State.lean ====
section
/-! DEFINITION. The state of one L316, block by block as the manual's chapters give it (00_scope section 2),
the commands that wait, the reasons a step can stop, and the state after reset. -/

namespace Sys2Proof.Machine

/-! ### The beat unit (section 1.1) -/

/-- How the beat unit treats falls of BEAT and its own timer. -/
inductive LockState where
  | halted
  | free
  | settling
  | locked
  deriving DecidableEq, Repr

/-- How a beat began (R1, R8). -/
inductive BeatKind where
  | start
  | followed
  | own
  | internal
  deriving DecidableEq, Repr

/-- The two lengths of mark (R3). -/
inductive MarkKind where
  | short
  | bar
  deriving DecidableEq, Repr

/-- The low pull the station holds on BEAT, and the time it has still to run. -/
structure Mark where
  kind : MarkKind
  remaining : Nat
  deriving DecidableEq, Repr

/-- The beat unit. `measuring` says that the low period of the last beat is being measured (R4). The STRAY
counter stands with the other counters. -/
structure BeatUnit where
  lock : LockState
  timer : Nat
  lastKind : BeatKind
  beatIndex : BitVec 4
  barCount : Byte
  eighth : Nat
  settle : Nat
  freeBeats : Nat
  strayTally : Nat
  phaseConfirmed : Bool
  mark : Option Mark
  lowTimer : Nat
  stuck : Bool
  measuring : Bool
  deriving DecidableEq, Repr

/-! ### The input pins -/

/-- The RST pin: high; low for the time given; or low in a hold that has already caused its cold start
(R183). -/
inductive RstPin where
  | high
  | timing (held : Nat)
  | held
  deriving DecidableEq, Repr

/-- The levels of the lines as the station reads them through its filter (R197), and of RST. `beatHeld` and
`dataHeld` are how long each line may have stood at the level it is not yet taken at: the time since the filter last
took a change, or since the station's own mark last held BEAT low, as far as the 2 µs of the filter. The keys' pins
stand in the key unit, PCS in the panel port. -/
structure Pins where
  beatLow : Bool
  dataLow : Bool
  beatHeld : Nat
  dataHeld : Nat
  rst : RstPin
  deriving DecidableEq, Repr

/-! ### The loop transceiver and its line receiver (sections 3.1 and 11.3) -/

/-- The three slots of a beat (R56). -/
inductive Slot where
  | openSlot
  | owned1
  | owned2
  deriving DecidableEq, Repr

/-- The parts of a beat (R56); `gap1` and `gap2` are the gaps before the owned slots. -/
inductive Part where
  | mark
  | openSlot
  | gap1
  | owned1
  | gap2
  | owned2
  | quiet
  deriving DecidableEq, Repr

/-- Where the line receiver stands (section 11.3). -/
inductive RxPhase where
  | idle
  | start
  | bits
  | stop
  | gap
  | waitHigh
  deriving DecidableEq, Repr

/-- The line receiver. `gapLead` is what is left of the stop bit before the gap timer starts (R200),
`fromGap` says that the start bit being confirmed was found in GAP (R199), `fallAt` is the slot timer at that
start bit's fall, if no beat has come since, and `stuckTold` that DATA's low period has been reported (R204). -/
structure Line where
  phase : RxPhase
  byteTimer : Nat
  bitCount : Nat
  shift : Byte
  gapTimer : Nat
  gapLead : Nat
  fromGap : Bool
  fallAt : Option Nat
  lowTimer : Nat
  stuckTold : Bool
  deriving DecidableEq, Repr

/-- The frame being received: the slot it is placed in, or none for a misplaced frame (R64), the slot timer at
its first fall, its first bytes, and whether no byte of it has broken a condition yet (R63). -/
structure Reception where
  slot : Option Slot
  began : Option Nat
  bytes : List Byte
  validSoFar : Bool
  deriving DecidableEq, Repr

/-- The outcome in the transmit record. -/
inductive TxOutcome where
  | sending
  | complete
  | abandoned
  deriving DecidableEq, Repr

/-- The transmit record. The byte and the bit of it being sent (0 the start bit, 9 the stop bit), the time
since that byte's start bit began, and whether the bit has been read back (R202). `byte` is the number of
bytes sent. -/
structure TxRecord where
  slot : Slot
  bytes : List Byte
  byte : Nat
  bit : Nat
  bitTimer : Nat
  sampled : Bool
  outcome : TxOutcome
  deriving DecidableEq, Repr

/-- What a valid STATUS of the slot's owner reported, kept for the pass report at the slot's end (R71). -/
structure OwnerStatus where
  faultByte : Byte
  supplyLow : Bool
  anyFault : Bool
  deriving DecidableEq, Repr

/-- How the open slot's one attempt stands (R87, R88): its moment is ahead; the own 20 ms has come while a start bit that
the station may align to waits for its confirmation; or its moment is past, whether or not a frame began. -/
inductive Attempt where
  | ahead
  | waiting
  | past
  deriving DecidableEq, Repr

/-- The slot state of the transceiver. -/
structure Transceiver where
  slotTimer : Nat
  part : Part
  owner : Option Nat
  placed : Bool
  conflictSeen : Bool
  attempt : Attempt
  heard : Option OwnerStatus
  rx : Option Reception
  tx : Option TxRecord
  deriving DecidableEq, Repr

/-! ### Requests, the transmit queue and the cue table (chapters 2 and 4) -/

/-- The cue number, priority and latched flag that a binding or a POST gives a request. -/
structure Request where
  cue : Nat
  priority : Nat
  latched : Bool
  deriving DecidableEq, Repr

/-- What a queued message announces. -/
inductive News where
  | raise (input : Nat) (r : Request)
  | clear (input : Nat) (r : Request)
  | silence
  | restore
  deriving DecidableEq, Repr

/-- A queued message (section 4.1). -/
structure Message where
  news : News
  join : Nat
  age : Nat
  onLine : Bool
  deriving DecidableEq, Repr

/-- The transmit queue, head first, and the join order the next message takes. -/
structure TxQueue where
  messages : List Message
  nextJoin : Nat
  deriving DecidableEq, Repr

/-- How far a request is confirmed by its origin (R25). -/
inductive EntryState where
  | active
  | orphaned
  | provisional
  deriving DecidableEq, Repr

/-- An entry of the cue table (section 2.1). Its origin kind is OWN when `origin` is the own address. -/
structure Entry where
  cue : Nat
  priority : Nat
  origin : Nat
  input : Nat
  state : EntryState
  latched : Bool
  silenced : Bool
  miss : Nat
  stampBar : Byte
  stampBeat : BitVec 4
  deriving DecidableEq, Repr

/-! ### The peer roster, the faults and the counters (chapter 5, section 12.8) -/

/-- How an address has been heard in its owned slot (R96). -/
inductive PeerState where
  | unknown
  | present
  | late
  | missing
  | self
  deriving DecidableEq, Repr

/-- A roster entry (section 5.1). `heardLocked` is the reported lock state LOCKED. -/
structure RosterEntry where
  state : PeerState
  miss : Nat
  lastHeard : Option (Byte × BitVec 4)
  faultByte : Byte
  supplyLow : Bool
  anyFault : Bool
  heardLocked : Bool
  deriving DecidableEq, Repr

/-- The eight faults, in the order of their numbers (section 5.4). -/
inductive FaultName where
  | peerMissing
  | addressConflict
  | lineFault
  | supplyLow
  | config
  | beatStuck
  | dataLine
  | tableOverflow
  deriving DecidableEq, Repr

/-- The seven counters (section 12.8). -/
structure Counters where
  rxErr : Nat
  misplaced : Nat
  arbLoss : Nat
  txqDiscard : Nat
  txExpired : Nat
  stray : Nat
  tableOvf : Nat
  deriving DecidableEq, Repr

/-! ### The pattern library and the player (chapter 6) -/

/-- The movement of the sounder's level within a step (R114). -/
inductive Envelope where
  | flat
  | decay
  | swell
  deriving DecidableEq, Repr

/-- A step as the pool stores it: duration and envelope code are bytes that may be out of range. -/
structure StoredStep where
  duration : Nat
  tone : Nat
  volume : Nat
  intensity : Nat
  envelopeCode : Nat
  deriving DecidableEq, Repr

/-- A directory record (R115). -/
structure PatternRecord where
  introStart : Nat
  introCount : Nat
  cycleStart : Nat
  cycleCount : Nat
  cycleBars : Nat
  deriving DecidableEq, Repr

/-- The pattern library (section 6.1). P0 is built in and not stored. -/
structure Library where
  cueMap : List Byte
  patternCount : Nat
  directory : List PatternRecord
  pool : List StoredStep
  effective : List Nat
  rejected : Nat
  deriving DecidableEq, Repr

/-- The playback states (R119). -/
inductive Playback where
  | silent
  | intro
  | cycle
  | test
  deriving DecidableEq, Repr

/-- The pattern player (section 6.2). -/
structure Player where
  mode : Playback
  current : Option Nat
  wanted : Option Nat
  restart : Bool
  introCount : Nat
  stepOffset : Nat
  testDue : Bool
  testBeats : Nat
  sound : Bool
  deriving DecidableEq, Repr

/-! ### The drives (section 7.1) -/

/-- The claimant the sounder is serving. -/
inductive SounderSource where
  | none
  | pattern
  | test
  | chirp
  deriving DecidableEq, Repr

/-- What a hand-over of tone carries (R138). -/
structure ToneStep where
  tone : Nat
  volume : Nat
  envelope : Envelope
  offset : Nat
  deriving DecidableEq, Repr

/-- The sounder drive and the beacon drive. `level` and `beaconLevel` are the levels being produced, which a
change of level reaches at a period start (R135, R139); `behind` is the rest step stored behind a chirp (R141);
`sndPhase` and `bcnPhase` say how far each wave has run since the period it last began, in millionths of a
period (R135, R139), and are 0 while the output is low. -/
structure Drive where
  source : SounderSource
  tone : Nat
  volume : Nat
  envelope : Envelope
  offset : Nat
  envelopeLevel : Nat
  level : Nat
  chirpTimer : Option Nat
  behind : Option ToneStep
  intensity : Nat
  beaconLevel : Nat
  sndPhase : Nat
  bcnPhase : Nat
  cap : Bool
  quiescent : Bool
  deriving DecidableEq, Repr

/-! ### Converter, scanner, inputs and keys (chapter 8) -/

/-- What the converter is doing. -/
inductive Conversion where
  | idle
  | scan (input : Nat)
  | supply
  deriving DecidableEq, Repr

/-- The converter and its arbiter. `discard` says that nobody wants the reading any more (R151); `fresh` that
the conversion began on a request at an idle converter and no time has passed since (R150). -/
structure Converter where
  activity : Conversion
  time : Nat
  discard : Bool
  fresh : Bool
  pendingSupply : Bool
  pendingScan : Option Nat
  deriving DecidableEq, Repr

/-- The scan rotation: its position, and the time since it moved there, or none while it does not run (R152). -/
structure Scanner where
  position : Nat
  timer : Option Nat
  deriving DecidableEq, Repr

/-- The binding of a field line (section 8.2). -/
structure Binding where
  enabled : Bool
  supervised : Bool
  code : Nat
  request : Request
  deriving DecidableEq, Repr

/-- The class of a reading of a field line (R153). -/
inductive Band where
  | none
  | short
  | active
  | normal
  | opened
  deriving DecidableEq, Repr

/-- The state of one input's request. -/
inductive RequestState where
  | idle
  | raised
  | held
  deriving DecidableEq, Repr

/-- One of the twelve inputs; `posted` are the fields a virtual input stores (R162). -/
structure Input where
  candidate : Band
  timer : Option Nat
  qualified : Band
  lineFault : Bool
  request : RequestState
  posted : Option Request
  deriving DecidableEq, Repr

/-- One key: pressed at the pin, pressed after debounce, and the debounce timer (R165). -/
structure KeyLine where
  raw : Bool
  debounced : Bool
  timer : Option Nat
  deriving DecidableEq, Repr

/-- How the presses so far are read (section 8.8). -/
inductive KeyState where
  | idle
  | ackDown
  | testDown
  | chord
  | spent
  deriving DecidableEq, Repr

/-- The key unit. -/
structure KeyUnit where
  ack : KeyLine
  test : KeyLine
  state : KeyState
  hold : Nat
  deriving DecidableEq, Repr

/-! ### The supply monitor (section 9.1) -/

/-- The supply condition the station acts on. -/
inductive Condition where
  | normal
  | low
  | cutoff
  deriving DecidableEq, Repr

/-- The supply monitor. -/
structure Supply where
  condition : Condition
  lastBand : Nat
  lowRun : Nat
  highRun : Nat
  zeroRun : Nat
  recoveryRun : Nat
  ownTimer : Option Nat
  deriving DecidableEq, Repr

/-! ### The start-up controller (section 10.1) -/

/-- How far the station takes part in the loop. -/
inductive StationState where
  | starting
  | joining
  | member
  | quiescent
  deriving DecidableEq, Repr

/-- The cause of the last start. -/
inductive StartCause where
  | powerOn
  | resetPin
  | supplyRecovery
  deriving DecidableEq, Repr

/-- Where a cold start stands. -/
inductive StartStep where
  | waiting
  | settlingWait
  | reading
  | checking
  | done
  deriving DecidableEq, Repr

/-- Whether the cold start has completed its load, and with what outcome. -/
inductive Validity where
  | notLoaded
  | accepted
  | rejected
  deriving DecidableEq, Repr

/-- The start-up controller. `stepTimer` is the time since the start step began, `image` the bytes read so
far, and `memoryBusy` says that the station holds the two memory lines for a read (R186). -/
structure Startup where
  station : StationState
  cause : StartCause
  step : StartStep
  stepTimer : Nat
  ownAddr : Nat
  validity : Validity
  membership : Nat
  image : List Byte
  memoryBusy : Bool
  deriving DecidableEq, Repr

/-! ### The panel port (section 12.1) -/

/-- The panel port. `opened` is PCS low; `dropped` marks a transaction that was open at a start and is not
taken (R221); `bitCount` and `shift` are the byte being clocked in, `pso` the level of PSO. -/
structure Port where
  opened : Bool
  dropped : Bool
  buffer : List Byte
  bitCount : Nat
  shift : Byte
  outPos : Nat
  pso : Bool
  held : List Byte
  attn : Bool
  deriving DecidableEq, Repr

/-! ### The station -/

/-- The whole station, and the commands that wait, first in, first out. -/
structure State where
  pending : List Instr
  pins : Pins
  beat : BeatUnit
  line : Line
  loop : Transceiver
  queue : TxQueue
  table : List Entry
  roster : List RosterEntry
  faults : Byte
  counters : Counters
  library : Library
  player : Player
  drive : Drive
  converter : Converter
  scanner : Scanner
  bindings : List Binding
  inputs : List Input
  keys : KeyUnit
  supply : Supply
  startup : Startup
  port : Port
  deriving DecidableEq, Repr

/-- The reasons a step can stop with a fault. There is none: no rule of the manual stops the station, so the
type is empty and no command can raise a fault. -/
inductive Fault where
  deriving DecidableEq, Repr

/-- The reasons a command could be refused. -/
inductive Refusal where
  /-- Raised by exec for a command that has no meaning yet; none is left. Safe. -/
  | notModelled (mnemonic : String)
  deriving DecidableEq, Repr

/-! ### Replacing one block -/

/-- The state with its pending replaced. -/
def State.setPending (s : State) (x : List Instr) : State := { s with pending := x }

/-- The state with its pins replaced. -/
def State.setPins (s : State) (x : Pins) : State := { s with pins := x }

/-- The state with its beat replaced. -/
def State.setBeat (s : State) (x : BeatUnit) : State := { s with beat := x }

/-- The state with its line replaced. -/
def State.setLine (s : State) (x : Line) : State := { s with line := x }

/-- The state with its loop replaced. -/
def State.setLoop (s : State) (x : Transceiver) : State := { s with loop := x }

/-- The state with its queue replaced. -/
def State.setQueue (s : State) (x : TxQueue) : State := { s with queue := x }

/-- The state with its table replaced. -/
def State.setTable (s : State) (x : List Entry) : State := { s with table := x }

/-- The state with its roster replaced. -/
def State.setRoster (s : State) (x : List RosterEntry) : State := { s with roster := x }

/-- The state with its faults replaced. -/
def State.setFaults (s : State) (x : Byte) : State := { s with faults := x }

/-- The state with its counters replaced. -/
def State.setCounters (s : State) (x : Counters) : State := { s with counters := x }

/-- The state with its library replaced. -/
def State.setLibrary (s : State) (x : Library) : State := { s with library := x }

/-- The state with its player replaced. -/
def State.setPlayer (s : State) (x : Player) : State := { s with player := x }

/-- The state with its drive replaced. -/
def State.setDrive (s : State) (x : Drive) : State := { s with drive := x }

/-- The state with its converter replaced. -/
def State.setConverter (s : State) (x : Converter) : State := { s with converter := x }

/-- The state with its scanner replaced. -/
def State.setScanner (s : State) (x : Scanner) : State := { s with scanner := x }

/-- The state with its bindings replaced. -/
def State.setBindings (s : State) (x : List Binding) : State := { s with bindings := x }

/-- The state with its inputs replaced. -/
def State.setInputs (s : State) (x : List Input) : State := { s with inputs := x }

/-- The state with its keys replaced. -/
def State.setKeys (s : State) (x : KeyUnit) : State := { s with keys := x }

/-- The state with its supply replaced. -/
def State.setSupply (s : State) (x : Supply) : State := { s with supply := x }

/-- The state with its startup replaced. -/
def State.setStartup (s : State) (x : Startup) : State := { s with startup := x }

/-- The state with its port replaced. -/
def State.setPort (s : State) (x : Port) : State := { s with port := x }

/-! ### The start values -/

/-- A roster entry at a start (R103). -/
def RosterEntry.atStart : RosterEntry :=
  ⟨.unknown, 0, none, 0#8, false, false, false⟩

/-- The roster at a start, with its SELF entry at the own address (R103). -/
def rosterAtStart (own : Nat) : List RosterEntry :=
  (List.replicate 32 RosterEntry.atStart).modify own fun e => { e with state := .self }

/-- An input at a start (R164). -/
def Input.atStart : Input :=
  ⟨.none, none, .none, false, .idle, none⟩

/-- A disabled field line (R164, R189). The manual gives only that it is not enabled. DESIGN CHOICE: its other fields, which
nothing reads while it is disabled, are PLAIN, code 0, cue 1, priority 1, not latched (log entry 9). -/
def Binding.disabled : Binding :=
  ⟨false, false, 0, ⟨1, 1, false⟩⟩

/-- The library's defaults, by which every cue plays P0 (R113). DESIGN CHOICE: R113 says of the directory and the
pool only that they are not used, and gives no pattern count; here both are empty and the count is 1, P0 alone
(log entry 9). -/
def Library.defaults : Library :=
  ⟨List.replicate 63 0#8, 1, [], [], List.replicate 63 0, 0⟩

/-- The held response NO_RESPONSE (R207): status 0x01, code 0x00, length 0 and the check byte. -/
def noResponse : List Byte :=
  [0x01#8, 0x00#8, 0x00#8, 0x6B#8]

/-- The station after a power-on with RST high and nothing attached but the pull-ups: the cold-start values
of R23, R55, R77, R95, R103, R112, R113, R133, R147, R151, R164, R165, R170, R180, R183, R205, R220 and R221. -/
def State.reset : State where
  pending := []
  pins := ⟨false, false, 2, 2, .high⟩
  beat := ⟨.halted, 0, .start, 0#4, 0#8, 0, 0, 0, 0, false, none, 0, false, false⟩
  line := ⟨.idle, 0, 0, 0#8, 0, 0, false, none, 0, false⟩
  loop := ⟨0, .mark, none, false, false, .ahead, none, none, none⟩
  queue := ⟨[], 0⟩
  table := []
  roster := rosterAtStart 0
  faults := 0#8
  counters := ⟨0, 0, 0, 0, 0, 0, 0⟩
  library := Library.defaults
  player := ⟨.silent, none, none, false, 0, 0, false, 0, false⟩
  drive := ⟨.none, 0, 0, .flat, 0, 0, 0, none, none, 0, 0, 0, 0, false, false⟩
  converter := ⟨.supply, 0, false, true, false, none⟩
  scanner := ⟨0, none⟩
  bindings := List.replicate 8 Binding.disabled
  inputs := List.replicate 12 Input.atStart
  keys := ⟨⟨false, false, none⟩, ⟨false, false, none⟩, .idle, 0⟩
  supply := ⟨.normal, 0, 0, 0, 0, 0, some 0⟩
  startup := ⟨.starting, .powerOn, .settlingWait, 0, 0, .notLoaded, 0, [], false⟩
  port := ⟨false, false, [], 0, 0#8, 0, false, noResponse, true⟩

end Sys2Proof.Machine
end

