-- ==== Sys2Proof/Machine/Timing.lean ====
section
/-! DEFINITION. The nominal times of the manual in microseconds, and the passing of time through every timer
the station keeps. -/

namespace Sys2Proof.Machine

/-- A beat (R1). -/
def beatTime : Nat := 250000
/-- The end of the mark and guard time (R6), and the beginning of the open slot (R56). -/
def guardTime : Nat := 20000
/-- The beginning of the capture window (section 1.3). -/
def captureTime : Nat := 230000
/-- The length of a short mark (R3). -/
def shortMarkTime : Nat := 4000
/-- The length of a bar mark (R3). -/
def barMarkTime : Nat := 12000
/-- The low time that makes a bar mark (R4). -/
def barThreshold : Nat := 8000
/-- One eighth of a beat (R20); also the length of a chirp (R142). -/
def eighthTime : Nat := 31250
/-- The low time after which BEAT is stuck (R21). -/
def beatStuckTime : Nat := 40000
/-- The low time after which DATA is stuck (R204). -/
def dataStuckTime : Nat := 2000
/-- The time for which a line holds a new level before the filter takes it (R197). -/
def filterTime : Nat := 2
/-- One bit on DATA (R198). -/
def bitTime : Nat := 100
/-- The length of a start window (R56). -/
def startWindow : Nat := 4000
/-- The margin with which a receiver judges placement (R58). -/
def placementMargin : Nat := 5000
/-- A conversion (R149). -/
def conversionTime : Nat := 250
/-- A scan position (R152). -/
def scanTime : Nat := 1250
/-- The debounce time of a key (R165). -/
def debounceTime : Nat := 20000
/-- The chord count (R167). -/
def chordMarks : Nat := 64
/-- The period of the supply monitor's own timer (R171). -/
def ownTimerPeriod : Nat := 250000
/-- The settling wait of a cold start (R184). -/
def settlingWaitTime : Nat := 1000000
/-- The RST hold that causes a cold start (R183). -/
def resetHoldTime : Nat := 1000
/-- One byte on the memory's lines (R186). -/
def memoryByteTime : Nat := 90
/-- One clock period on the memory's lines (R186). -/
def memoryBitTime : Nat := 10
/-- A period of SND or BCN in the unit of its phase, a millionth of a period, so that a wave of `hz` Hz advances by
`hz` in a microsecond (R135, R139). -/
def wholePeriod : Nat := 1000000
/-- The frequency of BCN in Hz (R139). -/
def beaconHz : Nat := 1000
/-- The longest qualification time (section 8.4). -/
def longQualification : Nat := 2000000

/-- The time a slot begins (R56). -/
def Slot.begins : Slot → Nat
  | .openSlot => 20000
  | .owned1 => 65000
  | .owned2 => 145000

/-- The time a slot ends (R56). -/
def Slot.ends : Slot → Nat
  | .openSlot => 60000
  | .owned1 => 140000
  | .owned2 => 220000

/-- Whether the station is JOINING or MEMBER: the states in which it runs on the loop (R182). -/
def State.running (s : State) : Bool :=
  s.startup.station == .joining || s.startup.station == .member

/-- Whether the station is MEMBER. -/
def State.isMember (s : State) : Bool :=
  s.startup.station == .member

/-- A timer that stops counting at the value it is judged at. -/
def tick (cap dt t : Nat) : Nat :=
  min cap (t + dt)

/-- The length of a mark (R3). -/
def MarkKind.time : MarkKind → Nat
  | .short => shortMarkTime
  | .bar => barMarkTime

/-- How long it will be before the station sees its own mark on the line through its filter (R197). -/
def Mark.unseen (m : Mark) : Nat :=
  m.remaining + filterTime - m.kind.time

/-- For how much of `dt` BEAT is low as the station reads it: all of it while the line is low, and else from the
moment its own mark is seen (R197). -/
def lowWithin (low : Bool) (mark : Option Mark) (dt : Nat) : Nat :=
  if low then dt
  else
    match mark with
    | some m => dt - m.unseen
    | none => 0

/-- The beat timer does not run in HALTED (R7), the low timer runs while BEAT is low (R21). -/
def BeatUnit.elapse (low : Bool) (dt : Nat) (b : BeatUnit) : BeatUnit :=
  { b with
    timer := if b.lock = .halted then b.timer else tick beatTime dt b.timer
    mark := b.mark.map fun m => { m with remaining := m.remaining - dt }
    lowTimer := b.lowTimer + lowWithin low b.mark dt }

/-- RST's hold is timed to 1 ms (R183). -/
def RstPin.elapse (dt : Nat) : RstPin → RstPin
  | .timing t => .timing (tick resetHoldTime dt t)
  | p => p

/-- The lines through the filter (R197): the station's own mark is seen once it has held BEAT low for 2 µs, without a
fall (R3), and while it holds the line low no other level can have begun there. -/
def Pins.elapse (mark : Option Mark) (dt : Nat) (p : Pins) : Pins :=
  let low := p.beatLow || mark.any fun m => decide (m.unseen ≤ dt)
  { p with
    beatLow := low
    beatHeld := if mark.isSome && low then 0 else tick filterTime dt p.beatHeld
    dataHeld := tick filterTime dt p.dataHeld
    rst := p.rst.elapse dt }

/-- Whether the gap timer counts: in GAP, and through a start bit found in GAP and not yet confirmed (R199). -/
def Line.inGap (l : Line) : Bool :=
  l.phase == .gap || (l.phase == .start && l.fromGap)

/-- The byte timer runs from a start bit's fall (R199); the gap timer begins at the nominal end of the stop bit
(R200); DATA's low timer runs while the station is JOINING or MEMBER (R204). DESIGN CHOICE: R199 starts the byte timer
and does not stop it; here it runs through the byte and on in GAP, and holds its value in IDLE and WAIT_HIGH. The
gap timer likewise holds its value outside the gap (log entry 11). -/
def Line.elapse (running low : Bool) (dt : Nat) (l : Line) : Line :=
  { l with
    byteTimer := if l.phase == .idle || l.phase == .waitHigh then l.byteTimer else l.byteTimer + dt
    gapTimer := if l.inGap then l.gapTimer + (dt - l.gapLead) else l.gapTimer
    gapLead := if l.inGap then l.gapLead - dt else l.gapLead
    lowTimer := if running && low then l.lowTimer + dt else l.lowTimer }

/-- The frequency of a tone code in Hz (R135). -/
def toneHz (code : Nat) : Nat :=
  [0, 400, 500, 600, 700, 800, 900, 1000, 1200, 1400, 1600, 1800, 2000, 2400, 2800, 3200].getD code 0

/-- Whether SND carries a square wave (R135). -/
def Drive.sounding (d : Drive) : Bool :=
  d.tone != 0 && d.level != 0

/-- The chirp timer (R142) and the waves of SND and BCN, which run while the outputs are not low (R135, R139). -/
def Drive.elapse (dt : Nat) (d : Drive) : Drive :=
  { d with
    chirpTimer := d.chirpTimer.map (tick eighthTime dt)
    sndPhase := if d.sounding then d.sndPhase + toneHz d.tone * dt else d.sndPhase
    bcnPhase := if d.beaconLevel != 0 then d.bcnPhase + beaconHz * dt else d.bcnPhase }

/-- The slot timer stops while the station is STARTING or QUIESCENT (R56). -/
def Transceiver.elapse (running : Bool) (dt : Nat) (t : Transceiver) : Transceiver :=
  { t with
    slotTimer := if running then t.slotTimer + dt else t.slotTimer
    tx := t.tx.map fun r => { r with bitTimer := r.bitTimer + dt } }

/-- Time since the conversion in progress began (R149). -/
def Converter.elapse (dt : Nat) (c : Converter) : Converter :=
  { c with
    time := if c.activity = .idle then c.time else tick conversionTime dt c.time
    fresh := c.fresh && dt == 0 }

/-- An input's qualification timer (R154). -/
def Input.elapse (dt : Nat) (i : Input) : Input :=
  { i with timer := i.timer.map (tick longQualification dt) }

/-- A key's debounce timer (R165). -/
def KeyLine.elapse (dt : Nat) (k : KeyLine) : KeyLine :=
  { k with timer := k.timer.map (tick debounceTime dt) }

/-- The time since a start step began (R184). -/
def Startup.elapse (dt : Nat) (u : Startup) : Startup :=
  { u with stepTimer := if u.station = .starting then u.stepTimer + dt else u.stepTimer }

/-- `dt` microseconds pass in which no step is taken: every timer that runs advances, and nothing else
changes. A timer whose range the manual gives stops at the end of that range. -/
def State.elapse (dt : Nat) (s : State) : State :=
  { s with
    pins := s.pins.elapse s.beat.mark dt
    beat := s.beat.elapse s.pins.beatLow dt
    line := s.line.elapse s.running s.pins.dataLow dt
    loop := s.loop.elapse s.running dt
    drive := s.drive.elapse dt
    converter := s.converter.elapse dt
    scanner := { s.scanner with timer := s.scanner.timer.map (tick scanTime dt) }
    inputs := s.inputs.map (Input.elapse dt)
    keys := { s.keys with ack := s.keys.ack.elapse dt, test := s.keys.test.elapse dt }
    supply := { s.supply with ownTimer := s.supply.ownTimer.map (tick ownTimerPeriod dt) }
    startup := s.startup.elapse dt }

end Sys2Proof.Machine
end

