-- ==== Sys2Proof/Machine/Flags.lean ====
section
/-! DEFINITION. The fault summary (sections 5.4 and 5.5), the counters (section 12.8), the ATTN latch
(section 12.7) and the levels of the output pins. -/

namespace Sys2Proof.Machine

/-- A report that sets the ATTN latch (R219). -/
def markAttn (s : State) : State :=
  s.setPort { s.port with attn := true }

/-! ### Faults -/

/-- The number of a fault, its bit in the fault byte (section 5.4). -/
def FaultName.bit : FaultName → Nat
  | .peerMissing => 0
  | .addressConflict => 1
  | .lineFault => 2
  | .supplyLow => 3
  | .config => 4
  | .beatStuck => 5
  | .dataLine => 6
  | .tableOverflow => 7

/-- The fault byte that holds one fault. -/
def FaultName.mask (f : FaultName) : Byte :=
  1#8 <<< f.bit

/-- Whether a fault is in a fault byte. -/
def hasFault (faults : Byte) (f : FaultName) : Bool :=
  faults.getLsbD f.bit

/-- A report that sets a fault: a change of the set marks the ATTN latch, and a report that finds the fault set
changes nothing (R104). -/
def setFault (f : FaultName) (s : State) : State :=
  if hasFault s.faults f then s else markAttn (s.setFaults (s.faults ||| f.mask))

/-- A report that clears a fault (R104). -/
def clearFault (f : FaultName) (s : State) : State :=
  if hasFault s.faults f then markAttn (s.setFaults (s.faults &&& ~~~f.mask)) else s

/-- The any-fault flag (R111). -/
def State.anyFault (s : State) : Bool :=
  s.faults != 0#8

/-- The supply-LOW flag (R72). -/
def State.supplyLowFlag (s : State) : Bool :=
  s.supply.condition == .low

/-! ### Counters -/

/-- The names of the seven counters. -/
inductive CounterName where
  | rxErr
  | misplaced
  | arbLoss
  | txqDiscard
  | txExpired
  | stray
  | tableOvf
  deriving DecidableEq, Repr

/-- A counter's value. -/
def Counters.get (c : Counters) : CounterName → Nat
  | .rxErr => c.rxErr
  | .misplaced => c.misplaced
  | .arbLoss => c.arbLoss
  | .txqDiscard => c.txqDiscard
  | .txExpired => c.txExpired
  | .stray => c.stray
  | .tableOvf => c.tableOvf

/-- A counter replaced. -/
def Counters.put (c : Counters) : CounterName → Nat → Counters
  | .rxErr, n => { c with rxErr := n }
  | .misplaced, n => { c with misplaced := n }
  | .arbLoss, n => { c with arbLoss := n }
  | .txqDiscard, n => { c with txqDiscard := n }
  | .txExpired, n => { c with txExpired := n }
  | .stray, n => { c with stray := n }
  | .tableOvf, n => { c with tableOvf := n }

/-- All seven counters at 0 (R218, R220). -/
def Counters.zero : Counters :=
  ⟨0, 0, 0, 0, 0, 0, 0⟩

/-- A counter advances by one, holds at 255, and marks the ATTN latch when it reaches 255 from 254 (R220). -/
def bump (n : CounterName) (s : State) : State :=
  if 255 ≤ s.counters.get n then s
  else
    let t := s.setCounters (s.counters.put n (s.counters.get n + 1))
    if s.counters.get n = 254 then markAttn t else t

/-- `k` advances of one counter. -/
def bumpTimes (n : CounterName) : Nat → State → State
  | 0, s => s
  | k + 1, s => bumpTimes n k (bump n s)

/-! ### The output pins -/

/-- BEAT is pulled low by the station while it holds a mark (R3). -/
def State.drivesBeat (s : State) : Bool :=
  s.beat.mark.isSome

/-- The level a byte of a frame puts on DATA at a bit: a dominant start bit, the data bits most significant
first, a recessive stop bit (R198). True is recessive. -/
def bitLevel (b : Byte) (bit : Nat) : Bool :=
  if bit = 0 then false else if bit ≤ 8 then b.getMsbD (bit - 1) else true

/-- Whether a frame is still on its way out. -/
def TxRecord.driving (r : TxRecord) : Bool :=
  r.outcome != .abandoned && decide (r.byte < r.bytes.length)

/-- The level of the bit being sent; recessive once nothing is driven. -/
def TxRecord.level (r : TxRecord) : Bool :=
  !r.driving || bitLevel (r.bytes.getD r.byte 0#8) r.bit

/-- DATA is pulled low by the station while it sends a dominant bit (R201). -/
def State.drivesData (s : State) : Bool :=
  match s.loop.tx with
  | none => false
  | some r => !r.level

/-- FLT is low while the fault set holds a fault and while the station is QUIESCENT (R110). -/
def State.fltLow (s : State) : Bool :=
  s.anyFault || s.startup.station == .quiescent

/-- ATTN is low while the latch is set, and held high in QUIESCENT (R219). -/
def State.attnLow (s : State) : Bool :=
  s.port.attn && s.startup.station != .quiescent

/-- The high part of each period of SND, in eighths (R136). -/
def sndDuty (level : Nat) : Nat :=
  [0, 1, 2, 4].getD level 0

/-- SND: low, or a square wave by its frequency in Hz and its duty in eighths (R135, R136). -/
def State.snd (s : State) : Option (Nat × Nat) :=
  if s.drive.sounding then some (toneHz s.drive.tone, sndDuty s.drive.level) else none

/-- Whether SND is high at this moment: the high part comes first in each period (R136). -/
def State.sndHigh (s : State) : Bool :=
  s.drive.sounding
    && decide (8 * (s.drive.sndPhase % wholePeriod) < sndDuty s.drive.level * wholePeriod)

/-- The high part of each 1 kHz period of BCN, in quarters (R139). -/
def State.bcn (s : State) : Nat :=
  [0, 1, 2, 4].getD s.drive.beaconLevel 0

/-- How long BCN is high in each period, in millionths of it (R139). -/
def State.bcnWidth (s : State) : Nat :=
  s.bcn * (wholePeriod / 4)

/-- Where in its period BCN rises, in millionths: R139 does not place the high part, and it is free (log entry 17). -/
def State.bcnRise (s : State) : Nat :=
  Config.beaconLead s.drive.beaconLevel % (wholePeriod - s.bcnWidth + 1)

/-- Whether BCN is high at this moment (R139): from its rise, for as long as its level gives. -/
def State.bcnHigh (s : State) : Bool :=
  let phase := s.drive.bcnPhase % wholePeriod
  decide (s.bcnRise ≤ phase) && decide (phase < s.bcnRise + s.bcnWidth)

/-- PSO while a transaction is open (R206). -/
def State.psoLevel (s : State) : Option Bool :=
  if s.port.opened then some s.port.pso else none

end Sys2Proof.Machine
end

