-- ==== Sys2Proof/Machine/Operands.lean ====
section
/-! DEFINITION. The byte layouts: loop frames (section 3.4), the configuration image (section 10.3) and panel
frames (section 12.3), with their checks. -/

namespace Sys2Proof.Machine

/-! ### Checks -/

/-- One step of the CRC-8 register (R62). -/
def crc8Step (r : Byte) : Byte :=
  if r.msb then (r <<< 1) ^^^ 0x07#8 else r <<< 1

/-- One byte through the CRC-8 register (R62). -/
def crc8Byte (r b : Byte) : Byte :=
  Nat.iterate crc8Step 8 (r ^^^ b)

/-- The check byte over a sequence of bytes (R62). -/
def crc8 (bs : List Byte) : Byte :=
  bs.foldl crc8Byte 0#8

/-- One step of the CRC-16 register (R188). -/
def crc16Step (r : BitVec 16) : BitVec 16 :=
  if r.msb then (r <<< 1) ^^^ 0x1021#16 else r <<< 1

/-- One byte through the CRC-16 register (R188). -/
def crc16Byte (r : BitVec 16) (b : Byte) : BitVec 16 :=
  Nat.iterate crc16Step 8 (r ^^^ (b.setWidth 16 <<< 8))

/-- The check over the bytes of an image (R188). -/
def crc16 (bs : List Byte) : BitVec 16 :=
  bs.foldl crc16Byte 0xFFFF#16

/-- A byte of a sequence; 0 past its end. -/
def byteAt (bs : List Byte) (i : Nat) : Byte :=
  bs.getD i 0#8

/-- The bits of a byte from `lo` up, `n` of them, as a number. -/
def bitsOf (b : Byte) (lo n : Nat) : Nat :=
  b.toNat / 2 ^ lo % 2 ^ n

/-- A one-bit field placed in a byte. -/
def flagBit (b : Bool) (n : Nat) : Nat :=
  if b then 2 ^ n else 0

/-! ### Loop frames -/

/-- The kinds of frame (R60). -/
inductive FrameKind where
  | raise
  | restore
  | silence
  | clear
  | status
  deriving DecidableEq, Repr

/-- An item (section 3.4). -/
structure Item where
  input : Nat
  cue : Nat
  priority : Nat
  latched : Bool
  silenced : Bool
  deriving DecidableEq, Repr

/-- The contents of a frame (section 3.4). `faultByte` is 0 but in a STATUS. -/
structure Frame where
  kind : FrameKind
  sender : Nat
  supplyLow : Bool
  anyFault : Bool
  bar : Byte
  beat : BitVec 4
  faultByte : Byte
  items : List Item
  deriving DecidableEq, Repr

/-- The kind a lead byte gives; none for an unknown lead byte (R60). -/
def kindOfLead (b : Byte) : Option FrameKind :=
  if 0x20 ≤ b.toNat ∧ b.toNat ≤ 0x26 then some .raise
  else if b.toNat = 0x30 then some .restore
  else if b.toNat = 0x40 then some .silence
  else if b.toNat = 0x50 then some .clear
  else if b.toNat = 0x80 then some .status
  else none

/-- The lead byte of a RAISE of the given priority: 0x20 for priority 7 up to 0x26 for priority 1 (R60). -/
def raiseLead (priority : Nat) : Nat :=
  0x20 + (7 - priority)

/-- The lead byte of a kind, for a RAISE by its item's priority (R60). -/
def leadOf (k : FrameKind) (priority : Nat) : Nat :=
  match k with
  | .raise => raiseLead priority
  | .restore => 0x30
  | .silence => 0x40
  | .clear => 0x50
  | .status => 0x80

/-- The item counts a kind allows (R60). -/
def countAllowed (k : FrameKind) (n : Nat) : Bool :=
  match k with
  | .raise | .clear => n == 1
  | .restore | .silence => n == 0
  | .status => decide (n ≤ 12)

/-- Where the items of a kind begin: after the header, and in a STATUS after the fault byte. -/
def itemsAt : FrameKind → Nat
  | .status => 5
  | _ => 4

/-- The slots a kind may be sent in (R60). -/
def slotAllowed (k : FrameKind) (slot : Slot) : Bool :=
  match k, slot with
  | .status, .openSlot => false
  | .status, _ => true
  | _, .openSlot => true
  | _, _ => false

/-- The expected length of a frame, learnt from its lead byte and its item count (R61); none while it is not
known, and for a frame that has none. -/
def expectedLength (bs : List Byte) : Option Nat :=
  if bs.length < 4 then none
  else
    match kindOfLead (byteAt bs 0) with
    | none => none
    | some k =>
      let n := bitsOf (byteAt bs 3) 4 4
      if countAllowed k n then some (itemsAt k + 2 * n + 1) else none

/-- The item that two bytes hold (section 3.4). -/
def itemOf (a b : Byte) : Item where
  input := bitsOf b 3 4
  cue := bitsOf a 0 6
  priority := bitsOf b 0 3
  latched := bitsOf a 6 1 == 1
  silenced := bitsOf a 7 1 == 1

/-- The ranges of an item's fields (R63). -/
def Item.inRange (i : Item) : Bool :=
  decide (1 ≤ i.cue) && decide (i.cue ≤ 63) && decide (1 ≤ i.priority) && decide (i.priority ≤ 7)
    && decide (i.input ≤ 11)

/-- The two bytes of an item (section 3.4). -/
def Item.bytes (i : Item) : List Byte :=
  [BitVec.ofNat 8 (flagBit i.silenced 7 + flagBit i.latched 6 + i.cue),
   BitVec.ofNat 8 (i.input * 8 + i.priority)]

/-- The items of a frame of `n` items that begin at byte `at_`. -/
def itemsFrom (bs : List Byte) (at_ : Nat) : Nat → List Item
  | 0 => []
  | n + 1 => itemOf (byteAt bs at_) (byteAt bs (at_ + 1)) :: itemsFrom bs (at_ + 2) n

/-- Whether two item bytes satisfy the item conditions of R63. -/
def itemBytesOk (a b : Byte) : Bool :=
  bitsOf b 7 1 == 0 && (itemOf a b).inRange

/-- The item conditions of R63 for the first `n` items. -/
def itemsOk (bs : List Byte) (at_ : Nat) : Nat → Bool
  | 0 => true
  | n + 1 => itemBytesOk (byteAt bs at_) (byteAt bs (at_ + 1)) && itemsOk bs (at_ + 2) n

/-- In a RAISE the item's priority is the one the lead byte gives (R60). -/
def raisePriorityOk (k : FrameKind) (lead : Byte) (items : List Item) : Bool :=
  match k, items with
  | .raise, i :: _ => lead.toNat == raiseLead i.priority
  | _, _ => true

/-- Item byte A by itself: a cue number of 1 to 63 (R63). -/
def cueByteOk (a : Byte) : Bool :=
  decide (1 ≤ bitsOf a 0 6)

/-- The conditions of R63 that the bytes received so far can break: every byte is checked when it comes, and item byte
A for its cue number before item byte B has come. -/
def validPrefix (bs : List Byte) : Bool :=
  match bs with
  | [] => true
  | lead :: _ =>
    match kindOfLead lead with
    | none => false
    | some k =>
      let n := bitsOf (byteAt bs 3) 4 4
      let complete := min n ((bs.length - itemsAt k) / 2)
      let next := itemsAt k + 2 * complete
      (decide (bs.length < 2) || bitsOf (byteAt bs 1) 7 1 == 0)
        && (decide (bs.length < 4)
          || (countAllowed k n && itemsOk bs (itemsAt k) complete
            && raisePriorityOk k lead (itemsFrom bs (itemsAt k) complete)
            && (decide (n ≤ complete) || decide (bs.length ≤ next) || cueByteOk (byteAt bs next))))

/-- The contents of a whole frame that satisfies every condition of R63 on its bytes. -/
def parseFrame (bs : List Byte) : Option Frame :=
  match kindOfLead (byteAt bs 0) with
  | none => none
  | some k =>
    let n := bitsOf (byteAt bs 3) 4 4
    if expectedLength bs = some bs.length ∧ crc8 bs = 0#8 ∧ validPrefix bs then
      some
        { kind := k
          sender := bitsOf (byteAt bs 1) 0 5
          supplyLow := bitsOf (byteAt bs 1) 5 1 == 1
          anyFault := bitsOf (byteAt bs 1) 6 1 == 1
          bar := byteAt bs 2
          beat := BitVec.ofNat 4 (bitsOf (byteAt bs 3) 0 4)
          faultByte := if k = .status then byteAt bs 4 else 0#8
          items := itemsFrom bs (itemsAt k) n }
    else none

/-- The bytes of a frame before its check byte (section 3.4). -/
def Frame.body (f : Frame) : List Byte :=
  [BitVec.ofNat 8 (leadOf f.kind ((f.items.head?.map Item.priority).getD 0)),
   BitVec.ofNat 8 (flagBit f.anyFault 6 + flagBit f.supplyLow 5 + f.sender),
   f.bar,
   BitVec.ofNat 8 (f.items.length * 16 + f.beat.toNat)]
    ++ (if f.kind = .status then [f.faultByte] else [])
    ++ f.items.flatMap Item.bytes

/-- A frame as sent: its body and its check byte. -/
def Frame.bytes (f : Frame) : List Byte :=
  f.body ++ [crc8 f.body]

/-- The frames that R60 and R63 allow. -/
def Frame.wellFormed (f : Frame) : Bool :=
  decide (f.sender ≤ 31) && countAllowed f.kind f.items.length && f.items.all Item.inRange
    && (f.kind == .status || f.faultByte == 0#8)

/-! ### The configuration image -/

/-- The lengths of the parts of an image (section 10.3). -/
def headerLength : Nat := 7
/-- The step position of the image's first step. -/
def stepsAt : Nat := 206

/-- Two bytes, most significant first. -/
def wordAt (bs : List Byte) (i : Nat) : Nat :=
  (byteAt bs i).toNat * 256 + (byteAt bs (i + 1)).toNat

/-- The total image length the header gives. -/
def imageLength (bs : List Byte) : Nat := wordAt bs 2
/-- The pattern count the header gives. -/
def imagePatterns (bs : List Byte) : Nat := (byteAt bs 4).toNat
/-- The step count the header gives. -/
def imageSteps (bs : List Byte) : Nat := wordAt bs 5

/-- Checks 1 to 3 of R187, made on the header. -/
def headerOk (bs : List Byte) : Bool :=
  wordAt bs 0 == 0x5E1C
    && decide (imageLength bs ≤ 2048) && imageLength bs == 208 + 4 * imageSteps bs
    && decide (1 ≤ imagePatterns bs) && decide (imagePatterns bs ≤ 24) && decide (imageSteps bs ≤ 256)

/-- Check 4 of R187: the two last bytes are the CRC-16 of the others (R188). -/
def imageCheckOk (bs : List Byte) : Bool :=
  crc16 (bs.take (bs.length - 2)) == BitVec.ofNat 16 (wordAt bs (bs.length - 2))

/-- The binding of input `n` (section 10.3). -/
def imageBinding (bs : List Byte) (n : Nat) : Binding :=
  let a := byteAt bs (7 + 2 * n)
  let b := byteAt bs (8 + 2 * n)
  { enabled := bitsOf a 7 1 == 1
    supervised := bitsOf a 6 1 == 1
    code := bitsOf a 3 2
    request := ⟨bitsOf b 0 6, bitsOf a 0 3, bitsOf a 5 1 == 1⟩ }

/-- Check 5 of R187 for one binding record. -/
def bindingOk (bs : List Byte) (n : Nat) : Bool :=
  let b := imageBinding bs n
  decide (1 ≤ b.request.priority) && decide (1 ≤ b.request.cue) && bitsOf (byteAt bs (8 + 2 * n)) 6 2 == 0

/-- Checks 4 and 5 of R187, made on the whole image. -/
def imageOk (bs : List Byte) : Bool :=
  imageCheckOk bs && (List.range 8).all (bindingOk bs)

/-- Directory record `p` (section 10.3). -/
def imageRecord (bs : List Byte) (p : Nat) : PatternRecord :=
  ⟨(byteAt bs (86 + 5 * p)).toNat, (byteAt bs (87 + 5 * p)).toNat, (byteAt bs (88 + 5 * p)).toNat,
   (byteAt bs (89 + 5 * p)).toNat, (byteAt bs (90 + 5 * p)).toNat⟩

/-- Step `k` (section 10.3). -/
def imageStep (bs : List Byte) (k : Nat) : StoredStep :=
  { duration := (byteAt bs (stepsAt + 4 * k)).toNat
    tone := bitsOf (byteAt bs (207 + 4 * k)) 4 4
    volume := bitsOf (byteAt bs (207 + 4 * k)) 2 2
    intensity := bitsOf (byteAt bs (207 + 4 * k)) 0 2
    envelopeCode := (byteAt bs (208 + 4 * k)).toNat }

/-! ### Panel frames -/

/-- The panel commands (section 12.3). -/
inductive PanelCommand where
  | readSummary
  | readTable
  | readRoster
  | readInputs
  | readCounters
  | post
  | withdraw
  | silence
  | restore
  | clearCounters
  | test
  deriving DecidableEq, Repr

/-- The command a code names (section 12.3). -/
def commandOf (code : Byte) : Option PanelCommand :=
  match code.toNat with
  | 0x01 => some .readSummary
  | 0x02 => some .readTable
  | 0x03 => some .readRoster
  | 0x04 => some .readInputs
  | 0x05 => some .readCounters
  | 0x10 => some .post
  | 0x11 => some .withdraw
  | 0x12 => some .silence
  | 0x13 => some .restore
  | 0x14 => some .clearCounters
  | 0x15 => some .test
  | _ => none

/-- The code of a command (section 12.3). -/
def PanelCommand.code : PanelCommand → Byte
  | .readSummary => 0x01#8
  | .readTable => 0x02#8
  | .readRoster => 0x03#8
  | .readInputs => 0x04#8
  | .readCounters => 0x05#8
  | .post => 0x10#8
  | .withdraw => 0x11#8
  | .silence => 0x12#8
  | .restore => 0x13#8
  | .clearCounters => 0x14#8
  | .test => 0x15#8

/-- The statuses of a response (R208). -/
inductive PanelStatus where
  | ok
  | noResponse
  | badCheck
  | unknownCommand
  | badArgument
  | notReady
  | inputBusy
  | refused
  deriving DecidableEq, Repr

/-- The value of a status (R207, R208). -/
def PanelStatus.code : PanelStatus → Byte
  | .ok => 0x00#8
  | .noResponse => 0x01#8
  | .badCheck => 0x02#8
  | .unknownCommand => 0x03#8
  | .badArgument => 0x04#8
  | .notReady => 0x05#8
  | .inputBusy => 0x06#8
  | .refused => 0x07#8

/-- A response frame (section 12.3). -/
def responseFrame (status : PanelStatus) (code : Byte) (payload : List Byte) : List Byte :=
  let body := [status.code, code, BitVec.ofNat 8 payload.length] ++ payload
  body ++ [crc8 body]

/-- A command frame as the controller clocks it in (section 12.3). -/
def commandFrame (code : Byte) (payload : List Byte) : List Byte :=
  let body := [code, BitVec.ofNat 8 payload.length] ++ payload
  body ++ [crc8 body]

/-- What a closing transaction carries: nothing, a frame that fails its check, a frame with an unknown code,
or a command with its payload. -/
inductive Carried where
  | nothing
  | bad
  | unknown
  | command (c : PanelCommand) (payload : List Byte)
  deriving DecidableEq, Repr

/-- The frame check of R208: too few bytes, a length above 90, a short payload or a wrong check byte. -/
def frameCheckOk (bs : List Byte) : Bool :=
  let n := (byteAt bs 1).toNat
  decide (3 ≤ bs.length) && decide (n ≤ 90) && decide (3 + n ≤ bs.length)
    && crc8 (bs.take (2 + n)) == byteAt bs (2 + n)

/-- What the received bytes carry, in the order of R207 and R208. -/
def carried (bs : List Byte) : Carried :=
  match bs with
  | [] => .nothing
  | code :: _ =>
    if code = 0x00#8 then .nothing
    else if frameCheckOk bs then
      match commandOf code with
      | none => .unknown
      | some c => .command c ((bs.drop 2).take (byteAt bs 1).toNat)
    else .bad

end Sys2Proof.Machine
end

