-- ==== Sys2Proof/Machine/Drive.lean ====
section
/-! DEFINITION. The operations of the sounder drive and the beacon drive (chapter 7). -/

namespace Sys2Proof.Machine

/-- The level an envelope gives at an offset (R137). -/
def envelopeLevelOf (volume : Nat) (e : Envelope) (offset : Nat) : Nat :=
  if volume = 0 then 0
  else
    match e with
    | .flat => volume
    | .decay => max (volume - offset) 1
    | .swell => min (1 + offset) volume

/-- A level as the supply cap lets it through (R145). -/
def Drive.capped (d : Drive) (level : Nat) : Nat :=
  if d.cap then min 1 level else level

/-- A step taken up by the sounder (R138): a start from low and a change of tone begin a new period with the
new level, a level of 0 or a rest is low at once, and within one tone the wave runs on unbroken and a change of
level waits for the next period start (R135). -/
def Drive.setTone (d : Drive) (source : SounderSource) (t : ToneStep) : Drive :=
  let envelopeLevel := envelopeLevelOf t.volume t.envelope t.offset
  let target := d.capped envelopeLevel
  let unbroken := d.sounding && d.tone == t.tone && target != 0
  { d with
    source := source
    tone := t.tone
    volume := t.volume
    envelope := t.envelope
    offset := t.offset
    envelopeLevel := envelopeLevel
    level := if unbroken then d.level else target
    sndPhase := if unbroken then d.sndPhase else 0 }

/-- The sounder falls silent: no source, SND low at once (R135, R141). -/
def Drive.hush (d : Drive) : Drive :=
  { d with source := .none, tone := 0, envelopeLevel := 0, level := 0, sndPhase := 0 }

/-- The test tone at an offset (R130). -/
def testTone (offset : Nat) : ToneStep :=
  ⟨7, 1, .flat, offset⟩

/-- The tone of a chirp (R142). DESIGN CHOICE: a chirp is no step, so the manual gives it no step offset, and the offset
field is 0 while it sounds; a FLAT level does not depend on it (log entry 11). -/
def chirpTone : ToneStep :=
  ⟨10, 1, .flat, 0⟩

/-- Whether a hand-over produces tone (R141). -/
def ToneStep.audible (t : ToneStep) : Bool :=
  t.tone != 0 && envelopeLevelOf t.volume t.envelope t.offset != 0

/-- Whether the sounder is producing pattern tone or test tone (R140). -/
def Drive.producing (d : Drive) : Bool :=
  match d.source with
  | .pattern => d.sounding
  | .test => true
  | .none | .chirp => false

/-- A hand-over of pattern tone, under the arbitration of R141: one that produces tone cuts a chirp off, a rest
is stored behind it. -/
def Drive.handPattern (t : ToneStep) (d : Drive) : Drive :=
  if d.quiescent then d
  else
    match d.source with
    | .chirp =>
      if t.audible then { d.setTone .pattern t with chirpTimer := none, behind := none }
      else { d with behind := some t }
    | .none | .pattern | .test => d.setTone .pattern t

/-- A hand-over of test tone (R141). -/
def Drive.handTest (offset : Nat) (d : Drive) : Drive :=
  if d.quiescent then d
  else { d.setTone .test (testTone offset) with chirpTimer := none, behind := none }

/-- A SILENT eighth mark at the sounder (R141). -/
def Drive.silentMark (d : Drive) : Drive :=
  if d.quiescent then d
  else
    match d.source with
    | .pattern | .test => d.hush
    | .chirp => { d with behind := none }
    | .none => d

/-- A withdrawal of pattern tone (R141). -/
def Drive.withdrawPattern (d : Drive) : Drive :=
  match d.source with
  | .pattern => d.hush
  | .chirp => { d with behind := none }
  | .none | .test => d

/-- A withdrawal of test tone (R141). -/
def Drive.withdrawTest (d : Drive) : Drive :=
  match d.source with
  | .test => d.hush
  | .chirp => { d with behind := none }
  | .none | .pattern => d

/-- The step a PATTERN source holds. -/
def Drive.heldStep (d : Drive) : ToneStep :=
  ⟨d.tone, d.volume, d.envelope, d.offset⟩

/-- A chirp request (R142): dropped while pattern tone or test tone is being produced and while quiescent; a
chirp in progress has its timer restarted; a rest step is kept behind the chirp. -/
def Drive.chirpRequest (d : Drive) : Drive :=
  if d.quiescent || d.producing then d
  else
    match d.source with
    | .chirp => { d with chirpTimer := some 0 }
    | .pattern => { d.setTone .chirp chirpTone with chirpTimer := some 0, behind := some d.heldStep }
    | .none | .test => { d.setTone .chirp chirpTone with chirpTimer := some 0, behind := none }

/-- The end of a chirp (R143). -/
def Drive.chirpEnd (d : Drive) : Drive :=
  match d.behind with
  | some t => { d.setTone .pattern t with chirpTimer := none, behind := none }
  | none => { d.hush with chirpTimer := none }

/-- A hand-over of beacon intensity (R139): a change to 0 takes effect at once, a change from 0 at once with a new
period, any other at the next period start, the wave running on. -/
def Drive.handIntensity (intensity : Nat) (d : Drive) : Drive :=
  if d.quiescent then d
  else
    let target := d.capped intensity
    let unbroken := target != 0 && d.beaconLevel != 0
    { d with
      intensity := intensity
      beaconLevel := if unbroken then d.beaconLevel else target
      bcnPhase := if unbroken then d.bcnPhase else 0 }

/-- Whether a wave of a frequency in Hz is at the start of a period after the one that its phase counts from: the
first whole microsecond at or after the start (R135, R139). -/
def atPeriodStart (hz phase : Nat) : Bool :=
  decide (wholePeriod ≤ phase) && decide (phase % wholePeriod < hz)

/-- The start of a period of one output, at which a pending change of level takes effect (R135, R139, R145). At
any other moment of the wave no period starts, and nothing changes. A low output has no periods. DESIGN CHOICE:
the level field of a rest step above volume 0, which SND does not show, therefore keeps the hand-over's value
through a change of the cap (log entry 11). -/
def Drive.periodStart (o : Output) (d : Drive) : Drive :=
  match o with
  | .snd =>
    if d.sounding && atPeriodStart (toneHz d.tone) d.sndPhase then
      { d with level := d.capped d.envelopeLevel, sndPhase := d.sndPhase % wholePeriod }
    else d
  | .bcn =>
    if d.beaconLevel != 0 && atPeriodStart beaconHz d.bcnPhase then
      { d with beaconLevel := d.capped d.intensity, bcnPhase := d.bcnPhase % wholePeriod }
    else d

/-- Both outputs off and every claim ended, at the entry to QUIESCENT (R146). -/
def Drive.enterQuiescent (d : Drive) : Drive :=
  ⟨.none, 0, 0, .flat, 0, 0, 0, none, none, 0, 0, 0, 0, d.cap, true⟩

/-- The values of a start, with the cap of the supply condition held after it (R147). -/
def Drive.atStart (cap : Bool) : Drive :=
  ⟨.none, 0, 0, .flat, 0, 0, 0, none, none, 0, 0, 0, 0, cap, false⟩

end Sys2Proof.Machine
end

