-- ==== Sys2Proof/Machine/Player.lean ====
section
/-! DEFINITION. The pattern library and the pattern player (chapter 6). -/

namespace Sys2Proof.Machine

/-! ### The library -/

/-- A step as played (R114). -/
structure Step where
  duration : Nat
  tone : Nat
  volume : Nat
  envelope : Envelope
  intensity : Nat
  deriving DecidableEq, Repr

/-- The envelope of a code; none for a code that names none (R114). -/
def envelopeOf (code : Nat) : Option Envelope :=
  match code with
  | 0 => some .flat
  | 1 => some .decay
  | 2 => some .swell
  | _ => none

/-- Whether a stored step's duration and envelope are in range (R114). -/
def StoredStep.inRange (st : StoredStep) : Bool :=
  decide (1 ≤ st.duration) && decide (st.duration ≤ 128) && (envelopeOf st.envelopeCode).isSome

/-- A stored step as played. -/
def StoredStep.step (st : StoredStep) : Step :=
  ⟨st.duration, st.tone, st.volume, (envelopeOf st.envelopeCode).getD .flat, st.intensity⟩

/-- The stored steps of a list that begins at `start` (R115). -/
def Library.stored (l : Library) (start count : Nat) : List StoredStep :=
  (l.pool.drop start).take count

/-- A directory record. -/
def Library.record (l : Library) (p : Nat) : PatternRecord :=
  l.directory.getD p ⟨0, 0, 0, 0, 1⟩

/-- The total of the durations of a list of steps. -/
def totalDuration (steps : List Step) : Nat :=
  (steps.map Step.duration).sum

/-- The cycle of P0: tone steps and rests of four eighths in turn, one bar (R116). -/
def p0Cycle : List Step :=
  (List.range 32).map fun i => if i % 2 = 0 then ⟨4, 7, 3, .flat, 3⟩ else ⟨4, 0, 0, .flat, 0⟩

/-- The intro of a pattern; P0 has none (R115, R116). -/
def Library.intro (l : Library) (p : Nat) : List Step :=
  if p = 0 then []
  else (l.stored (l.record p).introStart (l.record p).introCount).map StoredStep.step

/-- The cycle of a pattern (R115, R116). -/
def Library.cycle (l : Library) (p : Nat) : List Step :=
  if p = 0 then p0Cycle
  else (l.stored (l.record p).cycleStart (l.record p).cycleCount).map StoredStep.step

/-- The bars of a pattern's cycle (R115, R116). -/
def Library.bars (l : Library) (p : Nat) : Nat :=
  if p = 0 then 1 else (l.record p).cycleBars

/-- The conditions of R117 on a configured pattern. -/
def Library.patternOk (l : Library) (p : Nat) : Bool :=
  let r := l.record p
  let introSteps := l.stored r.introStart r.introCount
  let cycleSteps := l.stored r.cycleStart r.cycleCount
  (r.cycleBars == 1 || r.cycleBars == 2 || r.cycleBars == 4)
    && decide (r.introCount ≤ 16) && decide (1 ≤ r.cycleCount) && decide (r.cycleCount ≤ 32)
    && decide (r.introStart + r.introCount ≤ l.pool.length)
    && decide (r.cycleStart + r.cycleCount ≤ l.pool.length)
    && introSteps.all StoredStep.inRange && cycleSteps.all StoredStep.inRange
    && decide ((introSteps.map StoredStep.duration).sum ≤ 64)
    && (cycleSteps.map StoredStep.duration).sum == 128 * r.cycleBars

/-- Whether an index names a configured pattern that passes validation (R115, R117). -/
def Library.playable (l : Library) (p : Nat) : Bool :=
  decide (1 ≤ p) && decide (p < l.patternCount) && l.patternOk p

/-- The configured patterns that validation replaces by P0 (R117). -/
def Library.rejections (l : Library) : Nat :=
  ((List.range l.patternCount).filter fun p => decide (1 ≤ p) && !l.patternOk p).length

/-- The effective patterns and the rejected-pattern count, fixed at the load (R117, R118). -/
def Library.validated (l : Library) : Library :=
  { l with
    effective := l.cueMap.map fun b => if l.playable b.toNat then b.toNat else 0
    rejected := l.rejections }

/-- The library an accepted image holds, validated (R113, R117, R118, section 10.3). DESIGN CHOICE: R115 says that the
records of index 0 and of the unconfigured indexes are not read, and not what the directory then holds for them; here
it holds their bytes of the image, which nothing consults (log entry 9). -/
def imageLibrary (bs : List Byte) : Library :=
  Library.validated
    { cueMap := (List.range 63).map fun c => byteAt bs (23 + c)
      patternCount := imagePatterns bs
      directory := (List.range 24).map (imageRecord bs)
      pool := (List.range (imageSteps bs)).map (imageStep bs)
      effective := []
      rejected := 0 }

/-- The effective pattern of a cue number (R118). -/
def Library.patternOf (l : Library) (cue : Nat) : Nat :=
  l.effective.getD (cue - 1) 0

/-! ### Positions -/

/-- The step whose span contains a position, and the offset in it (R115, R123, R124). -/
def spanAt : List Step → Nat → Option (Step × Nat)
  | [], _ => none
  | st :: rest, pos => if pos < st.duration then some (st, pos) else spanAt rest (pos - st.duration)

/-- The clock handed with an eighth mark (R20). -/
structure Clock where
  bar : Byte
  beat : BitVec 4
  eighth : Nat
  deriving DecidableEq, Repr

/-- The position in a cycle of `bars` bars, in eighths (R124). -/
def cyclePosition (bars : Nat) (c : Clock) : Nat :=
  ((c.bar.toNat % bars) * 16 + c.beat.toNat) * 8 + c.eighth

/-! ### The player and the drives it hands to -/

/-- The player with the two drives, the pair that the player's events change. -/
structure Playing where
  player : Player
  drive : Drive
  deriving DecidableEq, Repr

/-- A step handed to the drives (R128): the beacon always, the sounder while the sound indication is true. -/
def Playing.hand (st : Step) (offset : Nat) (g : Playing) : Playing :=
  let d := g.drive.handIntensity st.intensity
  { player := { g.player with stepOffset := offset }
    drive := if g.player.sound then d.handPattern ⟨st.tone, st.volume, st.envelope, offset⟩ else d }

/-- A SILENT eighth mark (R129). -/
def Playing.silentMark (g : Playing) : Playing :=
  { g with drive := (g.drive.handIntensity 0).silentMark }

/-- An eighth mark in TEST (R130), at the given number of eighths since the test started. -/
def Playing.testMark (offset : Nat) (g : Playing) : Playing :=
  { player := { g.player with stepOffset := offset }
    drive := (g.drive.handIntensity 2).handTest offset }

/-- An eighth mark in CYCLE of pattern `p` (R124). -/
def Playing.cycleMark (l : Library) (c : Clock) (p : Nat) (g : Playing) : Playing :=
  match spanAt (l.cycle p) (cyclePosition (l.bars p) c) with
  | some (st, offset) => g.hand st offset
  | none => g

/-- An eighth mark in INTRO of pattern `p` (R123): the step at the intro count, or, when the intro has ended,
the cycle at the position the clock gives. -/
def Playing.introMark (l : Library) (c : Clock) (p : Nat) (g : Playing) : Playing :=
  match spanAt (l.intro p) g.player.introCount with
  | some (st, offset) =>
    let h := g.hand st offset
    { h with player := { h.player with introCount := g.player.introCount + 1 } }
  | none => Playing.cycleMark l c p { g with player := { g.player with mode := .cycle, introCount := 0 } }

/-- Whether an eighth mark ends playback for want of a wanted pattern (R126). -/
def Player.ends (p : Player) : Bool :=
  p.wanted.isNone && (p.mode == .intro || p.mode == .cycle)

/-- Playback ended (R126). -/
def Player.ended (p : Player) : Player :=
  { p with mode := .silent, current := none, introCount := 0 }

/-- An eighth mark (R123, R124, R126, R128 to R130). -/
def Playing.mark (l : Library) (c : Clock) (g : Playing) : Playing :=
  if g.player.ends then Playing.silentMark { g with player := g.player.ended }
  else
    match g.player.mode, g.player.current with
    | .intro, some p => g.introMark l c p
    | .cycle, some p => g.cycleMark l c p
    | .test, _ => g.testMark (g.player.stepOffset + 1)
    | .silent, _ | .intro, none | .cycle, none => g.silentMark

/-- Whether the player's eighth mark now is the one at which the intro has ended (R123). -/
def Player.introOver (l : Library) (p : Player) : Bool :=
  !p.ends && p.mode == .intro
    && match p.current with
      | some q => decide (totalDuration (l.intro q) ≤ p.introCount)
      | none => false

/-- The pattern that starts at a beat event, if one does (R121). -/
def Player.starts (p : Player) : Option Nat :=
  match p.wanted with
  | none => none
  | some w => if p.mode == .silent || p.current != some w || p.restart then some w else none

/-- A pattern start (R122). The intro count is 0 at every start. R122 says so of a pattern that has an intro; for one that
has none it is the model's choice (DESIGN CHOICE, log entry 11), and nothing reads the count in CYCLE. -/
def Player.start (l : Library) (w : Nat) (p : Player) : Player :=
  { p with
    mode := if (l.intro w).isEmpty then .cycle else .intro
    current := some w
    introCount := 0 }

/-- A beat event with its eighth 0 (R121, R122, R130). A test that starts out of INTRO sets the intro count to 0 with the
current pattern it drops, as R126 does at the other end of playback: R130 names only the pattern (DESIGN CHOICE, log
entry 11), and nothing reads the count in TEST. -/
def Playing.beat (l : Library) (c : Clock) (g : Playing) : Playing :=
  let p := { g.player with restart := false }
  if g.player.testDue then
    Playing.testMark 0
      { g with player := { p with testDue := false, mode := .test, testBeats := 0, current := none, introCount := 0 } }
  else if g.player.mode = .test then
    if 4 ≤ g.player.testBeats + 1 then
      Playing.silentMark { g with player := { p with mode := .silent, testBeats := 4 } }
    else
      Playing.testMark (g.player.stepOffset + 1) { g with player := { p with testBeats := g.player.testBeats + 1 } }
  else
    match g.player.starts with
    | some w => Playing.mark l c { g with player := p.start l w }
    | none => Playing.mark l c { g with player := p }

/-- A head change (R120), which ends an output test when the new head is not empty (R131). -/
def Playing.headChange (l : Library) (wasEmpty : Bool) (cue : Option Nat) (g : Playing) : Playing :=
  match cue with
  | none => { g with player := { g.player with wanted := none, restart := false } }
  | some q =>
    let p := { g.player with
      wanted := some (l.patternOf q)
      restart := g.player.restart || wasEmpty
      testDue := false }
    if g.player.mode = .test then
      { player := { p with mode := .silent }
        drive := (g.drive.withdrawTest).handIntensity 0 }
    else { g with player := p }

/-- A change of the sound indication (R127). -/
def Playing.soundChange (on : Bool) (g : Playing) : Playing :=
  { player := { g.player with sound := on }
    drive :=
      if !on && (g.player.mode == .intro || g.player.mode == .cycle) then g.drive.withdrawPattern else g.drive }

/-- An output-test request: taken exactly when the cue table is empty, and without effect when a test is due or
playing already (R130). -/
def Player.requestTest (tableEmpty : Bool) (p : Player) : Player × Bool :=
  if !tableEmpty then (p, false)
  else if p.testDue || p.mode == .test then (p, true)
  else ({ p with testDue := true }, true)

/-- The player's entry to QUIESCENT (R134); the drives take theirs by R146. -/
def Player.enterQuiescent (p : Player) : Player :=
  { p with
    mode := .silent, current := none, wanted := none, restart := false, testDue := false
    introCount := 0, testBeats := 0 }

/-- The values of a start (R133). -/
def Player.atStart : Player :=
  ⟨.silent, none, none, false, 0, 0, false, 0, false⟩

/-! ### On the station -/

/-- The player and the drives of the station. -/
def State.playing (s : State) : Playing :=
  ⟨s.player, s.drive⟩

/-- The station with its player and drives replaced. -/
def State.setPlaying (s : State) (g : Playing) : State :=
  (s.setPlayer g.player).setDrive g.drive

/-- The clock the beat unit hands with a mark (R20). -/
def State.clock (s : State) : Clock :=
  ⟨s.beat.barCount, s.beat.beatIndex, s.beat.eighth⟩

/-- The player takes an eighth mark. -/
def playerMark (s : State) : State :=
  s.setPlaying (s.playing.mark s.library s.clock)

/-- The player takes a beat event with its eighth 0. -/
def playerBeat (s : State) : State :=
  s.setPlaying (s.playing.beat s.library s.clock)

/-- The player takes an output-test request; the answer is whether it was taken (R130). -/
def requestTest (s : State) : State × Bool :=
  let r := s.player.requestTest s.table.isEmpty
  (s.setPlayer r.1, r.2)

end Sys2Proof.Machine
end

