-- ==== Sys2Proof/Machine/Queue.lean ====
section
/-! DEFINITION. The transmit queue: order, joining, merging, capacity and expiry (chapter 4). -/

namespace Sys2Proof.Machine

/-- The most messages the queue holds (R78). -/
def queueCapacity : Nat := 6

/-- The age at which a RAISE or CLEAR expires (R85). -/
def expiryAge : Nat := 16

/-- The lead byte a message is sent with (R79). -/
def News.lead : News → Nat
  | .raise _ r => raiseLead r.priority
  | .restore => 0x30
  | .silence => 0x40
  | .clear _ _ => 0x50

/-- The own input a message concerns. -/
def News.input : News → Option Nat
  | .raise i _ => some i
  | .clear i _ => some i
  | .silence | .restore => none

/-- Whether a message is a RAISE for an input. -/
def News.isRaiseOf (i : Nat) : News → Bool
  | .raise j _ => j == i
  | .clear _ _ | .silence | .restore => false

/-- Whether a message is a CLEAR for an input. -/
def News.isClearOf (i : Nat) : News → Bool
  | .clear j _ => j == i
  | .raise _ _ | .silence | .restore => false

/-- Whether a message ages and can expire (R85). -/
def News.ages : News → Bool
  | .raise _ _ | .clear _ _ => true
  | .silence | .restore => false

/-- A message placed behind every message whose lead byte is no higher (R78). -/
def placeMessage (m : Message) : List Message → List Message
  | [] => [m]
  | x :: xs => if x.news.lead ≤ m.news.lead then x :: placeMessage m xs else m :: x :: xs

/-- The messages without those a test picks. -/
def TxQueue.without (p : Message → Bool) (q : TxQueue) : TxQueue :=
  { q with messages := q.messages.filter fun m => !p m }

/-- The capacity rule (R83): the queue after a newcomer, and whether a message was discarded. -/
def TxQueue.takeIn (n : News) (q : TxQueue) : TxQueue × Bool :=
  let m : Message := ⟨n, q.nextJoin, 0, false⟩
  let grown (kept : List Message) : TxQueue := ⟨placeMessage m kept, q.nextJoin + 1⟩
  if q.messages.length < queueCapacity then (grown q.messages, false)
  else
    match q.messages.getLast? with
    | none => (grown q.messages, false)
    | some last => if n.lead < last.news.lead then (grown q.messages.dropLast, true) else (q, true)

/-- A message joins: merges first (R80 to R82), then capacity (R83). The answer says whether a message was
discarded. -/
def TxQueue.join (n : News) (q : TxQueue) : TxQueue × Bool :=
  match n with
  | .raise i _ => (q.without fun m => m.news.isClearOf i).takeIn n
  | .clear i _ =>
    match q.messages.find? fun m => m.news.isRaiseOf i with
    | some m =>
      let rest := q.without fun x => x.news.isRaiseOf i
      if m.onLine then rest.takeIn n else (rest, false)
    | none => q.takeIn n
  | .silence => if q.messages.any fun m => m.news == .silence then (q, false) else q.takeIn n
  | .restore => if q.messages.any fun m => m.news == .restore then (q, false) else q.takeIn n

/-- A beat event: every RAISE and CLEAR ages by one (R85). -/
def Message.aged (m : Message) : Message :=
  if m.news.ages then { m with age := m.age + 1 } else m

/-- Whether a message has reached its expiry (R85). -/
def Message.expired (m : Message) : Bool :=
  m.news.ages && decide (expiryAge ≤ m.age)

/-- Ageing and expiry at a beat event: the queue after it, and how many messages expired (R85). -/
def TxQueue.age (q : TxQueue) : TxQueue × Nat :=
  let aged := q.messages.map Message.aged
  ({ q with messages := aged.filter fun m => !m.expired }, (aged.filter Message.expired).length)

/-- The head is put on the line (R87). -/
def TxQueue.offerHead (q : TxQueue) : TxQueue :=
  match q.messages with
  | [] => q
  | m :: ms => { q with messages := { m with onLine := true } :: ms }

/-- The message on the line has been sent and leaves from the place it holds (R92). -/
def TxQueue.sent (q : TxQueue) : TxQueue :=
  q.without Message.onLine

/-- The message on the line goes back to waiting where it stands (R92). -/
def TxQueue.backFromLine (q : TxQueue) : TxQueue :=
  { q with messages := q.messages.map fun m => { m with onLine := false } }

/-- The empty queue (R95). -/
def TxQueue.empty : TxQueue :=
  ⟨[], 0⟩

/-- A message joins the station's queue; a discard is counted (R83, R94). -/
def enqueue (n : News) (s : State) : State :=
  let r := s.queue.join n
  let t := s.setQueue r.1
  if r.2 then bump .txqDiscard t else t

/-- A beat event at the station's queue; each expiry is counted (R85, R94). -/
def ageQueue (s : State) : State :=
  let r := s.queue.age
  bumpTimes .txExpired r.2 (s.setQueue r.1)

end Sys2Proof.Machine
end

