-- ==== Sys2Proof/Machine/CueTable.lean ====
section
/-! DEFINITION. The cue table: rank, capacity, and the claims it takes (chapter 2). -/

namespace Sys2Proof.Machine

/-- The most entries the table holds (R30). -/
def tableCapacity : Nat := 16

/-- Rank (R27): higher priority, then lower cue, then lower origin address, then lower origin input. -/
def Entry.before (a b : Entry) : Bool :=
  if a.priority ≠ b.priority then decide (b.priority < a.priority)
  else if a.cue ≠ b.cue then decide (a.cue < b.cue)
  else if a.origin ≠ b.origin then decide (a.origin < b.origin)
  else decide (a.input < b.input)

/-- Whether an entry has a key (R26). -/
def Entry.hasKey (origin input : Nat) (e : Entry) : Bool :=
  e.origin == origin && e.input == input

/-- Whether an entry is foreign to an address (section 2.1). -/
def Entry.foreign (own : Nat) (e : Entry) : Bool :=
  e.origin != own

/-- An entry placed at its rank (R27). -/
def placeEntry (e : Entry) : List Entry → List Entry
  | [] => [e]
  | x :: xs => if e.before x then e :: x :: xs else x :: placeEntry e xs

/-- The table without the entry of a key. -/
def withoutKey (origin input : Nat) (table : List Entry) : List Entry :=
  table.filter fun e => !e.hasKey origin input

/-- The last-ranked foreign entry (R31). -/
def lastForeign (own : Nat) (table : List Entry) : Option Entry :=
  (table.filter (Entry.foreign own)).getLast?

/-- The table without its last-ranked foreign entry. -/
def evictLast (own : Nat) (table : List Entry) : List Entry :=
  match lastForeign own table with
  | some e => withoutKey e.origin e.input table
  | none => table

/-- An own entry inserted, and whether a foreign entry was evicted for it (R30). A full table always holds a
foreign entry then; a table without one is left as it is. -/
def insertOwn (own : Nat) (e : Entry) (table : List Entry) : List Entry × Bool :=
  if table.length < tableCapacity then (placeEntry e table, false)
  else
    match lastForeign own table with
    | some _ => (placeEntry e (evictLast own table), true)
    | none => (table, false)

/-- A foreign entry inserted by the capacity rule, and whether an entry was evicted or dropped (R31). -/
def insertForeign (own : Nat) (e : Entry) (table : List Entry) : List Entry × Bool :=
  if table.length < tableCapacity then (placeEntry e table, false)
  else
    match lastForeign own table with
    | some l => if e.before l then (placeEntry e (evictLast own table), true) else (table, true)
    | none => (table, true)

/-- The station's clock as a first-heard stamp takes it (R26). -/
abbrev Stamp := Byte × BitVec 4

/-- The entry an item inserts (R38, R41). -/
def Item.entry (i : Item) (sender : Nat) (stamp : Stamp) : Entry :=
  ⟨i.cue, i.priority, sender, i.input, .active, i.latched, i.silenced, 0, stamp.1, stamp.2⟩

/-- An entry replaced or refreshed by an item (R38, R41): the silenced flag is sticky and the stamp kept while
the cue number stays. -/
def Entry.refreshed (e : Entry) (i : Item) (stamp : Stamp) : Entry :=
  { e with
    cue := i.cue
    priority := i.priority
    state := .active
    latched := i.latched
    silenced := if e.cue = i.cue then e.silenced || i.silenced else i.silenced
    miss := 0
    stampBar := if e.cue = i.cue then e.stampBar else stamp.1
    stampBeat := if e.cue = i.cue then e.stampBeat else stamp.2 }

/-- An item applied to the table, and whether an entry was evicted or dropped (R38, R41). -/
def applyItem (own sender : Nat) (stamp : Stamp) (i : Item) (table : List Entry) : List Entry × Bool :=
  match table.find? (Entry.hasKey sender i.input) with
  | some e => (placeEntry (e.refreshed i stamp) (withoutKey sender i.input table), false)
  | none => insertForeign own (i.entry sender stamp) table

/-- Items applied one by one in their order, and how many entries were evicted or dropped (R40, R31). -/
def applyItems (own sender : Nat) (stamp : Stamp) : List Item → List Entry → List Entry × Nat
  | [], table => (table, 0)
  | i :: is, table =>
    let r := applyItem own sender stamp i table
    let q := applyItems own sender stamp is r.1
    (q.1, q.2 + if r.2 then 1 else 0)

/-- The table without the sender's entries that no item names (R40). -/
def dropUnlisted (sender : Nat) (items : List Item) (table : List Entry) : List Entry :=
  table.filter fun e => e.origin != sender || items.any fun i => i.input == e.input

/-- A received STATUS applied to the table (R40, R41). -/
def applyStatusItems (own sender : Nat) (stamp : Stamp) (items : List Item) (table : List Entry) :
    List Entry × Nat :=
  applyItems own sender stamp items (dropUnlisted sender items table)

/-- A miss report at one entry; none when it is removed (R43, R44). -/
def Entry.missed (origin : Nat) (state : PeerState) (e : Entry) : Option Entry :=
  if e.origin ≠ origin ∨ 2 ≤ e.miss then some e
  else
    let m := { e with miss := e.miss + 1 }
    if m.miss < 2 then some m
    else
      match e.state with
      | .provisional => none
      | .orphaned => some m
      | .active => if e.latched && state == .missing then some { m with state := .orphaned } else none

/-- A miss report at the table; own entries receive none (R43). -/
def missEntries (own origin : Nat) (state : PeerState) (table : List Entry) : List Entry :=
  if origin = own then table else table.filterMap (Entry.missed origin state)

/-- A silence sets every flag (R46). -/
def silenceEntries (table : List Entry) : List Entry :=
  table.map fun e => { e with silenced := true }

/-- A restore at one entry (R49, R50): own entries of HELD inputs and orphans go, other foreign entries become
PROVISIONAL with miss count 0. -/
def Entry.restored (own : Nat) (held : Nat → Bool) (e : Entry) : Option Entry :=
  if e.origin = own then (if held e.input then none else some e)
  else if e.state = .orphaned then none
  else some { e with state := .provisional, miss := 0 }

/-- A restore at the table (R49, R50). -/
def restoreEntries (own : Nat) (held : Nat → Bool) (table : List Entry) : List Entry :=
  table.filterMap (Entry.restored own held)

/-- The head: its key, its cue number and its priority; none when the table is empty (R28). -/
def headOf (table : List Entry) : Option (Nat × Nat × Nat × Nat) :=
  table.head?.map fun e => (e.origin, e.input, e.cue, e.priority)

/-- The cue number of the head. -/
def headCue (table : List Entry) : Option Nat :=
  table.head?.map Entry.cue

/-- The unsilenced-present indication (R29). -/
def unsilencedPresent (table : List Entry) : Bool :=
  table.any fun e => !e.silenced

/-! ### On the station -/

/-- The station's clock as a stamp (R26). -/
def State.stamp (s : State) : Stamp :=
  (s.beat.barCount, s.beat.beatIndex)

/-- The end of a claim that found the table `before`: a changed head is handed to the player and marks the
ATTN latch (R28), a changed unsilenced-present indication is handed to the player (R29). -/
def handHead (before : List Entry) (s : State) : State :=
  if headOf before = headOf s.table then s
  else markAttn (s.setPlaying (s.playing.headChange s.library before.isEmpty (headCue s.table)))

/-- The unsilenced-present indication handed on when it has changed (R29). -/
def handSound (s : State) : State :=
  if unsilencedPresent s.table = s.player.sound then s
  else s.setPlaying (s.playing.soundChange (unsilencedPresent s.table))

/-- A claim taken whole: the table becomes `after`, and the head and the indication are compared once (R28,
R29, R42). -/
def takeClaim (after : List Entry) (s : State) : State :=
  handSound (handHead s.table (s.setTable after))

/-- Evictions and drops are counted and set TABLE_OVERFLOW (R32). -/
def countOverflow (n : Nat) (s : State) : State :=
  if n = 0 then s else setFault .tableOverflow (bumpTimes .tableOvf n s)

/-- A local raise (R34): the own entry is inserted, never beside another of its key (R26), and a RAISE handed
to the transmit queue. -/
def localRaise (input : Nat) (r : Request) (s : State) : State :=
  let e : Entry := ⟨r.cue, r.priority, s.startup.ownAddr, input, .active, r.latched, false, 0,
    s.stamp.1, s.stamp.2⟩
  let t := insertOwn s.startup.ownAddr e (withoutKey s.startup.ownAddr input s.table)
  enqueue (.raise input r) (takeClaim t.1 (countOverflow (if t.2 then 1 else 0) s))

/-- A local withdraw (R36, R79): the own entry is removed and a CLEAR with its fields handed to the transmit
queue. -/
def localWithdraw (input : Nat) (s : State) : State :=
  match s.table.find? (Entry.hasKey s.startup.ownAddr input) with
  | none => s
  | some e =>
    enqueue (.clear input ⟨e.cue, e.priority, e.latched⟩)
      (takeClaim (withoutKey s.startup.ownAddr input s.table) s)

/-- A silence applied to the table (R46). -/
def applySilence (s : State) : State :=
  takeClaim (silenceEntries s.table) s

/-- A silence originated at this station (R47). -/
def originateSilence (s : State) : State :=
  enqueue .silence (applySilence s)

/-- A miss report from the roster (R43, R44). -/
def missReport (origin : Nat) (state : PeerState) (s : State) : State :=
  takeClaim (missEntries s.startup.ownAddr origin state s.table) s

/-- The items of a RAISE from another station (R38). -/
def applyRaise (sender : Nat) (stamp : Stamp) (items : List Item) (s : State) : State :=
  let r := applyItems s.startup.ownAddr sender stamp items s.table
  takeClaim r.1 (countOverflow r.2 s)

/-- The item of a CLEAR from another station (R39). -/
def applyClear (sender : Nat) (items : List Item) (s : State) : State :=
  takeClaim (s.table.filter fun e => !(items.any fun i => e.hasKey sender i.input)) s

/-- The items of a STATUS from another station (R40, R41). -/
def applyStatus (sender : Nat) (stamp : Stamp) (items : List Item) (s : State) : State :=
  let r := applyStatusItems s.startup.ownAddr sender stamp items s.table
  takeClaim r.1 (countOverflow r.2 s)

end Sys2Proof.Machine
end

