-- ==== Sys2Proof/Machine/Ops.lean ====
section
/-! DEFINITION. Operations that several chapters share: the roster, the inputs and the restore claim, the
converter and its arbiter, the keys, the transmitter's abandonment, and the changes of station state. -/

namespace Sys2Proof.Machine

/-! ### The roster (sections 5.2 and 5.3) -/

/-- Whether an entry of a roster is MISSING (R105). -/
def anyMissing (roster : List RosterEntry) : Bool :=
  roster.any fun e => e.state == .missing

/-- The roster replaced, with PEER_MISSING reported when the first entry becomes MISSING and when the last one
ceases to be (R105). -/
def moveRoster (roster : List RosterEntry) (s : State) : State :=
  let t := s.setRoster roster
  if anyMissing roster then (if anyMissing s.roster then t else setFault .peerMissing t)
  else if anyMissing s.roster then clearFault .peerMissing t
  else t

/-- A pass in which the owner's STATUS was received (R97). -/
def RosterEntry.heard (o : OwnerStatus) (stamp : Stamp) (e : RosterEntry) : RosterEntry :=
  if e.state = .self then e
  else ⟨.present, 0, some stamp, o.faultByte, o.supplyLow, o.anyFault, true⟩

/-- The move of an entry at a miss (R98). -/
def RosterEntry.missed (e : RosterEntry) : RosterEntry :=
  match e.state with
  | .unknown => { e with miss := 0 }
  | .present => { e with state := .late, miss := 1 }
  | .late => { e with state := .missing, miss := 2 }
  | .missing => { e with miss := 2 }
  | .self => e

/-- The state of an address in the roster. -/
def peerState (roster : List RosterEntry) (a : Nat) : PeerState :=
  (roster.getD a RosterEntry.atStart).state

/-- A pass report of another address's slot (R97, R98): heard, or missed with a miss report to the cue table. -/
def passOther (owner : Nat) (heard : Option OwnerStatus) (s : State) : State :=
  match heard with
  | some o => moveRoster (s.roster.modify owner (RosterEntry.heard o s.stamp)) s
  | none =>
    let t := moveRoster (s.roster.modify owner RosterEntry.missed) s
    missReport owner (peerState t.roster owner) t

/-- A pass report of the own slot (R99). -/
def passSelf (conflict : Bool) (s : State) : State :=
  let t := s.setRoster (s.roster.modify s.startup.ownAddr fun e => { e with lastHeard := some s.stamp })
  if conflict then setFault .addressConflict t else t

/-- The flags of an open-slot frame stored for its sender (R100). -/
def storeFlags (sender : Nat) (supplyLow anyFault : Bool) (s : State) : State :=
  s.setRoster (s.roster.modify sender fun e => { e with supplyLow := supplyLow, anyFault := anyFault })

/-- A restore turns MISSING into UNKNOWN (R102). -/
def RosterEntry.restored (e : RosterEntry) : RosterEntry :=
  if e.state = .missing then { e with state := .unknown, miss := 0 } else e

/-! ### The inputs' request states (sections 8.5 and 8.6) -/

/-- An input of the station. -/
def State.input (s : State) (i : Nat) : Input :=
  s.inputs.getD i Input.atStart

/-- Whether an input's request is HELD. -/
def State.isHeld (s : State) (i : Nat) : Bool :=
  (s.input i).request == .held

/-- An input of the station changed. -/
def modifyInput (i : Nat) (f : Input → Input) (s : State) : State :=
  s.setInputs (s.inputs.modify i f)

/-- A restore at one input (R161, R163). -/
def Input.restored (x : Input) : Input :=
  if x.request = .held then { x with request := .idle, posted := none } else x

/-- A restore, taken as one claim by the cue table, the transmit queue, the request states, the roster and the
fault summary (R49, R50, R51, R84, R102, R106, R161). -/
def applyRestore (s : State) : State :=
  let table := restoreEntries s.startup.ownAddr s.isHeld s.table
  let q := s.queue.without fun m =>
    match m.news with
    | .raise i _ => s.isHeld i
    | .clear _ _ | .silence | .restore => false
  let t := (s.setQueue q).setInputs (s.inputs.map Input.restored)
  let u := clearFault .tableOverflow (clearFault .addressConflict (moveRoster (s.roster.map RosterEntry.restored) t))
  takeClaim table u

/-- A restore originated at this station (R51). -/
def originateRestore (s : State) : State :=
  enqueue .restore (applyRestore s)

/-! ### The converter and its arbiter (section 8.1) -/

/-- A conversion begun. -/
def Converter.begin (c : Converter) (a : Conversion) (onRequest : Bool) : Converter :=
  { c with activity := a, time := 0, discard := false, fresh := onRequest }

/-- A supply request (R150): it begins at an idle converter, takes the place of a scan conversion that began at
the same moment on its request, and otherwise waits. -/
def Converter.requestSupply (c : Converter) : Converter :=
  match c.activity with
  | .idle => c.begin .supply true
  | .scan i =>
    if c.fresh then { c.begin .supply true with pendingScan := some i } else { c with pendingSupply := true }
  | .supply => { c with pendingSupply := true }

/-- A scan request (R150). -/
def Converter.requestScan (i : Nat) (c : Converter) : Converter :=
  match c.activity with
  | .idle => c.begin (.scan i) true
  | .scan _ | .supply => { c with pendingScan := some i }

/-- The grant at a completion: a supply request first (R150). -/
def Converter.grant (c : Converter) : Converter :=
  match c.activity with
  | .idle =>
    if c.pendingSupply then { c.begin .supply false with pendingSupply := false }
    else
      match c.pendingScan with
      | some i => { c.begin (.scan i) false with pendingScan := none }
      | none => c
  | .scan _ | .supply => c

/-- The converter when a cold start is caused: a conversion in progress runs on, its reading is wanted by
nobody, and no request is pending (R151). DESIGN CHOICE: the conversion time of an IDLE converter is 0 (log entry 11). -/
def Converter.orphaned (c : Converter) : Converter :=
  match c.activity with
  | .idle => ⟨.idle, 0, false, false, false, none⟩
  | .scan _ | .supply => { c with discard := true, fresh := false, pendingSupply := false, pendingScan := none }

/-- The converter at the entry to QUIESCENT: a pending scan request is discarded, and so is the reading of a scan
conversion in progress (R151). -/
def Converter.enterQuiescent (c : Converter) : Converter :=
  match c.activity with
  | .scan _ => { c with discard := true, fresh := false, pendingScan := none }
  | .idle | .supply => { c with pendingScan := none }

/-- The supply monitor asks for a sample (R171). -/
def requestSupply (s : State) : State :=
  s.setConverter s.converter.requestSupply

/-- The binding of a field line. -/
def State.binding (s : State) (i : Nat) : Binding :=
  s.bindings.getD i Binding.disabled

/-- The scanner asks for a conversion of the input at its position, when that input is enabled (R152). -/
def requestScan (s : State) : State :=
  if (s.binding s.scanner.position).enabled then
    s.setConverter (s.converter.requestScan s.scanner.position)
  else s

/-! ### The keys (section 8.8) -/

/-- The sounder is asked for a chirp (R142). -/
def requestChirp (s : State) : State :=
  s.setDrive s.drive.chirpRequest

/-- The key state replaced. -/
def setKeyState (k : KeyState) (s : State) : State :=
  s.setKeys { s.keys with state := k }

/-- A restore action (R167, R169): SPENT, the restore originated, and a chirp asked for. DEDUCED: R144 says that a
station sounding before a restore is still sounding when the chirp is asked for, but a restore can remove the last
entry that is not silenced, a HELD own one (R49) or an ORPHANED one (R50). There R127 and R140 withdraw the tone with
the removal, and the chirp, asked for after it, finds the sounder free and plays (log entry 10). -/
def restoreAction (s : State) : State :=
  requestChirp (originateRestore (s.setKeys { s.keys with state := .spent, hold := chordMarks }))

/-- Whether the next eighth mark completes a chord (R167). -/
def State.chordDue (s : State) : Bool :=
  s.keys.state == .chord && decide (chordMarks ≤ s.keys.hold + 1)

/-- The key unit takes an eighth mark (R167). -/
def keyMark (s : State) : State :=
  if s.keys.state ≠ .chord then s
  else if chordMarks ≤ s.keys.hold + 1 then restoreAction s
  else s.setKeys { s.keys with hold := s.keys.hold + 1 }

/-- An eighth mark handed to the pattern player and the key unit (R20). The two are ordered only by an open
choice, and only when the mark completes a chord does their order show. -/
def handMark (playerPart : State → State) (s : State) : State :=
  if s.chordDue && Config.keysBeforePlayer then playerPart (keyMark s) else keyMark (playerPart s)

/-! ### The transmitter (sections 3.7 and 4.6) -/

/-- The station stops sending: the record shows ABANDONED and the message goes back to waiting (R76, R89 to
R93). -/
def abandonTx (s : State) : State :=
  match s.loop.tx with
  | none => s
  | some r =>
    if r.outcome = .sending then
      (s.setLoop { s.loop with tx := some { r with outcome := .abandoned } }).setQueue s.queue.backFromLine
    else s

/-! ### Membership (section 10.4) -/

/-- The station state replaced; the panel port marks its ATTN latch (R182). -/
def setStation (st : StationState) (s : State) : State :=
  markAttn (s.setStartup { s.startup with station := st })

/-- A report that a beat index has become 0 while LOCKED: the second one makes a JOINING station MEMBER (R191). -/
def indexZeroReport (s : State) : State :=
  if s.startup.station = .joining then
    let t := s.setStartup { s.startup with membership := s.startup.membership + 1 }
    if 2 ≤ s.startup.membership + 1 then setStation .member t else t
  else s

/-- The beat unit's report that it has entered LOCKED (R191). -/
def lockedReport (s : State) : State :=
  s.setStartup { s.startup with membership := 0 }

/-- The beat unit's report that it has entered FREE: a MEMBER becomes JOINING and stops sending (R192). -/
def freeReport (s : State) : State :=
  let t := s.setStartup { s.startup with membership := 0 }
  if s.startup.station = .member then abandonTx (setStation .joining t) else t

end Sys2Proof.Machine
end

