-- ==== Sys2Proof/Machine/Loop.lean ====
section
/-! DEFINITION. The slots of a beat and the frames the station builds (sections 3.2 and 3.7). -/

namespace Sys2Proof.Machine

/-! ### Slots -/

/-- The slot of a part, if the part is a slot (R56). -/
def Part.slot : Part → Option Slot
  | .openSlot => some .openSlot
  | .owned1 => some .owned1
  | .owned2 => some .owned2
  | .mark | .gap1 | .gap2 | .quiet => none

/-- The slot that begins at the end of a part (R56). -/
def Part.nextSlot : Part → Option Slot
  | .mark => some .openSlot
  | .gap1 => some .owned1
  | .gap2 => some .owned2
  | .openSlot | .owned1 | .owned2 | .quiet => none

/-- The part a slot is (R56). -/
def Slot.part : Slot → Part
  | .openSlot => .openSlot
  | .owned1 => .owned1
  | .owned2 => .owned2

/-- The part that follows a slot (R56). -/
def Slot.partAfter : Slot → Part
  | .openSlot => .gap1
  | .owned1 => .gap2
  | .owned2 => .quiet

/-- The owner of a slot by the beat index; none for the open slot (R57). -/
def Slot.ownerAt (beat : BitVec 4) : Slot → Option Nat
  | .openSlot => none
  | .owned1 => some (2 * beat.toNat)
  | .owned2 => some (2 * beat.toNat + 1)

/-- Whether a slot is an owned slot. -/
def Slot.owned : Slot → Bool
  | .openSlot => false
  | .owned1 | .owned2 => true

/-- Whether a fall lies within a slot's acceptance span (R58). -/
def Slot.accepts (sl : Slot) (t : Nat) : Bool :=
  decide (sl.begins ≤ t + placementMargin) && decide (t ≤ sl.begins + startWindow + placementMargin)

/-- The slot whose acceptance span holds a fall (R58, R64). -/
def spanOf (t : Nat) : Option Slot :=
  [Slot.openSlot, Slot.owned1, Slot.owned2].find? fun sl => sl.accepts t

/-- Whether a time lies within a slot's start window (R56, R58). -/
def Slot.startsAt (sl : Slot) (t : Nat) : Bool :=
  decide (sl.begins ≤ t) && decide (t ≤ sl.begins + startWindow)

/-- The receiver waiting for a start bit: in WAIT_HIGH while the line is low (R200). DESIGN CHOICE: R200 gives only
the phase and the in-frame flag at a frame's end; here a frame ended by its length, by a slot's end or by a beat
leaves bit count 0, and one that a gap ends leaves the bit count as it was (log entry 11). -/
def Line.rest (low : Bool) (l : Line) : Line :=
  { l with phase := if low then .waitHigh else .idle, bitCount := 0, fromGap := false }

/-- A frame being received is ended by a slot's end or by a beat: it is counted, and the receiver follows no more
of it (R65, R66, R200). -/
def endReception (s : State) : State :=
  match s.loop.rx with
  | none => s
  | some r =>
    bump (if r.slot.isSome then .rxErr else .misplaced)
      ((s.setLoop { s.loop with rx := none }).setLine (s.line.rest s.pins.dataLow))

/-- The slot state cleared at a slot's end (R56), with the record of a frame still on its way abandoned. -/
def clearSlot (part : Part) (s : State) : State :=
  let t := abandonTx s
  t.setLoop { t.loop with
    part := part, owner := none, placed := false, conflictSeen := false, attempt := .ahead, heard := none, tx := none }

/-- The slot timer restarts from 0 (R56) in MARK, which no address owns (R57). A start bit that still waits for
its confirmation has no fall by the timer that runs now. -/
def restartSlotTimer (s : State) : State :=
  (s.setLoop { s.loop with slotTimer := 0, part := .mark, owner := none, heard := none }).setLine { s.line with fallAt := none }

/-- A beat event at the transceiver: a frame being received ends, a slot in progress ends, and the partition
begins anew (R56, R65). -/
def restartSlots (s : State) : State :=
  restartSlotTimer (clearSlot .mark (endReception s))

/-! ### Frames built by the station -/

/-- A frame with the header the station gives it now (R72). -/
def State.frame (s : State) (kind : FrameKind) (faultByte : Byte) (items : List Item) : Frame :=
  ⟨kind, s.startup.ownAddr, s.supplyLowFlag, s.anyFault, s.beat.barCount, s.beat.beatIndex, faultByte, items⟩

/-- The item of a queued RAISE or CLEAR, with a clear silenced flag (R72). -/
def messageItem (input : Nat) (r : Request) : Item :=
  ⟨input, r.cue, r.priority, r.latched, false⟩

/-- The frame a message is sent as (R72). -/
def messageFrame (n : News) (s : State) : Frame :=
  match n with
  | .raise i r => s.frame .raise 0#8 [messageItem i r]
  | .clear i r => s.frame .clear 0#8 [messageItem i r]
  | .silence => s.frame .silence 0#8 []
  | .restore => s.frame .restore 0#8 []

/-- The item an own entry gives in STATUS (R73). -/
def Entry.item (e : Entry) : Item :=
  ⟨e.input, e.cue, e.priority, e.latched, e.silenced⟩

/-- The own entries in input order 0 to 11 (R73). -/
def ownEntries (own : Nat) (table : List Entry) : List Entry :=
  (List.range 12).filterMap fun i => table.find? (Entry.hasKey own i)

/-- The STATUS frame the station builds (R73). -/
def statusFrame (s : State) : Frame :=
  s.frame .status s.faults ((ownEntries s.startup.ownAddr s.table).map Entry.item)

/-- A frame begun: its first start bit is on the line, `since` ago (R201). DESIGN CHOICE: the byte is timed from the moment
the station drives its start bit, not from the fall it sees 2 µs later (R197, R202; log entry 19). -/
def startTx (slot : Slot) (f : Frame) (since : Nat) (sampled : Bool) (s : State) : State :=
  s.setLoop { s.loop with tx := some ⟨slot, f.bytes, 0, 0, since, sampled, .sending⟩ }

/-- Whether the station may begin a frame: MEMBER, DATA high, and no frame being followed (R74, R87). -/
def State.mayBegin (s : State) : Bool :=
  s.isMember && !s.pins.dataLow && s.loop.rx.isNone

/-- The STATUS begun in the own owned slot, or nothing when it may not be begun (R74). -/
def sendStatus (slot : Slot) (s : State) : State :=
  if s.loop.owner = some s.startup.ownAddr ∧ s.mayBegin ∧ slot.startsAt s.loop.slotTimer then
    startTx slot (statusFrame s) 0 false s
  else s

/-- The head message offered: its frame is built and its on-the-line flag set (R87). -/
def offerHead (since : Nat) (sampled : Bool) (s : State) : State :=
  match s.queue.messages with
  | [] => s
  | m :: _ => startTx .openSlot (messageFrame m.news s) since sampled (s.setQueue s.queue.offerHead)

/-- A slot begins (R56, R57): the owner is fixed by the beat index, and the own owned slot's STATUS begins (R74). -/
def slotBegin (s : State) : State :=
  match s.loop.part.nextSlot with
  | none => s
  | some sl =>
    if sl.begins ≤ s.loop.slotTimer ∧ s.running then
      sendStatus sl (s.setLoop { s.loop with part := sl.part, owner := sl.ownerAt s.beat.beatIndex })
    else s

/-- Whether the line holds the start bit of another member's open-slot start, not yet confirmed, to which this
station aligns (R88). -/
def State.aligns (s : State) : Bool :=
  s.isMember && !s.queue.messages.isEmpty && !s.loop.placed && s.loop.attempt != .past
    && match s.line.fallAt with
      | some t => Slot.openSlot.accepts t && decide (t < Slot.openSlot.begins)
      | none => false

/-- The attempt in the open slot at the moment of the station's own 20 ms (R87); at any other time of the beat it does
not come about (log entry 3). With an empty queue, or with the line in use, its moment passes and nothing begins in that
slot. A start bit that the station may align to is the earlier moment, so the attempt waits for its confirmation (R88); one
that turns out a disturbance leaves the own 20 ms as the attempt's moment, at which DATA was low, and nothing begins. -/
def openSlotAttempt (s : State) : State :=
  if s.isMember ∧ s.loop.attempt = .ahead ∧ s.loop.slotTimer = Slot.openSlot.begins
      ∧ (s.loop.part = .mark ∨ s.loop.part = .openSlot) then
    if s.pins.dataLow ∧ s.line.phase = .start ∧ s.loop.rx.isNone ∧ s.aligns then
      s.setLoop { s.loop with attempt := .waiting }
    else
      let t := s.setLoop { s.loop with attempt := .past }
      if t.mayBegin then offerHead 0 false t else t
  else s

/-- The pass report for the slot's owner, handed on while MEMBER (R71). -/
def passReport (owner : Nat) (s : State) : State :=
  if owner = s.startup.ownAddr then passSelf s.loop.conflictSeen s else passOther owner s.loop.heard s

/-- A slot ends (R56): a frame placed in it and still being received is invalid (R65), the owned slot's pass is
reported (R71), and the slot state is cleared. -/
def slotEnd (s : State) : State :=
  match s.loop.part.slot with
  | none => s
  | some sl =>
    if sl.ends ≤ s.loop.slotTimer ∧ s.running then
      let t := if (s.loop.rx.bind Reception.slot) = some sl then endReception s else s
      let u :=
        match t.loop.owner with
        | some o => if t.isMember then passReport o t else t
        | none => t
      clearSlot sl.partAfter u
    else s

end Sys2Proof.Machine
end

