-- ==== Sys2Proof/Machine/Beat.lean ====
section
/-! DEFINITION. The beat unit (chapter 1). -/

namespace Sys2Proof.Machine

/-- The beat unit of the station changed. -/
def modifyBeat (f : BeatUnit → BeatUnit) (s : State) : State :=
  s.setBeat (f s.beat)

/-! ### Beats -/

/-- The beat index has become 0 (R2). -/
def becomeZero (s : State) : State :=
  let t := modifyBeat (fun b => { b with barCount := b.barCount + 1#8, strayTally := 0 }) s
  if s.beat.lock = .locked then indexZeroReport t else t

/-- The beat unit's own part of a beat (R1, R4): the timer restarts, the index advances by one, and at a FOLLOWED
or OWN beat the low period begins to be measured. -/
def startBeat (kind : BeatKind) (s : State) : State :=
  let t := modifyBeat (fun b =>
    { b with
      timer := 0, lastKind := kind, eighth := 0, beatIndex := b.beatIndex + 1#4
      measuring := kind == .followed || kind == .own }) s
  if t.beat.beatIndex = 0#4 then becomeZero t else t

/-- The mark of a beat (R3, R5): a bar mark at index 0 with the phase confirmed, else a short mark. The station sees its
own pull through its filter, 2 µs later (R197). -/
def holdMark (s : State) : State :=
  let m : Mark :=
    if s.beat.beatIndex = 0#4 ∧ s.beat.phaseConfirmed then ⟨.bar, barMarkTime⟩ else ⟨.short, shortMarkTime⟩
  modifyBeat (fun b => { b with mark := some m, lowTimer := if s.pins.beatLow then b.lowTimer else 0 }) s

/-- A beat event handed to the transceiver, the transmit queue, the supply monitor and the player, with the eighth
0 it gives the player and the key unit (R1, R20). DESIGN CHOICE: where that eighth 0 completes a chord, neither R1
and R85 nor R20 and R167 order the queue's ageing and the RESTORE; here the queue ages first, so a message expires
before the RESTORE looks for its place, and the RESTORE's own age starts after this beat (log entry 10). -/
def handBeat (s : State) : State :=
  handMark playerBeat (requestSupply (ageQueue (restartSlots s)))

/-- Entry to LOCKED (R17). -/
def enterLocked (s : State) : State :=
  lockedReport (modifyBeat (fun b => { b with lock := .locked, strayTally := 0, settle := 0, freeBeats := 0 }) s)

/-- Entry to FREE from LOCKED or SETTLING (R16). -/
def enterFree (s : State) : State :=
  freeReport (modifyBeat (fun b =>
    { b with lock := .free, mark := none, strayTally := 0, settle := 0, freeBeats := 0, phaseConfirmed := false }) s)

/-- The settle count set in SETTLING; at 4 the unit enters LOCKED (R11, R12). -/
def settleTo (n : Nat) (s : State) : State :=
  if 4 ≤ n then enterLocked s
  else modifyBeat (fun b => { b with lock := .settling, settle := n, freeBeats := 0 }) s

/-- A beat in SETTLING, or the FOLLOWED beat that enters it, which leaves the settle count at `n` (R9, R11, R12). -/
def settlingBeat (kind : BeatKind) (n : Nat) (s : State) : State :=
  handBeat (holdMark (settleTo n (startBeat kind s)))

/-- A beat in LOCKED (R13). -/
def lockedBeat (kind : BeatKind) (s : State) : State :=
  handBeat (holdMark (startBeat kind s))

/-- A fall less than 20 ms after an INTERNAL or START beat, taken as the same beat (R9). -/
def sameBeat (s : State) : State :=
  let t := modifyBeat (fun b =>
    { b with
      lock := .settling, settle := 1, freeBeats := 0, timer := 0, eighth := 0, lastKind := .followed
      measuring := true }) s
  restartSlotTimer (holdMark t)

/-- A stray (R14, R22); the third one of a bar sends the unit to FREE. -/
def stray (s : State) : State :=
  let t := bump .stray (modifyBeat (fun b => { b with strayTally := b.strayTally + 1 }) s)
  if 3 ≤ s.beat.strayTally + 1 then enterFree t else t

/-- What a fall that the station sees does, by lock state and time since the last beat (section 1.3). -/
def takeFall (s : State) : State :=
  let guarded : Bool := decide (s.beat.timer < guardTime)
  let early : Bool := decide (s.beat.timer < captureTime)
  match s.beat.lock with
  | .halted => s
  | .free =>
    if guarded then
      if s.beat.lastKind = .start ∨ s.beat.lastKind = .internal then sameBeat s else s
    else settlingBeat .followed 1 s
  | .settling =>
    if guarded then s else if early then settlingBeat .followed 1 s else settlingBeat .followed (s.beat.settle + 1) s
  | .locked =>
    if guarded then s else if early then stray s else lockedBeat .followed s

/-- Whether a fall of BEAT can be seen now: the line is high, and has been long enough for the filter to take a low
level (R3, R197). -/
def State.seesBeatFall (s : State) : Bool :=
  !s.pins.beatLow && decide (filterTime ≤ s.pins.beatHeld)

/-- A fall of BEAT, as the filter hands it on (R197). One that comes while the line is low merges into the same low
period and is not seen (R3). -/
def beatFall (s : State) : State :=
  if s.seesBeatFall then
    takeFall (modifyBeat (fun b => { b with lowTimer := 0 })
      (s.setPins { s.pins with beatLow := true, beatHeld := 0 }))
  else s

/-- Whether the beat timer has reached 250 ms. -/
def State.beatExpired (s : State) : Bool :=
  s.beat.lock != .halted && decide (beatTime ≤ s.beat.timer)

/-- An INTERNAL beat of a FREE unit (R10): alone on its loop at the sixteenth, it enters LOCKED and originates. -/
def internalBeat (s : State) : State :=
  let n := if s.pins.beatLow then 0 else s.beat.freeBeats + 1
  let t := startBeat .internal s
  if 16 ≤ n then
    handBeat (holdMark (enterLocked (modifyBeat (fun b => { b with phaseConfirmed := true }) t)))
  else handBeat (modifyBeat (fun b => { b with freeBeats := n }) t)

/-- The beat timer reaches 250 ms (R1, R10, R12, R13). -/
def beatTimerExpiry (s : State) : State :=
  if s.beatExpired then
    match s.beat.lock with
    | .halted => s
    | .free => internalBeat s
    | .settling => settlingBeat .own (s.beat.settle + 1) s
    | .locked => lockedBeat .own s
  else s

/-- The step that brings a beat. -/
def beatBy (c : BeatCause) (s : State) : State :=
  match c with
  | .fall => beatFall s
  | .expiry => beatTimerExpiry s

/-- Whether a fall of BEAT now is seen by a unit that is not HALTED. -/
def State.fallSeen (s : State) : Bool :=
  s.seesBeatFall && s.beat.lock != .halted

/-- Whether a step now brings a beat with a beat event (R1). -/
def State.beatComes (c : BeatCause) (s : State) : Bool :=
  match c with
  | .expiry => s.beatExpired
  | .fall =>
    s.fallSeen && decide (guardTime ≤ s.beat.timer)
      && (s.beat.lock != .locked || decide (captureTime ≤ s.beat.timer))

/-- Whether a fall of BEAT now is the third stray (R14). -/
def State.thirdStrayNow (s : State) : Bool :=
  s.fallSeen && s.beat.lock == .locked && decide (guardTime ≤ s.beat.timer)
    && decide (s.beat.timer < captureTime) && decide (3 ≤ s.beat.strayTally + 1)

/-- Whether a step now brings the beat at which the unit enters LOCKED (R10, R11, R12). -/
def State.locksNow (c : BeatCause) (s : State) : Bool :=
  match c, s.beat.lock with
  | .fall, .settling => s.fallSeen && decide (captureTime ≤ s.beat.timer) && decide (4 ≤ s.beat.settle + 1)
  | .expiry, .settling => s.beatExpired && decide (4 ≤ s.beat.settle + 1)
  | .expiry, .free => s.beatExpired && !s.pins.beatLow && decide (16 ≤ s.beat.freeBeats + 1)
  | _, _ => false

/-! ### Marks and the line -/

/-- The mark's time has run and the station releases BEAT (R3). -/
def markRelease (s : State) : State :=
  match s.beat.mark with
  | some m => if m.remaining = 0 then modifyBeat (fun b => { b with mark := none }) s else s
  | none => s

/-- Whether the low period being measured has lasted to the bar mark threshold (R4). -/
def State.barMarkNow (s : State) : Bool :=
  s.beat.measuring && s.pins.beatLow && s.beat.lock != .halted && decide (barThreshold ≤ s.beat.timer)

/-- A bar mark recognised (R4): the index is set to 0, with the effects of R2 if it changes, and the phase is
confirmed. -/
def recogniseBarMark (s : State) : State :=
  let t := modifyBeat (fun b => { b with measuring := false, phaseConfirmed := true, beatIndex := 0#4 }) s
  if s.beat.beatIndex = 0#4 then t else becomeZero t

/-- BEAT is still low 8 ms after the beat (R4). -/
def barMark (s : State) : State :=
  if s.barMarkNow then recogniseBarMark s else s

/-- Whether a rise of BEAT can be seen now: the line is low, the station holds no mark, and both have been so long
enough for the filter to take a high level (R3, R197). -/
def State.seesBeatRise (s : State) : Bool :=
  s.pins.beatLow && s.beat.mark.isNone && decide (filterTime ≤ s.pins.beatHeld)

/-- BEAT rises (R4, R21), as the filter hands it on (R197). While the station holds a mark the line cannot rise (R3).
A low period that has lasted 8 ms is a bar mark, one that has not is a short mark. -/
def beatRise (s : State) : State :=
  if s.seesBeatRise then
    let t := barMark s
    let u := modifyBeat (fun b => { b with lowTimer := 0, measuring := false, stuck := false })
      (t.setPins { t.pins with beatLow := false, beatHeld := 0 })
    if s.beat.stuck then clearFault .beatStuck u else u
  else s

/-- The low timer passes 40 ms (R21). -/
def beatStuck (s : State) : State :=
  if s.pins.beatLow ∧ s.beat.lock ≠ .halted ∧ ¬ s.beat.stuck ∧ beatStuckTime < s.beat.lowTimer then
    let t := setFault .beatStuck (modifyBeat (fun b => { b with stuck := true }) s)
    if s.beat.lock = .settling ∨ s.beat.lock = .locked then enterFree t else t
  else s

/-- Whether the next eighth mark's time has come (R20). -/
def State.eighthDue (s : State) : Bool :=
  s.beat.lock != .halted && decide (s.beat.eighth < 7) && decide (eighthTime * (s.beat.eighth + 1) ≤ s.beat.timer)

/-- The next eighth mark of the beat (R20). -/
def eighthMark (s : State) : State :=
  if s.eighthDue then handMark playerMark (modifyBeat (fun b => { b with eighth := b.eighth + 1 }) s) else s

/-- The step that brings an eighth mark. -/
def eighthBy (c : EighthCause) (s : State) : State :=
  match c with
  | .mark => eighthMark s
  | .beat b => beatBy b s

/-- Whether a step now brings an eighth mark (R20). -/
def State.eighthComes (c : EighthCause) (s : State) : Bool :=
  match c with
  | .mark => s.eighthDue
  | .beat b => s.beatComes b

/-- The step that can make the beat index become 0. -/
def zeroBy (c : ZeroCause) (s : State) : State :=
  match c with
  | .beat b => beatBy b s
  | .barMark => barMark s

/-- Whether a step now makes the beat index become 0 while LOCKED, which is reported (R2). -/
def State.zeroComes (c : ZeroCause) (s : State) : Bool :=
  s.beat.lock == .locked
    && match c with
      | .beat b => s.beatComes b && s.beat.beatIndex == 15#4
      | .barMark => s.barMarkNow && s.beat.beatIndex != 0#4

/-! ### Adoption (section 1.4) -/

/-- The distance of a sender's bar count ahead of the own one (R19). -/
def barDistance (sender own : Byte) : Nat :=
  (sender - own).toNat

/-- Whether a LOCKED unit adopts a sender's bar count (R19). -/
def aheadWins (senderBar ownBar : Byte) (sender own : Nat) : Bool :=
  let d := barDistance senderBar ownBar
  (decide (1 ≤ d) && decide (d ≤ 127)) || (d == 128 && decide (sender < own))

/-- The bar count and beat index of a valid STATUS offered to the beat unit (R18, R19). -/
def adopt (sender : Nat) (bar : Byte) (beat : BitVec 4) (s : State) : State :=
  match s.beat.lock with
  | .halted => s
  | .free | .settling =>
    modifyBeat (fun b => { b with barCount := bar, beatIndex := beat, phaseConfirmed := true }) s
  | .locked =>
    if s.beat.phaseConfirmed then
      if aheadWins bar s.beat.barCount sender s.startup.ownAddr then modifyBeat (fun b => { b with barCount := bar }) s
      else s
    else modifyBeat (fun b => { b with barCount := bar, beatIndex := beat, phaseConfirmed := true }) s

end Sys2Proof.Machine
end

