-- ==== Sys2Proof/Machine/BeatRows.lean ====
section
/-! DEFINITION. The commands of the beat unit, and those the manual gives as cases of a beat, of an eighth mark or of an index that becomes 0 (chapters 1, 4, 6 and 10). -/

namespace Sys2Proof.Machine

/-- The station as the player finds it at an eighth mark: after the key unit when that comes first (R20). -/
def State.atPlayer (s : State) : State :=
  if s.chordDue && Config.keysBeforePlayer then keyMark s else s

/-- Whether a step now is the eighth mark at which an intro has ended (R123). -/
def State.introEndsNow (c : EighthCause) (s : State) : Bool :=
  s.eighthComes c && s.atPlayer.player.introOver s.library
    && match c with
      | .mark => true
      | .beat _ => !s.atPlayer.player.testDue && s.atPlayer.player.starts.isNone

/-- Whether a step now is the beat event that brings test beats to 4 (R130). -/
def State.testEndsNow (c : BeatCause) (s : State) : Bool :=
  s.beatComes c && s.player.mode == .test && !s.player.testDue && decide (4 ≤ s.player.testBeats + 1)

/-- Whether a step now is a beat event that expires a message (R85). -/
def State.expiresNow (c : BeatCause) (s : State) : Bool :=
  s.beatComes c && s.queue.messages.any fun m => m.aged.expired

/-- Whether a step now brings the second index of 0 of a JOINING station (R191). -/
def State.joinsNow (c : ZeroCause) (s : State) : Bool :=
  s.zeroComes c && s.startup.station == .joining && decide (2 ≤ s.startup.membership + 1)

/-- Whether a step now is the eighth mark that completes a chord (R167). -/
def State.restoresNow (c : EighthCause) (s : State) : Bool :=
  s.eighthComes c && s.chordDue

/-- BEAT_FALL (R1, R9 to R14). -/
def execBeatFall (after : Nat) (s : State) : Host.Outcome State Fault Refusal :=
  .next (beatFall (s.elapse after))

/-- THIRD_STRAY (R14, R16): the fall that is the third stray of a bar. -/
def execThirdStray (after : Nat) (s : State) : Host.Outcome State Fault Refusal :=
  .next (let t := s.elapse after; if t.thirdStrayNow then beatFall t else t)

/-- BEAT_TIMER_EXPIRY (R1, R10, R12, R13). -/
def execBeatTimerExpiry (after : Nat) (s : State) : Host.Outcome State Fault Refusal :=
  .next (beatTimerExpiry (s.elapse after))

/-- ENTER_LOCKED (R10 to R12, R17): the beat at which the unit enters LOCKED. -/
def execEnterLocked (after : Nat) (cause : BeatCause) (s : State) : Host.Outcome State Fault Refusal :=
  .next (let t := s.elapse after; if t.locksNow cause then beatBy cause t else t)

/-- MARK_RELEASE (R3). -/
def execMarkRelease (after : Nat) (s : State) : Host.Outcome State Fault Refusal :=
  .next (markRelease (s.elapse after))

/-- BAR_MARK (R2, R4). -/
def execBarMark (after : Nat) (s : State) : Host.Outcome State Fault Refusal :=
  .next (barMark (s.elapse after))

/-- BEAT_RISE (R4, R21). -/
def execBeatRise (after : Nat) (s : State) : Host.Outcome State Fault Refusal :=
  .next (beatRise (s.elapse after))

/-- BEAT_STUCK (R16, R21). -/
def execBeatStuck (after : Nat) (s : State) : Host.Outcome State Fault Refusal :=
  .next (beatStuck (s.elapse after))

/-- EIGHTH_MARK (R20). -/
def execEighthMark (after : Nat) (s : State) : Host.Outcome State Fault Refusal :=
  .next (eighthMark (s.elapse after))

/-- INTRO_END (R123): the eighth mark at which an intro has ended. -/
def execIntroEnd (after : Nat) (cause : EighthCause) (s : State) : Host.Outcome State Fault Refusal :=
  .next (let t := s.elapse after; if t.introEndsNow cause then eighthBy cause t else t)

/-- TEST_END (R130): the beat event at which an output test ends. -/
def execTestEnd (after : Nat) (cause : BeatCause) (s : State) : Host.Outcome State Fault Refusal :=
  .next (let t := s.elapse after; if t.testEndsNow cause then beatBy cause t else t)

/-- MESSAGE_EXPIRY (R85): a beat event at which a message expires. -/
def execMessageExpiry (after : Nat) (cause : BeatCause) (s : State) : Host.Outcome State Fault Refusal :=
  .next (let t := s.elapse after; if t.expiresNow cause then beatBy cause t else t)

/-- MEMBERSHIP (R191): the index of 0 that makes a JOINING station MEMBER. -/
def execMembership (after : Nat) (cause : ZeroCause) (s : State) : Host.Outcome State Fault Refusal :=
  .next (let t := s.elapse after; if t.joinsNow cause then zeroBy cause t else t)

/-- RESTORE_ACTION (R167, R169): the eighth mark that completes a chord. -/
def execRestoreAction (after : Nat) (cause : EighthCause) (s : State) : Host.Outcome State Fault Refusal :=
  .next (let t := s.elapse after; if t.restoresNow cause then eighthBy cause t else t)

end Sys2Proof.Machine
end

