-- ==== Sys2Proof/Machine/Receive.lean ====
section
/-! DEFINITION. The DATA line: edges, samples, read-back, and the frames that end (chapters 3, 4 and 11). -/

namespace Sys2Proof.Machine

/-- The line receiver of the station changed. -/
def modifyLine (f : Line → Line) (s : State) : State :=
  s.setLine (f s.line)

/-- The transmit record of the station changed. -/
def modifyTx (f : TxRecord → TxRecord) (s : State) : State :=
  s.setLoop { s.loop with tx := s.loop.tx.map f }

/-! ### Frames that end (sections 3.5 and 3.6) -/

/-- Whether the frame received in the current slot is the station's own (R68). -/
def State.ownFrame (s : State) : Bool :=
  match s.loop.tx with
  | some r => r.outcome == .complete
  | none => false

/-- A frame from the own address that the station did not send raises ADDRESS_CONFLICT, and in an owned slot sets
the conflict-seen flag (R69). -/
def conflictBy (slot : Slot) (f : Frame) (s : State) : State :=
  if f.sender = s.startup.ownAddr ∧ ¬ s.ownFrame then
    setFault .addressConflict
      (if slot.owned then s.setLoop { s.loop with conflictSeen := true } else s)
  else s

/-- The sender flags of an open-slot frame from another station, while MEMBER (R67, R100). -/
def flagsBy (f : Frame) (s : State) : State :=
  if s.isMember ∧ ¬ s.ownFrame ∧ f.sender ≠ s.startup.ownAddr then storeFlags f.sender f.supplyLow f.anyFault s
  else s

/-- A valid RAISE at its end (R37, R38, R69, R100). -/
def endRaise (slot : Slot) (f : Frame) (s : State) : State :=
  let t := if f.sender = s.startup.ownAddr then s else applyRaise f.sender s.stamp f.items s
  flagsBy f (conflictBy slot f t)

/-- A valid CLEAR at its end (R37, R39, R69, R100). -/
def endClear (slot : Slot) (f : Frame) (s : State) : State :=
  let t := if f.sender = s.startup.ownAddr then s else applyClear f.sender f.items s
  flagsBy f (conflictBy slot f t)

/-- A SILENCE at its end: applied unless this station sent it (R37, R47). -/
def endSilence (slot : Slot) (f : Frame) (s : State) : State :=
  let t := if s.ownFrame then s else applySilence s
  flagsBy f (conflictBy slot f t)

/-- A RESTORE at its end: applied unless this station sent it (R37, R51). The restore and a conflict report of the
same frame come in an open order (R106). -/
def endRestore (slot : Slot) (f : Frame) (s : State) : State :=
  if s.ownFrame then s
  else if f.sender = s.startup.ownAddr then
    if Config.restoreBeforeConflict then conflictBy slot f (applyRestore s)
    else applyRestore (conflictBy slot f s)
  else flagsBy f (applyRestore s)

/-- The stamp of an entry that a STATUS inserts: the station's clock, before or after the adoption that the same
frame brings (R26, R67). -/
def statusStamp (before after : State) : Stamp :=
  if before.stamp = after.stamp then before.stamp
  else if Config.stampAfterAdoption then after.stamp else before.stamp

/-- A STATUS from an address other than the slot's owner is counted MISPLACED; the owner's is kept for the pass
report (R70, R71). -/
def noteOwner (f : Frame) (s : State) : State :=
  if s.loop.owner ≠ some f.sender then bump .misplaced s
  else if f.sender = s.startup.ownAddr then s
  else s.setLoop { s.loop with heard := some ⟨f.faultByte, f.supplyLow, f.anyFault⟩ }

/-- A valid STATUS at its end (R37, R40, R67 to R71). -/
def endStatus (slot : Slot) (f : Frame) (s : State) : State :=
  let t := adopt f.sender f.bar f.beat s
  let u := if f.sender = s.startup.ownAddr then t else applyStatus f.sender (statusStamp s t) f.items t
  conflictBy slot f (noteOwner f u)

/-- A valid frame handed on at its end (R67). One whose kind is not allowed in its slot is counted MISPLACED and
discarded (R64), but from the own address it is a conflict like any other frame (R69). -/
def handOn (slot : Slot) (f : Frame) (s : State) : State :=
  if slotAllowed f.kind slot then
    match f.kind with
    | .raise => endRaise slot f s
    | .clear => endClear slot f s
    | .silence => endSilence slot f s
    | .restore => endRestore slot f s
    | .status => endStatus slot f s
  else conflictBy slot f (bump .misplaced s)

/-- A frame that has ended is counted or handed on (R64, R66, R67). -/
def judgeFrame (r : Reception) (s : State) : State :=
  match r.slot with
  | none => bump .misplaced s
  | some slot =>
    match (if r.validSoFar then parseFrame r.bytes else none) with
    | some f => handOn slot f s
    | none => bump .rxErr s

/-- A byte added to a frame being received; the first 30 bytes are kept, and the frame is marked INVALID at the
first byte that breaks a condition (R61, R63). -/
def Reception.take (b : Byte) (framingError : Bool) (r : Reception) : Reception :=
  let bytes := (r.bytes ++ [b]).take 30
  { r with bytes := bytes, validSoFar := r.validSoFar && !framingError && validPrefix bytes }

/-- Whether a frame being received has reached its expected length (R61). -/
def Reception.whole (r : Reception) : Bool :=
  expectedLength r.bytes == some r.bytes.length

/-! ### Sending and read-back (section 11.4) -/

/-- Whether the bit being sent has reached its sample time (R202), 50 µs into the bit as the station drives it: DESIGN CHOICE,
log entry 19. -/
def State.readBackDue (s : State) : Bool :=
  match s.loop.tx with
  | some r =>
    r.outcome == .sending && !r.sampled && decide (r.byte < r.bytes.length)
      && decide (bitTime * r.bit + 50 ≤ r.bitTimer)
  | none => false

/-- The level the station reads on DATA; true is recessive. -/
def State.dataLevel (s : State) : Bool :=
  !s.pins.dataLow

/-- Whether the bit being sent reads back at the other level now (R202). -/
def State.mismatchNow (s : State) : Bool :=
  s.readBackDue
    && match s.loop.tx with
      | some r => r.level != s.dataLevel
      | none => false

/-- Whether the stop bit of the check byte reads back clean now (R202). -/
def State.completesNow (s : State) : Bool :=
  s.readBackDue
    && match s.loop.tx with
      | some r => r.level == s.dataLevel && r.bit == 9 && r.byte + 1 == r.bytes.length
      | none => false

/-- What a mismatch is, by its kind, the frame and the byte (R75, R89 to R91). -/
def countMismatch (r : TxRecord) (s : State) : State :=
  if r.level then
    if r.slot = .openSlot ∧ r.byte ≤ 1 then bump .arbLoss s else setFault .addressConflict s
  else setFault .dataLine s

/-- The clean completion of an own frame: an open-slot message leaves the queue, and with DATA high DATA_LINE is
cleared (R75, R92, R109). -/
def completeTx (r : TxRecord) (s : State) : State :=
  let t := modifyTx (fun x => { x with sampled := true, outcome := .complete }) s
  let u := if r.slot = .openSlot then t.setQueue t.queue.sent else t
  if u.dataLevel then clearFault .dataLine u else u

/-- The bit being sent is compared with the line at its sample time (R202). -/
def readBack (s : State) : State :=
  match s.loop.tx with
  | none => s
  | some r =>
    if s.mismatchNow then abandonTx (countMismatch r s)
    else if s.completesNow then completeTx r s
    else if s.readBackDue then modifyTx (fun x => { x with sampled := true }) s
    else s

/-- The bit after the one being sent: the next bit of the byte, or the next byte's start bit (R201), from which that byte is
timed: DESIGN CHOICE, log entry 19. -/
def TxRecord.nextBit (r : TxRecord) : TxRecord :=
  if r.bit < 9 then { r with bit := r.bit + 1, sampled := false }
  else { r with byte := r.byte + 1, bit := 0, bitTimer := 0, sampled := false }

/-- A bit time ends (R201). -/
def bitTimeEnd (s : State) : State :=
  match s.loop.tx with
  | none => s
  | some r =>
    if r.driving ∧ r.sampled ∧ bitTime * (r.bit + 1) ≤ r.bitTimer then modifyTx TxRecord.nextBit s else s

/-- A sender in its stop bit, sampled and not yet ended, begins its next byte at a fall of DATA (R201). -/
def resynchronise (s : State) : State :=
  match s.loop.tx with
  | none => s
  | some r =>
    if r.outcome = .sending ∧ r.bit = 9 ∧ r.sampled ∧ r.byte + 1 < r.bytes.length then modifyTx TxRecord.nextBit s
    else s

/-! ### Edges (sections 11.2 to 11.5) -/

/-- Whether an edge of DATA can be seen now: the line has stood long enough for the filter to take the other level
(R197). -/
def State.seesDataEdge (s : State) : Bool :=
  decide (filterTime ≤ s.pins.dataHeld)

/-- A fall of DATA as the filter hands it on (R197, R199, R201, R204): in IDLE and GAP it can be a start bit. DESIGN
CHOICE: the bit count and the shift byte are cleared at the fall and again at its confirmation, where R199 gives bit
count 0 (log entry 11). -/
def dataFall (s : State) : State :=
  if s.pins.dataLow || !s.seesDataEdge then s
  else
    let t := modifyLine (fun l => { l with lowTimer := 0, stuckTold := false })
      (s.setPins { s.pins with dataLow := true, dataHeld := 0 })
    if s.running then
      let u :=
        if s.line.phase = .idle ∨ s.line.phase = .gap then
          modifyLine (fun l =>
            { l with
              phase := .start, byteTimer := 0, bitCount := 0, shift := 0#8
              fromGap := s.line.phase == .gap, fallAt := some s.loop.slotTimer }) t
        else t
      resynchronise u
    else t

/-- A rise of DATA as the filter hands it on (R197, R200, R204). -/
def dataRise (s : State) : State :=
  if s.pins.dataLow && s.seesDataEdge then
    let t := modifyLine (fun l => { l with lowTimer := 0, stuckTold := false })
      (s.setPins { s.pins with dataLow := false, dataHeld := 0 })
    if s.line.phase = .waitHigh then modifyLine (fun l => { l with phase := .gap, gapTimer := 0, gapLead := 0 }) t
    else t
  else s

/-- DATA has been low for more than 2 ms (R204). -/
def dataStuck (s : State) : State :=
  if s.running ∧ s.pins.dataLow ∧ ¬ s.line.stuckTold ∧ dataStuckTime < s.line.lowTimer then
    setFault .dataLine (modifyLine (fun l => { l with stuckTold := true }) s)
  else s

/-! ### Samples (section 11.3) -/

/-- When the receiver samples the line next, after the start bit's fall (R199). -/
def Line.sampleAt (l : Line) : Option Nat :=
  match l.phase with
  | .start => some 50
  | .bits => some (150 + bitTime * l.bitCount)
  | .stop => some 950
  | .idle | .gap | .waitHigh => none

/-- Whether the receiver's next sample time has come. -/
def State.sampleDue (s : State) : Bool :=
  match s.line.sampleAt with
  | some t => decide (t ≤ s.line.byteTimer)
  | none => false

/-- A new frame begins with a confirmed start bit (R64): placed when its first fall lies in the acceptance span of a
slot that holds no placed frame, else misplaced. A contender of the open slot begins its own frame over it (R88). DESIGN
CHOICE: the MEMBER state, the queue, its head and the frame's header (the supply-LOW and any-fault flags, the bar count and
the beat index, R72, R111) are those of the confirmation, at which R201 adds the station's
pull, where R88 could also mean the fall 50 µs before (log entry 10). -/
def beginFrame (s : State) : State :=
  let slot := if s.loop.placed then none else s.line.fallAt.bind spanOf
  let t := s.setLoop { s.loop with
    rx := some ⟨slot, s.line.fallAt, [], true⟩
    placed := s.loop.placed || slot.isSome }
  if s.aligns then
    offerHead s.line.byteTimer true (t.setLoop { t.loop with attempt := .past })
  else t

/-- The sample of a start bit (R199). -/
def sampleStart (s : State) : State :=
  if s.dataLevel then modifyLine (fun l => { l with phase := if l.fromGap then .gap else .idle }) s
  else
    let t := modifyLine (fun l => { l with phase := .bits, bitCount := 0, shift := 0#8 }) s
    if s.loop.rx.isSome then t else beginFrame t

/-- The sample of a data bit, the first into the most significant place (R199). -/
def sampleData (s : State) : State :=
  let bit : Byte := if s.dataLevel then 1#8 else 0#8
  modifyLine (fun l =>
    { l with
      shift := (l.shift <<< 1) ||| bit
      bitCount := l.bitCount + 1
      phase := if 8 ≤ l.bitCount + 1 then .stop else .bits }) s

/-- The phase after a stop bit's sample while the frame goes on: GAP, whose timer starts at the nominal end of the
stop bit, or WAIT_HIGH (R199, R200). -/
def Line.afterByte (high : Bool) (l : Line) : Line :=
  if high then { l with phase := .gap, gapTimer := 0, gapLead := 1000 - l.byteTimer } else { l with phase := .waitHigh }

/-- The sample of a stop bit (R199): the byte is handed on, and a frame that has reached its expected length ends
(R61, R200). -/
def sampleStop (s : State) : State :=
  match s.loop.rx with
  | none => modifyLine (Line.afterByte s.dataLevel) s
  | some r =>
    let q := r.take s.line.shift s.pins.dataLow
    if q.whole then
      judgeFrame q (modifyLine (Line.rest s.pins.dataLow) (s.setLoop { s.loop with rx := none }))
    else modifyLine (Line.afterByte s.dataLevel) (s.setLoop { s.loop with rx := some q })

/-- The receiver's sample, when its time has come (R199). -/
def receiverSample (s : State) : State :=
  if s.sampleDue ∧ s.running then
    match s.line.phase with
    | .start => sampleStart s
    | .bits => sampleData s
    | .stop => sampleStop s
    | .idle | .gap | .waitHigh => s
  else s

/-- A sample time: the sender compares its bit, and the receiver samples the line (R199, R202). -/
def bitSample (s : State) : State :=
  receiverSample (readBack s)

/-- Whether a sample now confirms a start bit outside any frame (R199, R64). -/
def State.frameStartsNow (s : State) : Bool :=
  s.running && s.line.phase == .start && s.sampleDue && s.pins.dataLow && s.loop.rx.isNone

/-- The valid frame in its slot that a clean stop bit sampled now ends, if there is one (R61, R63). -/
def State.endingFrame (s : State) : Option (Slot × Frame) :=
  if s.running && s.line.phase == .stop && s.sampleDue && s.dataLevel then
    match s.loop.rx with
    | none => none
    | some r =>
      let q := r.take s.line.shift false
      match q.slot with
      | none => none
      | some slot =>
        if q.whole && q.validSoFar then (parseFrame q.bytes).map fun f => (slot, f) else none
  else none

/-- Whether a sample now ends a valid and rightly placed frame of a kind that is not the station's own (R67, R68). -/
def State.endsNow (k : FrameKind) (s : State) : Bool :=
  match s.endingFrame with
  | some (slot, f) => f.kind == k && slotAllowed k slot && !(readBack s).ownFrame
  | none => false

/-- A gap longer than one bit time ends the frame in progress, which is then short or of no known length (R61,
R200). DESIGN CHOICE: the bit count stays as it was, for R200 gives it no value there (log entry 11). -/
def gapTimeout (s : State) : State :=
  if s.line.phase = .gap ∧ bitTime < s.line.gapTimer then
    let t := modifyLine (fun l => { l with phase := .idle, fromGap := false }) s
    match s.loop.rx with
    | none => t
    | some r => bump (if r.slot.isSome then .rxErr else .misplaced) (t.setLoop { t.loop with rx := none })
  else s

end Sys2Proof.Machine
end

