-- ==== Sys2Proof/Machine/LoopRows.lean ====
section
/-! DEFINITION. The commands of the loop transceiver and the DATA line (chapters 3, 4 and 11). -/

namespace Sys2Proof.Machine

/-- SLOT_BEGIN (R56, R57, R74). -/
def execSlotBegin (after : Nat) (s : State) : Host.Outcome State Fault Refusal :=
  .next (slotBegin (s.elapse after))

/-- OPEN_SLOT_ATTEMPT (R87). -/
def execOpenSlotAttempt (after : Nat) (s : State) : Host.Outcome State Fault Refusal :=
  .next (openSlotAttempt (s.elapse after))

/-- SLOT_END (R56, R65, R71). -/
def execSlotEnd (after : Nat) (s : State) : Host.Outcome State Fault Refusal :=
  .next (slotEnd (s.elapse after))

/-- FRAME_START (R64, R88): the sample that confirms a frame's first start bit. -/
def execFrameStart (after : Nat) (s : State) : Host.Outcome State Fault Refusal :=
  .next (let t := s.elapse after; if t.frameStartsNow then bitSample t else t)

/-- RAISE_FRAME (R38): the sample that ends a valid RAISE of another station. -/
def execRaiseFrame (after : Nat) (s : State) : Host.Outcome State Fault Refusal :=
  .next (let t := s.elapse after; if t.endsNow .raise then bitSample t else t)

/-- CLEAR_FRAME (R39): the sample that ends a valid CLEAR of another station. -/
def execClearFrame (after : Nat) (s : State) : Host.Outcome State Fault Refusal :=
  .next (let t := s.elapse after; if t.endsNow .clear then bitSample t else t)

/-- STATUS_FRAME (R40): the sample that ends a valid STATUS of another station. -/
def execStatusFrame (after : Nat) (s : State) : Host.Outcome State Fault Refusal :=
  .next (let t := s.elapse after; if t.endsNow .status then bitSample t else t)

/-- SILENCE_FRAME (R47): the sample that ends a valid SILENCE of another station. -/
def execSilenceFrame (after : Nat) (s : State) : Host.Outcome State Fault Refusal :=
  .next (let t := s.elapse after; if t.endsNow .silence then bitSample t else t)

/-- RESTORE_FRAME (R51): the sample that ends a valid RESTORE of another station. -/
def execRestoreFrame (after : Nat) (s : State) : Host.Outcome State Fault Refusal :=
  .next (let t := s.elapse after; if t.endsNow .restore then bitSample t else t)

/-- GAP_TIMEOUT (R61, R200). -/
def execGapTimeout (after : Nat) (s : State) : Host.Outcome State Fault Refusal :=
  .next (gapTimeout (s.elapse after))

/-- READ_BACK_MISMATCH (R202): the sample at which a sent bit reads back at the other level. -/
def execReadBackMismatch (after : Nat) (s : State) : Host.Outcome State Fault Refusal :=
  .next (let t := s.elapse after; if t.mismatchNow then bitSample t else t)

/-- FRAME_COMPLETE (R92, R202): the sample at which an own frame has read back clean. -/
def execFrameComplete (after : Nat) (s : State) : Host.Outcome State Fault Refusal :=
  .next (let t := s.elapse after; if t.completesNow then bitSample t else t)

/-- DATA_STUCK (R204). -/
def execDataStuck (after : Nat) (s : State) : Host.Outcome State Fault Refusal :=
  .next (dataStuck (s.elapse after))

/-- DATA_FALL (R199, R201, R204). -/
def execDataFall (after : Nat) (s : State) : Host.Outcome State Fault Refusal :=
  .next (dataFall (s.elapse after))

/-- DATA_RISE (R200, R204). -/
def execDataRise (after : Nat) (s : State) : Host.Outcome State Fault Refusal :=
  .next (dataRise (s.elapse after))

/-- BIT_SAMPLE (R199, R202). -/
def execBitSample (after : Nat) (s : State) : Host.Outcome State Fault Refusal :=
  .next (bitSample (s.elapse after))

/-- BIT_TIME_END (R201). -/
def execBitTimeEnd (after : Nat) (s : State) : Host.Outcome State Fault Refusal :=
  .next (bitTimeEnd (s.elapse after))

end Sys2Proof.Machine
end

