-- ==== Sys2Proof/Machine/Modes.lean ====
section
/-! DEFINITION. The changes of station state that every block takes: cold start, warm start, entry to JOINING and
entry to QUIESCENT (chapter 10 and the start rules of every chapter), and the loading of the image. -/

namespace Sys2Proof.Machine

/-- The beat unit at a start: HALTED (R23). -/
def BeatUnit.atStart : BeatUnit :=
  ⟨.halted, 0, .start, 0#4, 0#8, 0, 0, 0, 0, false, none, 0, false, false⟩

/-- The line receiver at a start, where R205 gives all of it, and at the entry to QUIESCENT, for which R205 gives the
phase, the in-frame flag and DATA's low timer. DESIGN CHOICE: that entry sets the byte timer, the gap timer, the bit
count and the shift byte to 0 too, as a start does (log entry 11). -/
def Line.atStart : Line :=
  ⟨.idle, 0, 0, 0#8, 0, 0, false, none, 0, false⟩

/-- The slot state at a start and in quiescence (R77). DESIGN CHOICE: the slot timer, which R56 and R77 only stop there,
stands at 0, after a start and in QUIESCENT alike (log entries 11 and 16). -/
def Transceiver.atStart : Transceiver :=
  ⟨0, .mark, none, false, false, .ahead, none, none, none⟩

/-- A key at a cold start: debounced released; a key held pressed differs from that, and is being debounced (R165). -/
def KeyLine.atColdStart (k : KeyLine) : KeyLine :=
  ⟨k.raw, false, if k.raw then some 0 else none⟩

/-- The panel port at a start (R221): NO_RESPONSE held, the latch set, and an open transaction not taken. DESIGN CHOICE: PSO
is low from the start itself, where R206 changes it at falls of PSCK and R221 says only that 0x00 is clocked out for the
rest of the transaction (log entry 15). -/
def Port.atStart (p : Port) : Port :=
  ⟨p.opened, p.opened, [], 0, 0#8, 0, false, noResponse, true⟩

/-- A cold start: every block takes its cold-start values and the steps of R184 begin. The levels of the pins, the
commands that wait, a conversion in progress and the address of an earlier start stay. -/
def coldStart (cause : StartCause) (s : State) : State where
  pending := s.pending
  pins := s.pins
  beat := BeatUnit.atStart
  line := Line.atStart
  loop := Transceiver.atStart
  queue := TxQueue.empty
  table := []
  roster := rosterAtStart s.startup.ownAddr
  faults := 0#8
  counters := Counters.zero
  library := Library.defaults
  player := Player.atStart
  drive := Drive.atStart false
  converter := s.converter.orphaned.requestSupply
  scanner := ⟨0, none⟩
  bindings := List.replicate 8 Binding.disabled
  inputs := List.replicate 12 Input.atStart
  keys := ⟨s.keys.ack.atColdStart, s.keys.test.atColdStart, .idle, 0⟩
  supply := ⟨.normal, 0, 0, 0, 0, 0, some 0⟩
  startup :=
    ⟨.starting, cause, if s.pins.rst = .high then .settlingWait else .waiting, 0, s.startup.ownAddr, .notLoaded, 0,
      [], false⟩
  port := s.port.atStart

/-- Power-on (R183): a cold start in which nothing is left of an earlier run. RST low at power-on belongs to this
start. -/
def powerOn (rstLow : Bool) (s : State) : State :=
  coldStart .powerOn
    { s with
      pins := { s.pins with rst := if rstLow then .held else .high }
      converter := ⟨.idle, 0, false, false, false, none⟩
      startup := { s.startup with ownAddr := 0 } }

/-- The beat unit leaves HALTED for FREE with a START interval (R8). -/
def BeatUnit.join (b : BeatUnit) : BeatUnit :=
  { b with
    lock := .free, timer := 0, lastKind := .start, eighth := 0, settle := 0, freeBeats := 0
    phaseConfirmed := false, mark := none, lowTimer := 0, measuring := false }

/-- The key unit's look at the debounced levels (R170). -/
def KeyUnit.join (k : KeyUnit) : KeyUnit :=
  { k with state := if k.ack.debounced || k.test.debounced then .spent else .idle, hold := 0 }

/-- The entry to JOINING (R190). -/
def enterJoining (s : State) : State :=
  let t := setStation .joining s
  requestScan
    { t with
      beat := t.beat.join
      line := { t.line with phase := .idle, lowTimer := 0, stuckTold := false }
      loop := { t.loop with slotTimer := 0, part := .mark }
      scanner := ⟨0, some 0⟩
      keys := t.keys.join
      supply := { t.supply with ownTimer := none }
      startup := { t.startup with membership := 0 } }

/-- A warm start (R194): the address, the configuration, the library, CONFIG, the counters, the last supply band and
the keys' levels are kept, SUPPLY_LOW is in the fault set, and the station enters JOINING at once. -/
def warmStart (s : State) : State :=
  enterJoining
    { s with
      beat := BeatUnit.atStart
      line := Line.atStart
      loop := Transceiver.atStart
      queue := TxQueue.empty
      table := []
      roster := rosterAtStart s.startup.ownAddr
      faults := (s.faults &&& FaultName.config.mask) ||| FaultName.supplyLow.mask
      player := Player.atStart
      drive := Drive.atStart (s.supply.condition == .low)
      converter := s.converter.orphaned
      inputs := List.replicate 12 Input.atStart
      keys := { s.keys with state := .idle, hold := 0 }
      startup := { s.startup with cause := .supplyRecovery }
      port := s.port.atStart }

/-- The beat unit enters HALTED at the entry to QUIESCENT (R7, R24). -/
def BeatUnit.halt (b : BeatUnit) : BeatUnit :=
  { b with
    lock := .halted, strayTally := 0, settle := 0, freeBeats := 0, phaseConfirmed := false, mark := none
    measuring := false }

/-- An input at the entry to QUIESCENT (R164). -/
def Input.enterQuiescent (x : Input) : Input :=
  { x with candidate := .none, timer := none, request := .idle, posted := none }

/-- The controller at the entry to QUIESCENT (R184, R193): a cold start in progress is abandoned. -/
def Startup.enterQuiescent (u : Startup) : Startup :=
  { u with
    station := .quiescent
    membership := 0
    validity := if u.station = .starting then .notLoaded else u.validity
    image := []
    memoryBusy := false }

/-- The entry to QUIESCENT (R193, and the table of R176). -/
def enterQuiescent (s : State) : State :=
  let t := takeClaim []
    { s with
      beat := s.beat.halt
      line := Line.atStart
      loop := Transceiver.atStart
      queue := TxQueue.empty
      player := s.player.enterQuiescent
      scanner := { s.scanner with timer := none }
      converter := s.converter.enterQuiescent
      inputs := s.inputs.map Input.enterQuiescent
      keys := { s.keys with state := .idle, hold := 0 }
      supply := { s.supply with ownTimer := some 0 }
      startup := s.startup.enterQuiescent }
  markAttn (t.setDrive t.drive.enterQuiescent)

/-! ### The steps of a cold start (R184) -/

/-- Whether a cold start stands at a step. -/
def State.startingAt (st : StartStep) (s : State) : Bool :=
  s.startup.station == .starting && s.startup.step == st

/-- A start step begun. -/
def Startup.toStep (st : StartStep) (u : Startup) : Startup :=
  { u with step := st, stepTimer := 0 }

/-- RST rises: the start step WAITING ends (R183). -/
def endWaiting (s : State) : State :=
  if s.startingAt .waiting then s.setStartup (s.startup.toStep .settlingWait) else s

/-- A rise of RST (R183). The rise that ends a hold of 1 ms or more at a station still QUIESCENT causes a cold start,
and so does the rise of a hold whose cold start has not been taken yet. -/
def rstRise (s : State) : State :=
  let t := s.setPins { s.pins with rst := .high }
  match s.pins.rst with
  | .high => s
  | .timing held => if resetHoldTime ≤ held then coldStart .resetPin t else endWaiting t
  | .held => if s.startup.station = .quiescent then coldStart .resetPin t else endWaiting t

/-- RST has been low for 1 ms (R183). -/
def resetPin (s : State) : State :=
  match s.pins.rst with
  | .timing held =>
    if resetHoldTime ≤ held then coldStart .resetPin (s.setPins { s.pins with rst := .held }) else s
  | .high | .held => s

/-- The settling wait ends: the straps are read and the reading of the image begins (R184, R185, R186). -/
def settlingWaitEnd (straps : BitVec 5) (s : State) : State :=
  if s.startingAt .settlingWait ∧ settlingWaitTime ≤ s.startup.stepTimer then
    (s.setStartup
      { s.startup.toStep .reading with ownAddr := straps.toNat, image := [], memoryBusy := true }).setRoster
      (rosterAtStart straps.toNat)
  else s

/-- The image is rejected (R189): no field line enabled, every cue on P0, CONFIG reported, the lines released. -/
def rejectImage (s : State) : State :=
  setFault .config
    { s with
      bindings := List.replicate 8 Binding.disabled
      library := Library.defaults
      startup := { s.startup.toStep .checking with validity := .rejected, image := [], memoryBusy := false } }

/-- Whether `n` bytes have passed on the memory's lines since the read began (R186). -/
def State.readTimeOf (n : Nat) (s : State) : Bool :=
  decide (memoryByteTime * n ≤ s.startup.stepTimer)

/-- Whether the read of the image is in progress with `n` bytes of it read. -/
def State.readingAfter (n : Nat) (s : State) : Bool :=
  s.startingAt .reading && s.startup.memoryBusy && s.startup.image.length == n

/-- The seven header bytes have been read (R186, R187). -/
def headerReadComplete (header : List Byte) (s : State) : State :=
  if s.readingAfter 0 ∧ header.length = headerLength ∧ s.readTimeOf (4 + headerLength) then
    if headerOk header then s.setStartup { s.startup with image := header } else rejectImage s
  else s

/-- The memory gives no acknowledge to byte `sent` of the four the station sends (R186, R189). DESIGN CHOICE: the read ends at
the end of the acknowledge bit's clock period, where R186 samples the bit at CFG_CLK's rise in it and says "at once" (log
entry 17). -/
def missingAcknowledge (sent : Nat) (s : State) : State :=
  if s.readingAfter 0 ∧ sent < 4 ∧ s.readTimeOf (sent + 1) then rejectImage s else s

/-- The whole image has been read (R187 to R189). -/
def imageReadComplete (rest : List Byte) (s : State) : State :=
  let image := s.startup.image ++ rest
  if s.readingAfter headerLength ∧ image.length = imageLength image ∧ s.readTimeOf (4 + image.length) then
    if imageOk image then
      s.setStartup { s.startup.toStep .checking with image := image, memoryBusy := false }
    else rejectImage s
  else s

/-- The bindings and the library of an accepted image take effect (R113, R117, R189). -/
def loadImage (s : State) : State :=
  let t : State :=
    { s with
      bindings := (List.range 8).map (imageBinding s.startup.image)
      library := imageLibrary s.startup.image
      startup := { s.startup with validity := .accepted } }
  if t.library.rejected = 0 then t else setFault .config t

/-- The end of CHECKING: the load is complete and the station enters JOINING (R184, R189). -/
def loadComplete (s : State) : State :=
  if s.startingAt .checking then
    let t := if s.startup.validity = .rejected then s else loadImage s
    enterJoining (t.setStartup { t.startup.toStep .done with image := [] })
  else s

end Sys2Proof.Machine
end

