-- ==== Sys2Proof/Machine/Sensing.lean ====
section
/-! DEFINITION. The supply monitor, the scanner, the inputs and the key unit (chapters 8 and 9). -/

namespace Sys2Proof.Machine

/-! ### The supply monitor (chapter 9) -/

/-- A run after a sample (R174). -/
def nextRun (inSet : Bool) (n : Nat) : Nat :=
  if inSet then min 4 (n + 1) else 0

/-- The last band and the four runs after a sample (R173, R174). -/
def Supply.sample (reading : Byte) (m : Supply) : Supply :=
  let band := reading.toNat / 32
  { m with
    lastBand := band
    lowRun := nextRun (decide (band ≤ 2)) m.lowRun
    highRun := nextRun (decide (3 ≤ band)) m.highRun
    zeroRun := nextRun (band == 0) m.zeroRun
    recoveryRun := nextRun (decide (2 ≤ band)) m.recoveryRun }

/-- The condition a sample leads to, when it changes it (R175 to R177). -/
def Supply.change (m : Supply) : Option Condition :=
  match m.condition with
  | .normal => if m.zeroRun = 4 then some .cutoff else if m.lowRun = 4 then some .low else none
  | .low => if m.zeroRun = 4 then some .cutoff else if m.highRun = 4 then some .normal else none
  | .cutoff => if m.recoveryRun = 4 then some .low else none

/-- The supply condition replaced, with the supply cap that follows it (R145, R178). -/
def setCondition (c : Condition) (s : State) : State :=
  (s.setSupply { s.supply with condition := c }).setDrive { s.drive with cap := c == .low }

/-- The condition becomes LOW (R175, R178). -/
def becomeLow (s : State) : State :=
  setFault .supplyLow (setCondition .low s)

/-- The condition becomes NORMAL (R175, R178). -/
def becomeNormal (s : State) : State :=
  clearFault .supplyLow (setCondition .normal s)

/-- The condition becomes CUTOFF and the station QUIESCENT (R176, R178). -/
def becomeCutoff (s : State) : State :=
  enterQuiescent (clearFault .supplyLow (setCondition .cutoff s))

/-- The recovery event (R177, R194): the runs go to 0, the condition to LOW, and quiescence ends with a warm start,
or with a cold start when no load has been completed. -/
def recover (s : State) : State :=
  let t := becomeLow
    (s.setSupply { s.supply with lowRun := 0, highRun := 0, zeroRun := 0, recoveryRun := 0 })
  if t.startup.validity = .notLoaded then coldStart .supplyRecovery t else warmStart t

/-- A supply sample taken whole (R174 to R177). -/
def supplySample (reading : Byte) (s : State) : State :=
  let t := s.setSupply (s.supply.sample reading)
  match t.supply.change with
  | none => t
  | some .normal => becomeNormal t
  | some .cutoff => becomeCutoff t
  | some .low => if s.supply.condition = .cutoff then recover t else becomeLow t

/-! ### The scanner (sections 8.2 to 8.4) -/

/-- The band of a reading by the line type (R153). -/
def bandOf (supervised : Bool) (reading : Byte) : Band :=
  let r := reading.toNat
  if supervised then (if r ≤ 19 then .short else if r ≤ 99 then .active else if r ≤ 199 then .normal else .opened)
  else if r ≤ 127 then .active
  else .normal

/-- The time a candidate must persist (section 8.4). -/
def qualificationTime (code : Nat) (b : Band) : Nat :=
  match b with
  | .short | .opened => longQualification
  | .none | .active | .normal => [20000, 100000, 500000, longQualification].getD code longQualification

/-- A sample compared with the candidate band (R154). -/
def Input.sample (b : Band) (x : Input) : Input :=
  if b = x.candidate then x
  else { x with candidate := b, timer := if b = x.qualified then none else some 0 }

/-- A sample of a field line (R152 to R154). -/
def scanSample (i : Nat) (reading : Byte) (s : State) : State :=
  if s.running ∧ (s.binding i).enabled then
    modifyInput i (Input.sample (bandOf (s.binding i).supervised reading)) s
  else s

/-- The reading of a pin at a voltage, in microvolts (R196): the voltage over the 2.50 V reference, times 256, taken down
and held at 255 above full scale. DESIGN CHOICE: whole microvolts, and the reference at its nominal 2.50 V (log entry 17). -/
def readingOf (microvolts : Nat) : Byte :=
  BitVec.ofNat 8 (min 255 (microvolts * 256 / 2500000))

/-- Whether the conversion in progress has reached its completion (R149). -/
def State.conversionDue (s : State) : Bool :=
  s.converter.activity != .idle && decide (conversionTime ≤ s.converter.time)

/-- A reading handed to the requester that still wants it (R149, R151). -/
def handReading (reading : Byte) (a : Conversion) (discard : Bool) (s : State) : State :=
  if discard then s
  else
    match a with
    | .idle => s
    | .scan i => scanSample i reading s
    | .supply => supplySample reading s

/-- A conversion completes (R149 to R151). DESIGN CHOICE: the conversion time of an IDLE converter is 0 (log entry 11). -/
def conversionComplete (reading : Byte) (s : State) : State :=
  if s.conversionDue then
    let t := s.setConverter { s.converter with activity := .idle, time := 0, discard := false, fresh := false }
    let u := handReading reading s.converter.activity s.converter.discard t
    u.setConverter u.converter.grant
  else s

/-- Whether a completion now is a supply sample that leads to the given condition from another (R175 to R177). -/
def State.supplyLeads (reading : Byte) (c : Condition) (s : State) : Bool :=
  s.conversionDue && s.converter.activity == .supply && !s.converter.discard
    && (s.supply.sample reading).change == some c

/-- The scan moves on to the next position and requests its conversion (R152). -/
def scanNext (s : State) : State :=
  match s.scanner.timer with
  | none => s
  | some t =>
    if scanTime ≤ t ∧ s.running then requestScan (s.setScanner ⟨(s.scanner.position + 1) % 8, some 0⟩) else s

/-- The supply monitor's own timer reaches 250 ms and starts again (R171). -/
def supplyOwnTimer (s : State) : State :=
  match s.supply.ownTimer with
  | none => s
  | some t => if ownTimerPeriod ≤ t then requestSupply (s.setSupply { s.supply with ownTimer := some 0 }) else s

/-! ### Qualification and request states (sections 8.4 to 8.6) -/

/-- Whether any input has a line fault (R160). -/
def anyLineFault (inputs : List Input) : Bool :=
  inputs.any Input.lineFault

/-- An input replaced, with LINE_FAULT reported when the first line fault is set and when the last one is cleared
(R160). -/
def setInput (i : Nat) (x : Input) (s : State) : State :=
  let t := modifyInput i (fun _ => x) s
  if anyLineFault t.inputs then (if anyLineFault s.inputs then t else setFault .lineFault t)
  else if anyLineFault s.inputs then clearFault .lineFault t
  else t

/-- The candidate becomes the qualified band, and the line fault follows it (R155, R157 to R159). -/
def Input.qualify (x : Input) : Input :=
  { x with
    qualified := x.candidate
    timer := none
    lineFault := x.candidate == .short || x.candidate == .opened }

/-- A qualification of ACTIVE (R157). -/
def qualifyActive (i : Nat) (x : Input) (s : State) : State :=
  match x.request with
  | .idle => localRaise i (s.binding i).request (setInput i { x.qualify with request := .raised } s)
  | .held => setInput i { x.qualify with request := .raised } s
  | .raised => setInput i x.qualify s

/-- A qualification of NORMAL (R158). -/
def qualifyNormal (i : Nat) (x : Input) (s : State) : State :=
  match x.request with
  | .raised =>
    if (s.binding i).request.latched then setInput i { x.qualify with request := .held } s
    else localWithdraw i (setInput i { x.qualify with request := .idle } s)
  | .idle | .held => setInput i x.qualify s

/-- Whether an input's qualification timer has reached the time of its candidate (R155). -/
def State.qualifies (i : Nat) (s : State) : Bool :=
  s.running && decide (i < 8)
    && match (s.input i).timer with
      | some t => decide (qualificationTime (s.binding i).code (s.input i).candidate ≤ t)
      | none => false

/-- A qualification (R155, R157 to R160). -/
def qualification (i : Nat) (s : State) : State :=
  if s.qualifies i then
    let x := s.input i
    match x.candidate with
    | .active => qualifyActive i x s
    | .normal => qualifyNormal i x s
    | .short | .opened | .none => setInput i x.qualify s
  else s

/-- A POST at a virtual input (R162, R215): the station after it, and whether it was taken. -/
def postRequest (i : Nat) (r : Request) (s : State) : State × Bool :=
  match (s.input i).request with
  | .idle =>
    (localRaise i r (modifyInput i (fun x => { x with request := .raised, posted := some r }) s), true)
  | .raised | .held => (s, (s.input i).posted == some r)

/-- Whether the fields posted for a virtual input are latched (R163). -/
def Input.postedLatched (x : Input) : Bool :=
  match x.posted with
  | some r => r.latched
  | none => false

/-- A WITHDRAW at a virtual input (R163). -/
def withdrawRequest (i : Nat) (s : State) : State :=
  match (s.input i).request with
  | .raised =>
    if (s.input i).postedLatched then modifyInput i (fun x => { x with request := .held }) s
    else localWithdraw i (modifyInput i (fun x => { x with request := .idle, posted := none }) s)
  | .idle | .held => s

/-! ### The key unit (section 8.8) -/

/-- A key of the station. -/
def KeyUnit.line (k : KeyUnit) : Key → KeyLine
  | .ack => k.ack
  | .test => k.test

/-- A key of the station replaced. -/
def KeyUnit.setLine (k : KeyUnit) : Key → KeyLine → KeyUnit
  | .ack, l => { k with ack := l }
  | .test, l => { k with test := l }

/-- A change of a key's raw level (R165): the debounce timer runs from 0 while the level differs from the debounced
level, and stops when it returns. -/
def KeyLine.change (pressed : Bool) (k : KeyLine) : KeyLine :=
  if k.raw = pressed then k else ⟨pressed, k.debounced, if pressed = k.debounced then none else some 0⟩

/-- The raw level of a key changes (R165). -/
def keyLevelChange (key : Key) (pressed : Bool) (s : State) : State :=
  s.setKeys (s.keys.setLine key ((s.keys.line key).change pressed))

/-- An ACK action (R169): a silence is originated, and then a chirp asked for. -/
def ackAction (s : State) : State :=
  requestChirp (originateSilence (setKeyState .idle s))

/-- A TEST action (R169): an output test is asked for, and a chirp when it is taken. -/
def testAction (s : State) : State :=
  let r := requestTest (setKeyState .idle s)
  if r.2 then requestChirp r.1 else r.1

/-- A chord begins (R167). -/
def beginChord (s : State) : State :=
  s.setKeys { s.keys with state := .chord, hold := 0 }

/-- A press or a release at the key unit's state machine (R166 to R168). -/
def keyEvent (key : Key) (pressed : Bool) (s : State) : State :=
  match s.keys.state, key, pressed with
  | .idle, .ack, true => setKeyState .ackDown s
  | .idle, .test, true => setKeyState .testDown s
  | .ackDown, .ack, false => ackAction s
  | .ackDown, .test, true => beginChord s
  | .testDown, .test, false => testAction s
  | .testDown, .ack, true => beginChord s
  | .chord, _, false => setKeyState .spent s
  | .spent, _, false => if s.keys.ack.debounced || s.keys.test.debounced then s else setKeyState .idle s
  | .idle, _, false | .ackDown, .ack, true | .ackDown, .test, false | .testDown, .test, true
  | .testDown, .ack, false | .chord, _, true | .spent, _, true => s

/-- Whether a key's debounce timer has reached 20 ms (R165). -/
def State.debounced (key : Key) (s : State) : Bool :=
  match (s.keys.line key).timer with
  | some t => decide (debounceTime ≤ t)
  | none => false

/-- The debounce timer expires: the debounced level takes the raw level, and the press or release is acted on while
JOINING or MEMBER (R165, R169, R170). -/
def debounceExpiry (key : Key) (s : State) : State :=
  if s.debounced key then
    let raw := (s.keys.line key).raw
    let t := s.setKeys (s.keys.setLine key ⟨raw, raw, none⟩)
    if s.running then keyEvent key raw t else t
  else s

end Sys2Proof.Machine
end

