-- ==== Sys2Proof/Machine/Panel.lean ====
section
/-! DEFINITION. The panel port: transactions, the order of its checks, and the commands it takes (chapter 12). -/

namespace Sys2Proof.Machine

/-! ### Codes used in payloads (section 12.3) -/

/-- The code of a station state. -/
def StationState.code : StationState → Byte
  | .starting => 0#8
  | .joining => 1#8
  | .member => 2#8
  | .quiescent => 3#8

/-- The code of a start cause. -/
def StartCause.code : StartCause → Byte
  | .powerOn => 0#8
  | .resetPin => 1#8
  | .supplyRecovery => 2#8

/-- The code of a lock state. -/
def LockState.code : LockState → Nat
  | .halted => 0
  | .free => 1
  | .settling => 2
  | .locked => 3

/-- The code of a supply condition. -/
def Condition.code : Condition → Byte
  | .normal => 0#8
  | .low => 1#8
  | .cutoff => 2#8

/-- The code of a request state. -/
def RequestState.code : RequestState → Nat
  | .idle => 0
  | .raised => 1
  | .held => 2

/-- The code of a band. -/
def Band.code : Band → Nat
  | .none => 0
  | .short => 1
  | .active => 2
  | .normal => 3
  | .opened => 4

/-- The code of an entry's state. -/
def EntryState.code : EntryState → Nat
  | .active => 0
  | .orphaned => 1
  | .provisional => 2

/-- The code of a roster entry's state. -/
def PeerState.code : PeerState → Nat
  | .unknown => 0
  | .present => 1
  | .late => 2
  | .missing => 3
  | .self => 4

/-! ### Records and payloads (section 12.3) -/

/-- A table entry as READ_TABLE shows it (R212). -/
def Entry.record (e : Entry) : List Byte :=
  [BitVec.ofNat 8 (flagBit e.silenced 7 + flagBit e.latched 6 + e.cue),
   BitVec.ofNat 8 (e.input * 8 + e.priority),
   BitVec.ofNat 8 (e.state.code * 32 + e.origin),
   BitVec.ofNat 8 (e.stampBeat.toNat * 16 + e.miss),
   e.stampBar]

/-- A roster entry's record from its state, its miss count, its last-heard stamp and the reported values. -/
def rosterRecord (state : PeerState) (miss : Nat) (heard : Option Stamp) (anyFault supplyLow : Bool) (lock : Nat)
    (faultByte : Byte) : List Byte :=
  let stamp := heard.getD (0#8, 0#4)
  [BitVec.ofNat 8
      (flagBit heard.isSome 7 + flagBit anyFault 6 + flagBit supplyLow 5 + miss * 8 + state.code),
   BitVec.ofNat 8 (stamp.2.toNat * 16 + lock),
   stamp.1,
   faultByte]

/-- A roster entry as READ_ROSTER shows it; the SELF entry shows the station's own values (R99, R213). -/
def RosterEntry.record (s : State) (e : RosterEntry) : List Byte :=
  if e.state = .self then
    rosterRecord .self 0 e.lastHeard s.anyFault s.supplyLowFlag (4 + s.beat.lock.code) s.faults
  else
    rosterRecord e.state e.miss e.lastHeard e.anyFault e.supplyLow (if e.heardLocked then 1 else 0) e.faultByte

/-- An input as READ_INPUTS shows it (R214). -/
def Input.record (x : Input) : List Byte :=
  [BitVec.ofNat 8 (x.qualified.code * 16 + x.candidate.code),
   BitVec.ofNat 8 (flagBit x.lineFault 2 + x.request.code)]

/-- The seven counters in READ_COUNTERS order. -/
def Counters.payload (c : Counters) : List Byte :=
  [c.rxErr, c.misplaced, c.arbLoss, c.txqDiscard, c.txExpired, c.stray, c.tableOvf].map (BitVec.ofNat 8)

/-- The summary (R211). -/
def State.summary (s : State) : List Byte :=
  [s.startup.station.code, s.startup.cause.code, BitVec.ofNat 8 s.startup.ownAddr,
   BitVec.ofNat 8 s.beat.lock.code, s.beat.barCount, s.beat.beatIndex.setWidth 8,
   BitVec.ofNat 8 s.supply.lastBand, s.supply.condition.code,
   BitVec.ofNat 8 ((s.table.head?.map Entry.cue).getD 0), BitVec.ofNat 8 ((s.table.head?.map Entry.priority).getD 0),
   BitVec.ofNat 8 s.table.length, s.faults, BitVec.ofNat 8 s.library.rejected]

/-- The table snapshot (R212). -/
def State.tablePayload (s : State) : List Byte :=
  BitVec.ofNat 8 s.table.length :: s.table.flatMap Entry.record

/-- One half of the roster (R213). -/
def State.rosterPayload (half : Nat) (s : State) : List Byte :=
  BitVec.ofNat 8 (16 * half) :: ((s.roster.drop (16 * half)).take 16).flatMap (RosterEntry.record s)

/-- The twelve inputs (R214). -/
def State.inputsPayload (s : State) : List Byte :=
  s.inputs.flatMap Input.record

/-- The payload of NOT_READY (R209). -/
def State.notReadyPayload (s : State) : List Byte :=
  [s.startup.station.code, s.startup.cause.code]

/-- The request state of an input as POST and WITHDRAW return it (R215). -/
def State.requestPayload (i : Nat) (s : State) : List Byte :=
  [BitVec.ofNat 8 (s.input i).request.code]

/-! ### Transactions (R206) -/

/-- PCS falls: the buffer is empty, the output position 0, and the first bit of the held response on PSO (R206). -/
def transactionOpen (s : State) : State :=
  if s.port.opened then s
  else
    s.setPort { s.port with
      opened := true, dropped := false, buffer := [], bitCount := 0, shift := 0#8, outPos := 0
      pso := (byteAt s.port.held 0).msb }

/-- The bit that a transaction presents next: 0 once the held response has run out, and for a transaction that a
start cut off (R206, R221). -/
def Port.nextBit (p : Port) : Bool :=
  !p.dropped && (byteAt p.held p.outPos).getMsbD p.bitCount

/-- PSCK rises: PSI is sampled, most significant bit first; the eighth bit of a byte stores it, up to 93 bytes, and
advances the output position (R206). -/
def Port.rise (psi : Bool) (p : Port) : Port :=
  let shift := (p.shift <<< 1) ||| (if psi then 1#8 else 0#8)
  if 8 ≤ p.bitCount + 1 then
    { p with
      shift := 0#8, bitCount := 0, outPos := p.outPos + 1
      buffer := if p.buffer.length < 93 then p.buffer ++ [shift] else p.buffer }
  else { p with shift := shift, bitCount := p.bitCount + 1 }

/-- A rise of PSCK while a transaction is open (R206). -/
def psckRise (psi : Bool) (s : State) : State :=
  if s.port.opened then s.setPort (s.port.rise psi) else s

/-- A fall of PSCK while a transaction is open (R206). -/
def psckFall (s : State) : State :=
  if s.port.opened then s.setPort { s.port with pso := s.port.nextBit } else s

/-- What the open transaction carries if it closes now; one that a start cut off is not taken (R221). -/
def State.carries (s : State) : Carried :=
  if s.port.dropped then .nothing else carried s.port.buffer

/-- PCS rises: the held response is replaced, and an incomplete byte is lost (R206, R207). -/
def closeWith (response : List Byte) (s : State) : State :=
  s.setPort { s.port with
    opened := false, dropped := false, buffer := [], bitCount := 0, shift := 0#8, outPos := 0, pso := false
    held := response }

/-- A close that carries no command (R207). -/
def closeNothing (s : State) : State :=
  if s.port.opened ∧ s.carries = .nothing then closeWith noResponse s else s

/-- A close whose frame fails its check (R208). -/
def closeBad (s : State) : State :=
  if s.port.opened ∧ s.carries = .bad then
    closeWith (responseFrame .badCheck (byteAt s.port.buffer 0) []) s
  else s

/-- A close whose code names no command (R208). -/
def closeUnknown (s : State) : State :=
  if s.port.opened ∧ s.carries = .unknown then
    closeWith (responseFrame .unknownCommand (byteAt s.port.buffer 0) []) s
  else s

/-- What taking a command leaves: the station, the status and the payload of the response. -/
structure Taken where
  state : State
  status : PanelStatus
  payload : List Byte
  deriving DecidableEq, Repr

/-- A command refused with no effect (R208). -/
def turnAway (status : PanelStatus) (s : State) : Taken :=
  ⟨s, status, []⟩

/-- The payload length of a command (section 12.3). -/
def PanelCommand.payloadLength : PanelCommand → Nat
  | .readRoster | .withdraw => 1
  | .post => 4
  | .readSummary | .readTable | .readInputs | .readCounters | .silence | .restore | .clearCounters | .test => 0

/-- The checks of R208 after the code is known: NOT_READY, then the payload length; then the command acts. -/
def takeCommand (c : PanelCommand) (act : List Byte → State → Taken) (payload : List Byte) (s : State) : Taken :=
  if s.running then
    if payload.length = c.payloadLength then act payload s else turnAway .badArgument s
  else ⟨s, .notReady, s.notReadyPayload⟩

/-- A close that carries the given command (R207, R208, R210): the command is taken, and its response held. -/
def closeCommand (c : PanelCommand) (act : List Byte → State → Taken) (s : State) : State :=
  match s.carries with
  | .command d payload =>
    if s.port.opened ∧ d = c then
      let t := takeCommand c act payload s
      closeWith (responseFrame t.status c.code t.payload) t.state
    else s
  | .nothing | .bad | .unknown => s

/-! ### The commands (R211 to R218) -/

/-- READ_SUMMARY: the snapshot, and the ATTN latch cleared (R211). -/
def actReadSummary (_payload : List Byte) (s : State) : Taken :=
  ⟨s.setPort { s.port with attn := false }, .ok, s.summary⟩

/-- READ_TABLE (R212). -/
def actReadTable (_payload : List Byte) (s : State) : Taken :=
  ⟨s, .ok, s.tablePayload⟩

/-- READ_ROSTER (R213). -/
def actReadRoster (payload : List Byte) (s : State) : Taken :=
  let half := (byteAt payload 0).toNat
  if half ≤ 1 then ⟨s, .ok, s.rosterPayload half⟩ else turnAway .badArgument s

/-- READ_INPUTS (R214). -/
def actReadInputs (_payload : List Byte) (s : State) : Taken :=
  ⟨s, .ok, s.inputsPayload⟩

/-- READ_COUNTERS (R214). -/
def actReadCounters (_payload : List Byte) (s : State) : Taken :=
  ⟨s, .ok, s.counters.payload⟩

/-- Whether a byte names a virtual input (R162). -/
def virtualInput (i : Nat) : Bool :=
  decide (8 ≤ i) && decide (i ≤ 11)

/-- The fields a POST carries (section 12.3). -/
def postFields (payload : List Byte) : Request :=
  ⟨(byteAt payload 1).toNat, (byteAt payload 2).toNat, byteAt payload 3 == 1#8⟩

/-- The ranges of a POST's payload (R215). -/
def postInRange (payload : List Byte) : Bool :=
  virtualInput (byteAt payload 0).toNat
    && decide (1 ≤ (byteAt payload 1).toNat) && decide ((byteAt payload 1).toNat ≤ 63)
    && decide (1 ≤ (byteAt payload 2).toNat) && decide ((byteAt payload 2).toNat ≤ 7)
    && decide ((byteAt payload 3).toNat ≤ 1)

/-- POST (R162, R215). -/
def actPost (payload : List Byte) (s : State) : Taken :=
  if postInRange payload then
    let i := (byteAt payload 0).toNat
    let r := postRequest i (postFields payload) s
    if r.2 then ⟨r.1, .ok, r.1.requestPayload i⟩ else turnAway .inputBusy s
  else turnAway .badArgument s

/-- WITHDRAW (R163, R215). -/
def actWithdraw (payload : List Byte) (s : State) : Taken :=
  let i := (byteAt payload 0).toNat
  if virtualInput i then
    let t := withdrawRequest i s
    ⟨t, .ok, t.requestPayload i⟩
  else turnAway .badArgument s

/-- SILENCE (R216). -/
def actSilence (_payload : List Byte) (s : State) : Taken :=
  ⟨originateSilence s, .ok, []⟩

/-- RESTORE (R216). -/
def actRestore (_payload : List Byte) (s : State) : Taken :=
  ⟨originateRestore s, .ok, []⟩

/-- TEST (R130, R217). -/
def actTest (_payload : List Byte) (s : State) : Taken :=
  let r := requestTest s
  if r.2 then ⟨r.1, .ok, []⟩ else turnAway .refused s

/-- CLEAR_COUNTERS (R218). -/
def actClearCounters (_payload : List Byte) (s : State) : Taken :=
  ⟨s.setCounters Counters.zero, .ok, s.counters.payload⟩

end Sys2Proof.Machine
end

