-- ==== Sys2Proof/Machine/PanelRows.lean ====
section
/-! DEFINITION. The commands of the panel port (chapter 12). A panel command is the close of a transaction that carries it. -/

namespace Sys2Proof.Machine

/-- TRANSACTION_OPEN (R206). -/
def execTransactionOpen (after : Nat) (s : State) : Host.Outcome State Fault Refusal :=
  .next (transactionOpen (s.elapse after))

/-- NO_COMMAND (R207). -/
def execNoCommand (after : Nat) (s : State) : Host.Outcome State Fault Refusal :=
  .next (closeNothing (s.elapse after))

/-- UNKNOWN_COMMAND (R208). -/
def execUnknownCommand (after : Nat) (s : State) : Host.Outcome State Fault Refusal :=
  .next (closeUnknown (s.elapse after))

/-- READ_SUMMARY (R211). -/
def execReadSummary (after : Nat) (s : State) : Host.Outcome State Fault Refusal :=
  .next (closeCommand .readSummary actReadSummary (s.elapse after))

/-- READ_TABLE (R212). -/
def execReadTable (after : Nat) (s : State) : Host.Outcome State Fault Refusal :=
  .next (closeCommand .readTable actReadTable (s.elapse after))

/-- READ_ROSTER (R213). -/
def execReadRoster (after : Nat) (s : State) : Host.Outcome State Fault Refusal :=
  .next (closeCommand .readRoster actReadRoster (s.elapse after))

/-- READ_INPUTS (R214). -/
def execReadInputs (after : Nat) (s : State) : Host.Outcome State Fault Refusal :=
  .next (closeCommand .readInputs actReadInputs (s.elapse after))

/-- READ_COUNTERS (R214). -/
def execReadCounters (after : Nat) (s : State) : Host.Outcome State Fault Refusal :=
  .next (closeCommand .readCounters actReadCounters (s.elapse after))

/-- POST (R215). -/
def execPost (after : Nat) (s : State) : Host.Outcome State Fault Refusal :=
  .next (closeCommand .post actPost (s.elapse after))

/-- WITHDRAW (R163, R215). -/
def execWithdraw (after : Nat) (s : State) : Host.Outcome State Fault Refusal :=
  .next (closeCommand .withdraw actWithdraw (s.elapse after))

/-- SILENCE (R216). -/
def execSilence (after : Nat) (s : State) : Host.Outcome State Fault Refusal :=
  .next (closeCommand .silence actSilence (s.elapse after))

/-- RESTORE (R216). -/
def execRestore (after : Nat) (s : State) : Host.Outcome State Fault Refusal :=
  .next (closeCommand .restore actRestore (s.elapse after))

/-- TEST (R217). -/
def execTest (after : Nat) (s : State) : Host.Outcome State Fault Refusal :=
  .next (closeCommand .test actTest (s.elapse after))

/-- CLEAR_COUNTERS (R218). -/
def execClearCounters (after : Nat) (s : State) : Host.Outcome State Fault Refusal :=
  .next (closeCommand .clearCounters actClearCounters (s.elapse after))

/-- BAD_CHECK (R208). -/
def execBadCheck (after : Nat) (s : State) : Host.Outcome State Fault Refusal :=
  .next (closeBad (s.elapse after))

/-- PSCK_RISE (R206). -/
def execPsckRise (after : Nat) (psi : Bool) (s : State) : Host.Outcome State Fault Refusal :=
  .next (psckRise psi (s.elapse after))

/-- PSCK_FALL (R206). -/
def execPsckFall (after : Nat) (s : State) : Host.Outcome State Fault Refusal :=
  .next (psckFall (s.elapse after))

end Sys2Proof.Machine
end

