-- ==== Sys2Proof/Machine/SensingRows.lean ====
section
/-! DEFINITION. The commands of the converter, the scanner, the supply monitor, the keys and the drives (chapters 7, 8 and 9). -/

namespace Sys2Proof.Machine

/-- The chirp timer reaches 31.25 ms (R143). -/
def chirpEnd (s : State) : State :=
  match s.drive.chirpTimer with
  | some t => if eighthTime ≤ t then s.setDrive s.drive.chirpEnd else s
  | none => s

/-- A period of an output starts (R135, R139, R145). -/
def periodStart (o : Output) (s : State) : State :=
  s.setDrive (s.drive.periodStart o)

/-- Whether a completion now makes a supply that was NORMAL LOW (R175). -/
def State.lowersNow (reading : Byte) (s : State) : Bool :=
  s.supply.condition == .normal && s.supplyLeads reading .low

/-- Whether a completion now is the recovery event (R177). -/
def State.recoversNow (reading : Byte) (s : State) : Bool :=
  s.supply.condition == .cutoff && s.supplyLeads reading .low

/-- SCAN_REQUEST (R152). -/
def execScanRequest (after : Nat) (s : State) : Host.Outcome State Fault Refusal :=
  .next (scanNext (s.elapse after))

/-- SUPPLY_OWN_TIMER (R171). -/
def execSupplyOwnTimer (after : Nat) (s : State) : Host.Outcome State Fault Refusal :=
  .next (supplyOwnTimer (s.elapse after))

/-- CONVERSION_COMPLETE (R149 to R151): the channel's pin stands at the given voltage as the conversion completes. -/
def execConversionComplete (after : Nat) (microvolts : Nat) (s : State) : Host.Outcome State Fault Refusal :=
  .next (conversionComplete (readingOf microvolts) (s.elapse after))

/-- QUALIFICATION (R155, R157 to R160). -/
def execQualification (after : Nat) (input : Nat) (s : State) : Host.Outcome State Fault Refusal :=
  .next (qualification input (s.elapse after))

/-- LOW_CONDITION (R175): the completion that takes a NORMAL supply to LOW. -/
def execLowCondition (after : Nat) (microvolts : Nat) (s : State) : Host.Outcome State Fault Refusal :=
  .next
    (let t := s.elapse after
     let reading := readingOf microvolts
     if t.lowersNow reading then conversionComplete reading t else t)

/-- NORMAL_CONDITION (R175): the completion that takes a LOW supply to NORMAL. -/
def execNormalCondition (after : Nat) (microvolts : Nat) (s : State) : Host.Outcome State Fault Refusal :=
  .next
    (let t := s.elapse after
     let reading := readingOf microvolts
     if t.supplyLeads reading .normal then conversionComplete reading t else t)

/-- CUTOFF (R176): the completion that brings CUTOFF. -/
def execCutoff (after : Nat) (microvolts : Nat) (s : State) : Host.Outcome State Fault Refusal :=
  .next
    (let t := s.elapse after
     let reading := readingOf microvolts
     if t.supplyLeads reading .cutoff then conversionComplete reading t else t)

/-- RECOVERY_EVENT (R177): the completion that ends CUTOFF. -/
def execRecoveryEvent (after : Nat) (microvolts : Nat) (s : State) : Host.Outcome State Fault Refusal :=
  .next
    (let t := s.elapse after
     let reading := readingOf microvolts
     if t.recoversNow reading then conversionComplete reading t else t)

/-- KEY_LEVEL_CHANGE (R165). -/
def execKeyLevelChange (after : Nat) (key : Key) (pressed : Bool) (s : State) : Host.Outcome State Fault Refusal :=
  .next (keyLevelChange key pressed (s.elapse after))

/-- DEBOUNCE_EXPIRY (R165 to R169). -/
def execDebounceExpiry (after : Nat) (key : Key) (s : State) : Host.Outcome State Fault Refusal :=
  .next (debounceExpiry key (s.elapse after))

/-- CHIRP_END (R143). -/
def execChirpEnd (after : Nat) (s : State) : Host.Outcome State Fault Refusal :=
  .next (chirpEnd (s.elapse after))

/-- PERIOD_START (R135, R139, R145). -/
def execPeriodStart (after : Nat) (output : Output) (s : State) : Host.Outcome State Fault Refusal :=
  .next (periodStart output (s.elapse after))

end Sys2Proof.Machine
end

