-- ==== Sys2Proof/Machine/StartRows.lean ====
section
/-! DEFINITION. The commands of chapter 10: resets and the loading of the image. -/

namespace Sys2Proof.Machine

/-- A fall of RST, which begins the timing of its hold (R183). -/
def rstFall (s : State) : State :=
  match s.pins.rst with
  | .high => s.setPins { s.pins with rst := .timing 0 }
  | .timing _ | .held => s

/-- POWER_ON (R183). -/
def execPowerOn (after : Nat) (rstLow : Bool) (s : State) : Host.Outcome State Fault Refusal :=
  .next (powerOn rstLow (s.elapse after))

/-- RST_FALL (R183). -/
def execRstFall (after : Nat) (s : State) : Host.Outcome State Fault Refusal :=
  .next (rstFall (s.elapse after))

/-- RESET_PIN (R183). -/
def execResetPin (after : Nat) (s : State) : Host.Outcome State Fault Refusal :=
  .next (resetPin (s.elapse after))

/-- RST_RISE (R183). -/
def execRstRise (after : Nat) (s : State) : Host.Outcome State Fault Refusal :=
  .next (rstRise (s.elapse after))

/-- SETTLING_WAIT_END (R184, R185). -/
def execSettlingWaitEnd (after : Nat) (straps : BitVec 5) (s : State) : Host.Outcome State Fault Refusal :=
  .next (settlingWaitEnd straps (s.elapse after))

/-- HEADER_READ_COMPLETE (R186, R187). -/
def execHeaderReadComplete (after : Nat) (header : List Byte) (s : State) : Host.Outcome State Fault Refusal :=
  .next (headerReadComplete header (s.elapse after))

/-- MISSING_ACKNOWLEDGE (R186, R189). -/
def execMissingAcknowledge (after : Nat) (sent : Nat) (s : State) : Host.Outcome State Fault Refusal :=
  .next (missingAcknowledge sent (s.elapse after))

/-- IMAGE_READ_COMPLETE (R187 to R189). -/
def execImageReadComplete (after : Nat) (rest : List Byte) (s : State) : Host.Outcome State Fault Refusal :=
  .next (imageReadComplete rest (s.elapse after))

/-- LOAD_COMPLETE (R184, R189, R190). -/
def execLoadComplete (after : Nat) (s : State) : Host.Outcome State Fault Refusal :=
  .next (loadComplete (s.elapse after))

end Sys2Proof.Machine
end

