-- ==== Sys2Proof/Machine/Dispatch.lean ====
section
/-! DEFINITION. The effect of each command on everything but the queue of waiting commands. -/

namespace Sys2Proof.Machine

def exec (i : Instr) (s : State) : Host.Outcome State Fault Refusal :=
  match i with
  | .powerOn after rstLow => Sys2Proof.Machine.execPowerOn after rstLow s
  | .rstFall after => Sys2Proof.Machine.execRstFall after s
  | .resetPin after => Sys2Proof.Machine.execResetPin after s
  | .rstRise after => Sys2Proof.Machine.execRstRise after s
  | .settlingWaitEnd after straps => Sys2Proof.Machine.execSettlingWaitEnd after straps s
  | .headerReadComplete after header => Sys2Proof.Machine.execHeaderReadComplete after header s
  | .missingAcknowledge after sent => Sys2Proof.Machine.execMissingAcknowledge after sent s
  | .imageReadComplete after rest => Sys2Proof.Machine.execImageReadComplete after rest s
  | .loadComplete after => Sys2Proof.Machine.execLoadComplete after s
  | .beatFall after => Sys2Proof.Machine.execBeatFall after s
  | .thirdStray after => Sys2Proof.Machine.execThirdStray after s
  | .beatTimerExpiry after => Sys2Proof.Machine.execBeatTimerExpiry after s
  | .enterLocked after cause => Sys2Proof.Machine.execEnterLocked after cause s
  | .markRelease after => Sys2Proof.Machine.execMarkRelease after s
  | .barMark after => Sys2Proof.Machine.execBarMark after s
  | .beatRise after => Sys2Proof.Machine.execBeatRise after s
  | .beatStuck after => Sys2Proof.Machine.execBeatStuck after s
  | .eighthMark after => Sys2Proof.Machine.execEighthMark after s
  | .introEnd after cause => Sys2Proof.Machine.execIntroEnd after cause s
  | .testEnd after cause => Sys2Proof.Machine.execTestEnd after cause s
  | .messageExpiry after cause => Sys2Proof.Machine.execMessageExpiry after cause s
  | .slotBegin after => Sys2Proof.Machine.execSlotBegin after s
  | .openSlotAttempt after => Sys2Proof.Machine.execOpenSlotAttempt after s
  | .slotEnd after => Sys2Proof.Machine.execSlotEnd after s
  | .frameStart after => Sys2Proof.Machine.execFrameStart after s
  | .raiseFrame after => Sys2Proof.Machine.execRaiseFrame after s
  | .clearFrame after => Sys2Proof.Machine.execClearFrame after s
  | .statusFrame after => Sys2Proof.Machine.execStatusFrame after s
  | .silenceFrame after => Sys2Proof.Machine.execSilenceFrame after s
  | .restoreFrame after => Sys2Proof.Machine.execRestoreFrame after s
  | .gapTimeout after => Sys2Proof.Machine.execGapTimeout after s
  | .readBackMismatch after => Sys2Proof.Machine.execReadBackMismatch after s
  | .frameComplete after => Sys2Proof.Machine.execFrameComplete after s
  | .dataStuck after => Sys2Proof.Machine.execDataStuck after s
  | .scanRequest after => Sys2Proof.Machine.execScanRequest after s
  | .supplyOwnTimer after => Sys2Proof.Machine.execSupplyOwnTimer after s
  | .conversionComplete after microvolts => Sys2Proof.Machine.execConversionComplete after microvolts s
  | .qualification after input => Sys2Proof.Machine.execQualification after input s
  | .lowCondition after microvolts => Sys2Proof.Machine.execLowCondition after microvolts s
  | .normalCondition after microvolts => Sys2Proof.Machine.execNormalCondition after microvolts s
  | .cutoff after microvolts => Sys2Proof.Machine.execCutoff after microvolts s
  | .recoveryEvent after microvolts => Sys2Proof.Machine.execRecoveryEvent after microvolts s
  | .membership after cause => Sys2Proof.Machine.execMembership after cause s
  | .keyLevelChange after key pressed => Sys2Proof.Machine.execKeyLevelChange after key pressed s
  | .debounceExpiry after key => Sys2Proof.Machine.execDebounceExpiry after key s
  | .restoreAction after cause => Sys2Proof.Machine.execRestoreAction after cause s
  | .chirpEnd after => Sys2Proof.Machine.execChirpEnd after s
  | .transactionOpen after => Sys2Proof.Machine.execTransactionOpen after s
  | .noCommand after => Sys2Proof.Machine.execNoCommand after s
  | .unknownCommand after => Sys2Proof.Machine.execUnknownCommand after s
  | .readSummary after => Sys2Proof.Machine.execReadSummary after s
  | .readTable after => Sys2Proof.Machine.execReadTable after s
  | .readRoster after => Sys2Proof.Machine.execReadRoster after s
  | .readInputs after => Sys2Proof.Machine.execReadInputs after s
  | .readCounters after => Sys2Proof.Machine.execReadCounters after s
  | .post after => Sys2Proof.Machine.execPost after s
  | .withdraw after => Sys2Proof.Machine.execWithdraw after s
  | .silence after => Sys2Proof.Machine.execSilence after s
  | .restore after => Sys2Proof.Machine.execRestore after s
  | .test after => Sys2Proof.Machine.execTest after s
  | .clearCounters after => Sys2Proof.Machine.execClearCounters after s
  | .dataFall after => Sys2Proof.Machine.execDataFall after s
  | .dataRise after => Sys2Proof.Machine.execDataRise after s
  | .bitSample after => Sys2Proof.Machine.execBitSample after s
  | .bitTimeEnd after => Sys2Proof.Machine.execBitTimeEnd after s
  | .badCheck after => Sys2Proof.Machine.execBadCheck after s
  | .psckRise after psi => Sys2Proof.Machine.execPsckRise after psi s
  | .psckFall after => Sys2Proof.Machine.execPsckFall after s
  | .periodStart after output => Sys2Proof.Machine.execPeriodStart after output s

end Sys2Proof.Machine
end

