-- ==== Sys2Proof/Machine/Serial.lean ====
section
/-! DEFINITION. The two lines of the configuration memory (R186): what the station sends on CFG_CLK and CFG_DAT, as
functions of the state. -/

namespace Sys2Proof.Machine

/-! ### Conditions -/

/-- The levels of CFG_CLK and CFG_DAT; true is high, which on CFG_DAT is released. -/
structure MemoryLines where
  clk : Bool
  dat : Bool
  deriving DecidableEq, Repr

/-- A start condition: CFG_DAT falls while CFG_CLK is high (R186). -/
def MemoryLines.isStart (a b : MemoryLines) : Bool :=
  a.clk && b.clk && a.dat && !b.dat

/-- A stop condition: CFG_DAT rises while CFG_CLK is high (R186). -/
def MemoryLines.isStop (a b : MemoryLines) : Bool :=
  a.clk && b.clk && !a.dat && b.dat

/-- The conditions the station gives: a repeated start is a start with no stop before it (R186). -/
inductive MemoryCondition where
  | start
  | repeatedStart
  | stop
  deriving DecidableEq, Repr

/-- The levels through which the station takes its lines to give a condition. A start leaves the released lines and a
repeated start the end of a byte; both end with CFG_CLK low, where data may change. A stop ends with both lines
released. -/
def MemoryCondition.levels : MemoryCondition → List MemoryLines
  | .start => [⟨true, true⟩, ⟨true, false⟩, ⟨false, false⟩]
  | .repeatedStart => [⟨false, true⟩, ⟨true, true⟩, ⟨true, false⟩, ⟨false, false⟩]
  | .stop => [⟨false, false⟩, ⟨true, false⟩, ⟨true, true⟩]

/-! ### A read, from its start to its stop -/

/-- A byte on the memory's lines: one the station sends, or byte `index` of the image. -/
inductive MemoryByte where
  | sent (b : Byte)
  | read (index : Nat)
  deriving DecidableEq, Repr

/-- What passes on the memory's lines. -/
inductive MemoryEvent where
  | condition (c : MemoryCondition)
  | byte (b : MemoryByte)
  deriving DecidableEq, Repr

/-- The four bytes the station sends: the select byte for writing, two offset bytes, the select byte for reading. -/
def sentBytes : List Byte :=
  [0xA0#8, 0x00#8, 0x00#8, 0xA1#8]

/-- The number of bytes before which the repeated start is given. -/
def offsetSent : Nat := 3

/-- The first `n` of the bytes the station sends, with the conditions it gives before them (R186). -/
def openingOf (n : Nat) : List MemoryEvent :=
  let bytes (l : List Byte) : List MemoryEvent := l.map fun b => .byte (.sent b)
  [.condition .start] ++ bytes ((sentBytes.take n).take offsetSent)
    ++ (if offsetSent < n then [.condition .repeatedStart] else []) ++ bytes ((sentBytes.take n).drop offsetSent)

/-- A read of `n` bytes of the image, whole: the station ends it with a stop (R186). -/
def readTraffic (n : Nat) : List MemoryEvent :=
  openingOf sentBytes.length ++ (List.range n).map (fun i => .byte (.read i)) ++ [.condition .stop]

/-- A read that ends at the sent byte `sent` because the memory gives it no acknowledge (R186). -/
def unacknowledgedTraffic (sent : Nat) : List MemoryEvent :=
  openingOf (sent + 1) ++ [.condition .stop]

/-! ### The lines now -/

/-- Whether the station is reading: otherwise both lines are released (R186). -/
def State.memoryReading (s : State) : Bool :=
  s.startup.station == .starting && s.startup.step == .reading && s.startup.memoryBusy

/-- The byte now on the lines, 90 µs to a byte; none while the lines are released. -/
def State.memoryByte (s : State) : Option MemoryByte :=
  if s.memoryReading then
    let n := s.startup.stepTimer / memoryByteTime
    some (if n < sentBytes.length then .sent (sentBytes.getD n 0#8) else .read (n - sentBytes.length))
  else none

/-- The condition the station gives at this moment, if it gives one: the start as the read begins, the repeated start
after the offset bytes, and the stop as the read ends, be it at the last byte, at a header that fails its checks or at
a missing acknowledge. A read that is broken off has no stop: its lines are only released (R186). -/
def State.memoryCondition (s : State) : Option MemoryCondition :=
  if s.memoryReading then
    if s.startup.stepTimer = 0 then some .start
    else if s.startup.stepTimer = memoryByteTime * offsetSent then some .repeatedStart
    else none
  else if s.startup.station = .starting ∧ s.startup.step = .checking ∧ s.startup.stepTimer = 0 then some .stop
  else none

/-- When in its clock period CFG_CLK rises. R186 gives the period and not the moment: it is free within the period. -/
def memoryClockRise : Nat :=
  1 + Config.memoryClockRise.val

/-- The level of CFG_CLK (R186): each clock period begins with the line low and ends with it high. DESIGN CHOICE: while
the lines are released it is high; R186 says that the line is released and R196 that it is push-pull, and neither gives
its level then (log entry 17). -/
def State.cfgClk (s : State) : Bool :=
  !s.memoryReading || decide (memoryClockRise ≤ s.startup.stepTimer % memoryBitTime)

/-- Whether a bit on CFG_DAT is sampled now: at the rise of CFG_CLK in its clock period (R186). -/
def State.memorySample (s : State) : Bool :=
  s.memoryReading && s.startup.stepTimer % memoryBitTime == memoryClockRise

/-- The clock period of the byte on the memory's lines: eight data bits and the acknowledge bit, 10 µs each (R186). -/
def State.memoryPeriod (s : State) : Nat :=
  s.startup.stepTimer % memoryByteTime / memoryBitTime

/-- What the station does with CFG_DAT in a clock period (R186): it pulls the line low or leaves it released. -/
inductive MemoryData where
  | low
  | released
  deriving DecidableEq, Repr

/-- The acknowledge of the last header byte: given when the header passes its checks and the read goes on, and not given
when it fails them, for the byte is then the last one read (R186, R187). -/
def headerAcknowledge (header : List Byte) : MemoryData :=
  if headerOk header then .low else .released

/-- What the station does with CFG_DAT now (R186): it sends its own bytes most significant bit first and leaves
their acknowledge bits to the memory, and it acknowledges every byte it reads but the last. `header` is the seven bytes
that the memory puts on the line first; the station acts on them in the last one's acknowledge bit, and HEADER_READ_COMPLETE
brings them at that bit's end. -/
def State.memoryData (header : List Byte) (s : State) : Option MemoryData :=
  s.memoryByte.map fun
    | .sent b => if s.memoryPeriod < 8 ∧ b.getMsbD s.memoryPeriod = false then .low else .released
    | .read i =>
      if s.memoryPeriod < 8 then .released
      else if s.startup.image.isEmpty then (if i + 1 < headerLength then .low else headerAcknowledge header)
      else if i + 1 < imageLength s.startup.image then .low
      else .released

end Sys2Proof.Machine
end

