-- ==== Sys2Proof/Safety.lean ====
section
/-! DEFINITION. The conditions that hold in every state of a run, by the manual's chapter, each stated of a state alone: the
statements say that a step keeps them. With them stand the words that the statements share: when an event comes about,
what a claim hands on, and what an image says. -/

namespace Sys2Proof.Machine

/-- Every counter lies in 0 to 255 (R220). -/
def Counters.Ok (c : Counters) : Prop :=
  c.rxErr ≤ 255 ∧ c.misplaced ≤ 255 ∧ c.arbLoss ≤ 255 ∧ c.txqDiscard ≤ 255 ∧ c.txExpired ≤ 255 ∧ c.stray ≤ 255
    ∧ c.tableOvf ≤ 255

/-- Two entries do not share a key (R26). -/
def Entry.otherKey (a b : Entry) : Prop :=
  ¬ (a.origin = b.origin ∧ a.input = b.input)

/-- The table holds at most sixteen entries (R30), one to a key (R26), in strict rank order (R27). -/
def TableOk (table : List Entry) : Prop :=
  table.length ≤ tableCapacity ∧ table.Pairwise fun a b => a.before b = true ∧ a.otherKey b

/-- A request has fields in range (section 2.1). -/
def Request.Ok (r : Request) : Prop :=
  1 ≤ r.cue ∧ r.cue ≤ 63 ∧ 1 ≤ r.priority ∧ r.priority ≤ 7

/-- An entry has fields in range (section 2.1). -/
def Entry.Ok (e : Entry) : Prop :=
  1 ≤ e.cue ∧ e.cue ≤ 63 ∧ 1 ≤ e.priority ∧ e.priority ≤ 7 ∧ e.origin ≤ 31 ∧ e.input ≤ 11 ∧ e.miss ≤ 2

/-- A message has fields in range. -/
def News.Ok : News → Prop
  | .raise i r => i ≤ 11 ∧ r.Ok
  | .clear i r => i ≤ 11 ∧ r.Ok
  | .silence => True
  | .restore => True

/-- Two queued messages stand in line order, and are not a RAISE and a CLEAR of one input, two SILENCE or two
RESTORE messages (R78, R80 to R82). -/
def Message.mayPrecede (a b : Message) : Prop :=
  a.news.lead ≤ b.news.lead
    ∧ (∀ i, ¬ (a.news.isRaiseOf i = true ∧ b.news.isClearOf i = true))
    ∧ (a.news = .silence → b.news ≠ .silence) ∧ (a.news = .restore → b.news ≠ .restore)

/-- The queue holds at most six messages (R78), in line order, none as old as its expiry (R85). -/
def TxQueue.Ok (q : TxQueue) : Prop :=
  q.messages.length ≤ queueCapacity ∧ q.messages.Pairwise Message.mayPrecede ∧ ∀ m ∈ q.messages, m.age < expiryAge

/-- Station state, lock state and supply condition agree: the beat unit is HALTED exactly while the station is
STARTING or QUIESCENT (R7), a MEMBER is LOCKED (R191, R192), and QUIESCENT is CUTOFF (R176, R177). -/
def State.ModesOk (s : State) : Prop :=
  (s.beat.lock = .halted ↔ s.running = false)
    ∧ (s.startup.station = .member → s.beat.lock = .locked)
    ∧ (s.startup.station = .quiescent ↔ s.supply.condition = .cutoff)

/-- A frame being sent is a MEMBER's, and a completed one has only its last stop bit left (R74, R76, R87, R92). -/
def State.TxOk (s : State) : Prop :=
  ∀ r, s.loop.tx = some r →
    (r.outcome = .sending → s.startup.station = .member)
      ∧ (r.outcome = .complete → (r.bit = 9 ∧ r.byte + 1 = r.bytes.length) ∨ r.bytes.length ≤ r.byte)

/-- The station holds a mark only in SETTLING or LOCKED, and it reads BEAT as low from 2 µs into the mark at the
latest (R3, R16, R24, R197). The filter has no more than 2 µs to run on either line. -/
def State.MarkOk (s : State) : Prop :=
  (∀ m, s.beat.mark = some m →
    (s.pins.beatLow = true ∨ 0 < m.unseen) ∧ m.remaining ≤ m.kind.time
      ∧ (s.beat.lock = .settling ∨ s.beat.lock = .locked))
    ∧ s.pins.beatHeld ≤ 2 ∧ s.pins.dataHeld ≤ 2

/-- The player's wanted pattern is the head's, and its sound indication the table's (R29, R120). -/
def State.PlayerOk (s : State) : Prop :=
  s.player.wanted = (headCue s.table).map s.library.patternOf ∧ s.player.sound = unsilencedPresent s.table

/-- Four faults stand exactly while their cause does: PEER_MISSING (R105), LINE_FAULT (R160), SUPPLY_LOW (R178)
and BEAT_STUCK (R21); the supply cap follows the same condition as SUPPLY_LOW (R145). -/
def State.FaultsOk (s : State) : Prop :=
  hasFault s.faults .peerMissing = anyMissing s.roster
    ∧ hasFault s.faults .lineFault = anyLineFault s.inputs
    ∧ hasFault s.faults .supplyLow = (s.supply.condition == .low)
    ∧ hasFault s.faults .beatStuck = s.beat.stuck
    ∧ s.drive.cap = (s.supply.condition == .low)

/-- An ORPHANED entry is latched, foreign, and of an origin that is MISSING (R44, R45). A STATUS heard in the slot
in progress has left its owner no ORPHANED entry (R41), and only a slot in progress has an owner (R56, R57). -/
def State.OrphansOk (s : State) : Prop :=
  (∀ e ∈ s.table, e.state = .orphaned →
    e.latched = true ∧ e.origin ≠ s.startup.ownAddr ∧ peerState s.roster e.origin = .missing)
    ∧ (s.loop.heard.isSome = true →
      s.loop.owner.isSome = true ∧ ∀ e ∈ s.table, s.loop.owner = some e.origin → e.state ≠ .orphaned)
    ∧ (s.loop.owner.isSome = true → s.loop.part.slot.isSome = true)

/-- The lists of fixed length have it: 32 roster entries, 12 inputs (sections 5.1 and 8.1). -/
def State.SizesOk (s : State) : Prop :=
  s.roster.length = 32 ∧ s.inputs.length = 12

/-- Every request, entry and message has its fields in range, and an image that waits for its load has passed its
checks (R187). -/
def State.RangesOk (s : State) : Prop :=
  s.startup.ownAddr ≤ 31
    ∧ (∀ b ∈ s.bindings, b.request.Ok)
    ∧ (∀ e ∈ s.table, e.Ok)
    ∧ (∀ m ∈ s.queue.messages, m.news.Ok)
    ∧ (s.startup.station = .starting → s.startup.step = .checking → s.startup.validity ≠ .rejected →
        imageOk s.startup.image = true)

/-- In STARTING and QUIESCENT the station holds no request and no message and its transceiver is as at a start, and the
roster of a STARTING station is that of a start (R55, R77, R95, R103, R193). -/
def State.RestOk (s : State) : Prop :=
  (s.running = false → s.table = [] ∧ s.queue.messages = [] ∧ s.loop = Transceiver.atStart)
    ∧ (s.startup.station = .starting → s.roster = rosterAtStart s.startup.ownAddr ∧ s.beat.stuck = false)

/-- Every input that is RAISED or HELD has an own entry, and every own entry is such an input's (R33); by TableOk it is
the only one. -/
def State.OwnOk (s : State) : Prop :=
  (∀ i, i < 12 → (s.input i).request ≠ .idle →
    ∃ e ∈ s.table, e.origin = s.startup.ownAddr ∧ e.input = i)
    ∧ ∀ e ∈ s.table, e.origin = s.startup.ownAddr → e.input < 12 ∧ (s.input e.input).request ≠ .idle

/-- In QUIESCENT both outputs are off (R146). -/
def State.DarkOk (s : State) : Prop :=
  s.startup.station = .quiescent →
    s.drive.quiescent = true ∧ s.drive.source = .none ∧ s.drive.level = 0 ∧ s.drive.beaconLevel = 0
      ∧ s.drive.chirpTimer = none

/-- A QUIESCENT station drives no loop line and no output (R193). -/
def State.offTheLoop (s : State) : Prop :=
  s.drivesBeat = false ∧ s.drivesData = false ∧ s.snd = none ∧ s.bcn = 0

/-- The station once its image is rejected (R189): no field line enabled, every cue on P0, CONFIG in the fault set, the
memory's lines released. -/
def State.imageRejected (s : State) : State :=
  { s with
    bindings := List.replicate 8 ⟨false, false, 0, ⟨1, 1, false⟩⟩
    library := ⟨List.replicate 63 0#8, 1, [], [], List.replicate 63 0, 0⟩
    faults := s.faults ||| 0x10#8
    startup := { s.startup with
      step := .checking, stepTimer := 0, validity := .rejected, image := [], memoryBusy := false }
    port := { s.port with attn := s.port.attn || !hasFault s.faults .config } }

/-- The station after one more count of a counter, which holds at 255 and marks ATTN when it gets there (R220). -/
def State.counted (n : CounterName) (s : State) : State :=
  { s with
    counters := s.counters.put n (min 255 (s.counters.get n + 1))
    port := { s.port with attn := s.port.attn || s.counters.get n == 254 } }

/-- The station with one more fault in its fault set; a change of the set marks ATTN (R104, R219). -/
def State.withFault (f : FaultName) (s : State) : State :=
  { s with
    faults := s.faults ||| f.mask
    port := { s.port with attn := s.port.attn || !hasFault s.faults f } }

/-- The station with one fault taken out of its fault set; a change of the set marks ATTN (R104, R219). -/
def State.withoutFault (f : FaultName) (s : State) : State :=
  { s with
    faults := s.faults &&& ~~~f.mask
    port := { s.port with attn := s.port.attn || hasFault s.faults f } }

/-- The mark that a beat with the given index begins (R5): a bar mark at index 0 with the phase confirmed. -/
def markAt (index : BitVec 4) (phaseConfirmed : Bool) : Mark :=
  if index = 0#4 ∧ phaseConfirmed = true then ⟨.bar, 12000⟩ else ⟨.short, 4000⟩

/-- The station's own clock frame for a queued message (R72). -/
def State.messageAsFrame (s : State) (n : News) : Frame :=
  let header (k : FrameKind) (items : List Item) : Frame :=
    ⟨k, s.startup.ownAddr, s.supply.condition == .low, s.faults != 0#8, s.beat.barCount, s.beat.beatIndex, 0#8, items⟩
  match n with
  | .raise i r => header .raise [⟨i, r.cue, r.priority, r.latched, false⟩]
  | .clear i r => header .clear [⟨i, r.cue, r.priority, r.latched, false⟩]
  | .silence => header .silence []
  | .restore => header .restore []

/-- The command that brings a beat by its cause. -/
def beatCommand (after : Nat) : BeatCause → Instr
  | .fall => .beatFall after
  | .expiry => .beatTimerExpiry after

/-- A fall of BEAT that comes `after` from now is seen (R3, R197): the line is high and its own mark still unseen by then,
and the line has been high for the 2 µs of the filter. -/
abbrev State.beatFallSeen (after : Nat) (s : State) : Prop :=
  s.pins.beatLow = false ∧ (∀ m ∈ s.beat.mark, after < m.unseen) ∧ 2 ≤ s.pins.beatHeld + after

/-- A rise of BEAT that comes `after` from now is seen (R3, R197): the line is low, the station holds no mark, and both have
been so for the 2 µs of the filter. -/
abbrev State.beatRiseSeen (after : Nat) (s : State) : Prop :=
  s.pins.beatLow = true ∧ s.beat.mark = none ∧ 2 ≤ s.pins.beatHeld + after

/-- What a beat does to the frame being received, from `s` to `t`: it is cut, the receiver waits for a start bit, and the
frame is counted in RX_ERR when it was placed, else in MISPLACED (R65, R66, R200). -/
def State.cutIsCounted (s t : State) : Prop :=
  (s.loop.rx = none → t.counters.rxErr = s.counters.rxErr ∧ t.counters.misplaced = s.counters.misplaced
      ∧ t.line.phase = s.line.phase)
    ∧ ∀ r, s.loop.rx = some r → s.counters.Ok →
      t.counters.rxErr = (if r.slot = none then s.counters.rxErr else min 255 (s.counters.rxErr + 1))
        ∧ t.counters.misplaced = (if r.slot = none then min 255 (s.counters.misplaced + 1) else s.counters.misplaced)
        ∧ t.line.phase = (if s.pins.dataLow then .waitHigh else .idle)

/-- No chord ends at the next eighth mark: a held one has counted fewer than 63 (R167). -/
abbrev State.chordGoesOn (s : State) : Prop :=
  s.keys.state = .chord → s.keys.hold < 63

/-- What the key unit holds after an eighth mark at which no chord ends: a held chord counts it (R167). -/
def State.keysCounted (after : Nat) (s : State) : KeyUnit :=
  if s.keys.state = .chord then { (s.elapse after).keys with hold := s.keys.hold + 1 } else (s.elapse after).keys

/-- A beat with a beat event comes `after` from now (R1): the timer has reached 250 ms, or a fall of BEAT is followed,
20 ms or more after the last beat, and in LOCKED in the capture window (R9, R11 to R13). -/
def State.beatDue (cause : BeatCause) (after : Nat) (s : State) : Prop :=
  s.beat.lock ≠ .halted
    ∧ match cause with
      | .expiry => 250000 ≤ s.beat.timer + after
      | .fall =>
        s.beatFallSeen after ∧ 20000 ≤ s.beat.timer + after
          ∧ (s.beat.lock = .locked → 230000 ≤ s.beat.timer + after)

/-- The command that brings an eighth mark by its cause. -/
def eighthCommand (after : Nat) : EighthCause → Instr
  | .mark => .eighthMark after
  | .beat c => beatCommand after c

/-- An eighth mark comes `after` from now (R20): at its own time in the beat, or as eighth 0 of a beat. -/
def State.eighthIsDue (cause : EighthCause) (after : Nat) (s : State) : Prop :=
  match cause with
  | .mark => s.beat.lock ≠ .halted ∧ s.beat.eighth < 7 ∧ 31250 * (s.beat.eighth + 1) ≤ s.beat.timer + after
  | .beat c => s.beatDue c after

/-- The stop bit of the last byte of a valid frame is sampled, `after` from now, at a station that is not sending one
itself: the frame has been received whole in its slot (R58, R61, R63). -/
def State.framesEnd (slot : Slot) (f : Frame) (after : Nat) (s : State) : Prop :=
  s.running = true ∧ s.pins.dataLow = false ∧ s.line.phase = .stop ∧ 950 ≤ s.line.byteTimer + after
    ∧ f.wellFormed = true ∧ slotAllowed f.kind slot = true
    ∧ (∀ r, s.loop.tx = some r → r.outcome = .abandoned)
    ∧ ∃ began first, s.loop.rx = some ⟨some slot, began, first, true⟩ ∧ first ++ [s.line.shift] = f.bytes

/-- The stop bit of the last byte of the station's own frame is received, `after` from now, in the slot in which the
station sends it (R58, R61, R68, R74). -/
def State.ownFramesEnd (slot : Slot) (f : Frame) (after : Nat) (s : State) : Prop :=
  s.running = true ∧ s.line.phase = .stop ∧ 950 ≤ s.line.byteTimer + after
    ∧ f.wellFormed = true ∧ slotAllowed f.kind slot = true ∧ f.sender = s.startup.ownAddr
    ∧ (slot ≠ .openSlot → s.loop.owner = some s.startup.ownAddr)
    ∧ (∃ r, s.loop.tx = some r ∧ r.slot = slot ∧ r.bytes = f.bytes)
    ∧ ∃ began first, s.loop.rx = some ⟨some slot, began, first, true⟩ ∧ first ++ [s.line.shift] = f.bytes

/-- What the end of a claim hands on, from the table `s` had before it to the one `t` has after it. A changed head marks ATTN
(R28, R219), gives the player its wanted pattern, sets the restart flag when the table was empty and clears it when it is
(R120), and ends an output test when the table is not empty: one that is due does not start, and one that plays is SILENT
at once, its tone withdrawn and the beacon at 0 (R131). A changed unsilenced-present indication reaches the player, and
its end withdraws the pattern tone (R29, R127). Nothing else of the player changes. The level 0 of a sounder without a
source is the model's (log entry 11). -/
def State.handsOn (s t : State) : Prop :=
  let head (l : List Entry) := l.head?.map fun e => (e.origin, e.input, e.cue, e.priority)
  let p := s.player
  (if head s.table = head t.table then
    t.player.wanted = p.wanted ∧ t.player.restart = p.restart ∧ t.player.testDue = p.testDue ∧ t.player.mode = p.mode
  else
    t.port.attn = true
      ∧ (t.table = [] →
          t.player.wanted = none ∧ t.player.restart = false ∧ t.player.testDue = p.testDue ∧ t.player.mode = p.mode)
      ∧ ∀ e rest, t.table = e :: rest →
          t.player.wanted = some (s.library.effective.getD (e.cue - 1) 0)
          ∧ t.player.restart = (p.restart || s.table.isEmpty) ∧ t.player.testDue = false
          ∧ t.player.mode = (if p.mode = .test then .silent else p.mode)
          ∧ (p.mode = .test → s.drive.quiescent = false → t.drive.intensity = 0 ∧ t.drive.beaconLevel = 0)
          ∧ (p.mode = .test → s.drive.source = .test → t.drive.source = .none ∧ t.drive.level = 0))
    ∧ t.player.sound = t.table.any (fun e => !e.silenced)
    ∧ (p.sound = true → t.player.sound = false → p.mode = .intro ∨ p.mode = .cycle → s.drive.source = .pattern →
        t.drive.source = .none ∧ t.drive.level = 0)
    ∧ t.player.current = p.current ∧ t.player.introCount = p.introCount ∧ t.player.stepOffset = p.stepOffset
    ∧ t.player.testBeats = p.testBeats

/-- The drives `d` after pattern tone is withdrawn (R141): a PATTERN source is NONE with SND low at once, and a rest stored
behind a chirp is discarded. The fields of a sounder without a source are the model's (log entry 11). -/
def patternWithdrawn (d : Drive) : Drive :=
  match d.source with
  | .pattern => { d with source := .none, tone := 0, envelopeLevel := 0, level := 0, sndPhase := 0 }
  | .chirp => { d with behind := none }
  | .none | .test => d

/-- What a chirp request does to the drives, from `d` to `d'` (R142). While pattern tone or test tone is produced, and in
QUIESCENT, it is dropped. A chirp in progress has its timer started again. Otherwise the chirp begins, code 10 at volume 1,
with a new wave at level 1 where SND was low, and a PATTERN source's rest is kept behind it. The step offset 0 of a chirp is
the model's (log entry 11). -/
def chirpAsked (d d' : Drive) : Prop :=
  let sounding := d.tone ≠ 0 ∧ d.level ≠ 0
  if d.quiescent = true ∨ d.source = .test ∨ (d.source = .pattern ∧ sounding) then d' = d
  else if d.source = .chirp then d' = { d with chirpTimer := some 0 }
  else
    d' = { d with
      source := .chirp, tone := 10, volume := 1, envelope := .flat, offset := 0, envelopeLevel := 1
      level := d'.level, sndPhase := d'.sndPhase, chirpTimer := some 0
      behind := if d.source = .pattern then some ⟨d.tone, d.volume, d.envelope, d.offset⟩ else none }
    ∧ (¬ sounding → d'.level = 1 ∧ d'.sndPhase = 0)

/-- One item of a frame of `sender` taken by the table (R31, R38, R41): `after` is the table once it has been, and `lost`
counts the entry that was evicted or dropped for it. The entry of its key is refreshed; else a new one is inserted; a
full table gives up its last-ranked foreign entry for one that ranks before it, or drops the newcomer. -/
def ItemTaken (own sender : Nat) (stamp : Stamp) (i : Item) (before after : List Entry) (lost : Nat) : Prop :=
  let hasKey (e : Entry) : Bool := e.origin == sender && e.input == i.input
  let new : Entry := ⟨i.cue, i.priority, sender, i.input, .active, i.latched, i.silenced, 0, stamp.1, stamp.2⟩
  TableOk after
    ∧ (∀ e ∈ before, hasKey e = true → lost = 0
        ∧ after.Perm ((if e.cue = i.cue then
            { new with silenced := e.silenced || i.silenced, stampBar := e.stampBar, stampBeat := e.stampBeat }
          else new) :: before.filter fun x => !hasKey x))
    ∧ ((∀ e ∈ before, hasKey e = false) → before.length < 16 → lost = 0 ∧ after.Perm (new :: before))
    ∧ ((∀ e ∈ before, hasKey e = false) → 16 ≤ before.length → lost = 1
        ∧ match (before.filter fun e => e.origin != own).getLast? with
          | some l => if new.before l then after.Perm (new :: before.erase l) else after = before
          | none => after = before)

/-- The items of a frame taken one after another in their order (R40), with the count of all entries lost. -/
def ItemsTaken (own sender : Nat) (stamp : Stamp) : List Item → List Entry → List Entry → Nat → Prop
  | [], before, after, lost => after = before ∧ lost = 0
  | i :: rest, before, after, lost =>
    ∃ between one, ItemTaken own sender stamp i before between one
      ∧ ∃ more, ItemsTaken own sender stamp rest between after more ∧ lost = one + more

/-! ### The image as it stands in the memory (section 10.3) -/

/-- The step at a position of an image's pool. -/
def stepInImage (image : List Byte) (k : Nat) : StoredStep :=
  let b := (byteAt image (207 + 4 * k)).toNat
  ⟨(byteAt image (206 + 4 * k)).toNat, b / 16, b / 4 % 4, b % 4, (byteAt image (208 + 4 * k)).toNat⟩

/-- The steps of one list of an image's pattern, from a start and a count (R115). -/
def listInImage (image : List Byte) (start count : Nat) : List StoredStep :=
  (List.range count).map fun k => stepInImage image (start + k)

/-- The record of a pattern in an image's directory (R115). -/
def recordInImage (image : List Byte) (p : Nat) : PatternRecord :=
  let field (j : Nat) := (byteAt image (86 + 5 * p + j)).toNat
  ⟨field 0, field 1, field 2, field 3, field 4⟩

/-- The conditions of R117 on a pattern of an image whose step count is `steps`. -/
def validInImage (image : List Byte) (steps p : Nat) : Bool :=
  let r := recordInImage image p
  let intro := listInImage image r.introStart r.introCount
  let cycle := listInImage image r.cycleStart r.cycleCount
  decide (r.cycleBars ∈ [1, 2, 4] ∧ r.introCount ≤ 16 ∧ 1 ≤ r.cycleCount ∧ r.cycleCount ≤ 32
    ∧ r.introStart + r.introCount ≤ steps ∧ r.cycleStart + r.cycleCount ≤ steps
    ∧ (∀ st ∈ intro ++ cycle, 1 ≤ st.duration ∧ st.duration ≤ 128 ∧ st.envelopeCode ≤ 2)
    ∧ (intro.map StoredStep.duration).sum ≤ 64 ∧ (cycle.map StoredStep.duration).sum = 128 * r.cycleBars)

/-- A step of an image as it is played (R114). -/
def playedStep (st : StoredStep) : Step :=
  ⟨st.duration, st.tone, st.volume,
    if st.envelopeCode = 0 then .flat else if st.envelopeCode = 1 then .decay else .swell, st.intensity⟩

/-- The queue's messages stand in line order (R78). -/
def TxQueue.inOrder (q : TxQueue) : Prop :=
  q.messages.Pairwise fun a b => a.news.lead ≤ b.news.lead

/-- The messages of a queue in line order after one more has joined it, and whether one was discarded. First the merges: a
RAISE takes out a CLEAR of its input (R80); a CLEAR takes out a RAISE of its input and joins only when that one is on the
line or there is none (R81); a second SILENCE or RESTORE does not join (R82). Then the capacity rule: of seven messages
the last by lead byte, and among equals the newcomer, is discarded (R83). -/
def TxQueue.joinedBy (n : News) (q : TxQueue) : List Message × Bool :=
  let kept := q.messages.filter fun m =>
    match n with
    | .raise i _ => !m.news.isClearOf i
    | .clear i _ => !m.news.isRaiseOf i
    | .silence | .restore => true
  let merged : Bool :=
    match n with
    | .raise _ _ => false
    | .clear i _ => (q.messages.find? fun m => m.news.isRaiseOf i).any fun m => !m.onLine
    | .silence | .restore => q.messages.any fun m => m.news == n
  let placed (l : List Message) : List Message :=
    l.filter (fun m => decide (m.news.lead ≤ n.lead)) ++ [⟨n, q.nextJoin, 0, false⟩]
      ++ l.filter (fun m => decide (n.lead < m.news.lead))
  if merged then (kept, false)
  else if kept.length < 6 then (placed kept, false)
  else if kept.getLast?.any fun m => decide (n.lead < m.news.lead) then (placed kept.dropLast, true)
  else (kept, true)

/-- The conditions of every chapter together. -/
structure State.Ok (s : State) : Prop where
  counters : s.counters.Ok
  table : TableOk s.table
  queue : s.queue.Ok
  modes : s.ModesOk
  tx : s.TxOk
  mark : s.MarkOk
  player : s.PlayerOk
  faults : s.FaultsOk
  orphans : s.OrphansOk
  sizes : s.SizesOk
  ranges : s.RangesOk
  rest : s.RestOk
  own : s.OwnOk
  dark : s.DarkOk

end Sys2Proof.Machine
end

