-- ==== Sys2Proof/Certificates/Slice0/Obligations.lean ====
section
/-! DEFINITION. The statements about the L316, chapter by chapter. `s.elapse after` is the station once the command's
own wait has passed; a statement that rests on a choice of the model names its row of notes/assumptions. -/

open Sys2Proof Sys2Proof.Machine

/-! ### Commands, the queue of waiting commands, and reset -/

/-- The station takes the command at the front of its queue and acts on it with the rest of the queue; with none
waiting it idles. The queue is the model's own (notes/assumptions/2.md). -/
def Obligations.StepRunsTheFrontCommand : Prop :=
  (∀ (c : Instr) (rest : List Instr) (s : State), s.pending = c :: rest → step s = exec c (s.setPending rest))
    ∧ ∀ s : State, s.pending = [] → step s = .next s

/-- Every command is answered with a next state, and none touches the commands that wait. Both are the model's: the manual
names no behaviour that stops the part, so nothing faults (notes/assumptions/6.md), and it has no queue of commands, so
none of its commands can touch one (notes/assumptions/2.md). -/
def Obligations.EveryCommandAnswersAndKeepsTheQueue : Prop :=
  ∀ (c : Instr) (s : State), ∃ t, exec c s = .next t ∧ t.pending = s.pending

/-- The state after reset meets the conditions of every chapter. -/
def Obligations.ResetMeetsEveryCondition : Prop :=
  State.reset.Ok

/-! ### Cold starts (R183) -/

/-- POWER_ON leaves the reset state, but for the levels at the pins and the commands that wait, whatever went before.
That the levels are kept is the model's choice (notes/assumptions/9.md), and so is PSO low at once in a transaction that the
start cuts off (15.md); the values of the reset state that no rule gives, the stopped timers, the last beat kind, the
membership count and the port's bits among them, are the model's too (16.md). -/
def Obligations.PowerOnLeavesTheResetState : Prop :=
  ∀ (after : Nat) (low : Bool) (s : State),
    exec (.powerOn after low) s = .next
      { State.reset with
        pending := s.pending
        pins := { (s.elapse after).pins with rst := if low then .held else .high }
        keys := ⟨⟨s.keys.ack.raw, false, if s.keys.ack.raw then some 0 else none⟩,
          ⟨s.keys.test.raw, false, if s.keys.test.raw then some 0 else none⟩, .idle, 0⟩
        startup := { State.reset.startup with step := if low then .waiting else .settlingWait }
        port := { State.reset.port with opened := s.port.opened, dropped := s.port.opened } }

/-- A hold of RST that has lasted 1 ms causes a cold start in every station state: RESET_PIN at the moment the hold
reaches 1 ms, with WAITING, and RST_RISE at the rise of a hold whose start has not been taken, with SETTLING_WAIT. A
conversion in progress runs on for nobody. The second case and the levels kept are the model's choice
(notes/assumptions/9.md), and so is PSO low at once in a transaction that the start cuts off (15.md), and what no rule
gives of the reset state (16.md). -/
def Obligations.HeldResetColdStarts : Prop :=
  ∀ (after held : Nat) (s : State), s.pins.rst = .timing held → 1000 ≤ held + after →
    let cold (pin : RstPin) (st : StartStep) : State :=
      { State.reset with
        pending := s.pending
        pins := { (s.elapse after).pins with rst := pin }
        roster := rosterAtStart s.startup.ownAddr
        converter :=
          if s.converter.activity = .idle then State.reset.converter
          else ⟨s.converter.activity, min 250 (s.converter.time + after), true, false, true, none⟩
        keys := ⟨⟨s.keys.ack.raw, false, if s.keys.ack.raw then some 0 else none⟩,
          ⟨s.keys.test.raw, false, if s.keys.test.raw then some 0 else none⟩, .idle, 0⟩
        startup := { State.reset.startup with cause := .resetPin, step := st, ownAddr := s.startup.ownAddr }
        port := { State.reset.port with opened := s.port.opened, dropped := s.port.opened } }
    exec (.resetPin after) s = .next (cold .held .waiting)
      ∧ exec (.rstRise after) s = .next (cold .high .settlingWait)

/-- A fall of RST begins the timing of its hold, and a rise before 1 ms changes nothing but the pin: it causes no
start. The rise of a hold that has caused its start ends WAITING; so does the rise of a hold that began at power-on,
which belongs to that power-on and causes no start of its own. At a station that a cutoff has made QUIESCENT during
the hold, the rise causes a further cold start. The levels a start keeps are the model's choice
(notes/assumptions/9.md), and so is PSO low at once in a transaction that it cuts off (15.md), and what no rule
gives of the reset state (16.md). -/
def Obligations.ShortResetPulseCausesNothing : Prop :=
  ∀ (after : Nat) (s : State),
    (s.pins.rst = .high → exec (.rstFall after) s = .next
      { s.elapse after with pins := { (s.elapse after).pins with rst := .timing 0 } })
    ∧ (∀ held, s.pins.rst = .timing held → held + after < 1000 →
        ¬ (s.startup.station = .starting ∧ s.startup.step = .waiting) →
        exec (.rstRise after) s = .next { s.elapse after with pins := { (s.elapse after).pins with rst := .high } })
    ∧ (s.pins.rst = .held → s.startup.station = .starting → s.startup.step = .waiting →
        exec (.rstRise after) s = .next
          { s.elapse after with
            pins := { (s.elapse after).pins with rst := .high }
            startup := { s.startup with step := .settlingWait, stepTimer := 0 } })
    ∧ (∀ low, ∃ t, exec (.powerOn after low) s = .next t
        ∧ t.startup.station = .starting ∧ t.startup.cause = .powerOn
        ∧ t.startup.step = (if low then .waiting else .settlingWait)
        ∧ (low = true → ∀ held, exec (.resetPin held) t = .next (t.elapse held)
          ∧ exec (.rstRise held) t = .next
            { t.elapse held with
              pins := { (t.elapse held).pins with rst := .high }
              startup := { t.startup with step := .settlingWait, stepTimer := 0 } }))
    ∧ (s.pins.rst = .held → s.startup.station = .quiescent →
        exec (.rstRise after) s = .next
          { State.reset with
            pending := s.pending
            pins := { (s.elapse after).pins with rst := .high }
            roster := rosterAtStart s.startup.ownAddr
            converter :=
              if s.converter.activity = .idle then State.reset.converter
              else ⟨s.converter.activity, min 250 (s.converter.time + after), true, false, true, none⟩
            keys := ⟨⟨s.keys.ack.raw, false, if s.keys.ack.raw then some 0 else none⟩,
              ⟨s.keys.test.raw, false, if s.keys.test.raw then some 0 else none⟩, .idle, 0⟩
            startup := { State.reset.startup with
              cause := .resetPin, step := .settlingWait, ownAddr := s.startup.ownAddr }
            port := { State.reset.port with opened := s.port.opened, dropped := s.port.opened } })

/-! ### The steps of a cold start (R184 to R190) -/

/-- At the end of the 1000 ms wait the straps give the own address, the roster's SELF entry stands there and nowhere
else, and the reading begins with a start condition on the memory's lines; nothing else changes. That the condition comes
whole as the read begins is the model's choice (notes/assumptions/17.md). -/
def Obligations.StrapsGiveTheAddress : Prop :=
  ∀ (after : Nat) (straps : BitVec 5) (s : State),
    s.startup.station = .starting → s.startup.step = .settlingWait → 1000000 ≤ s.startup.stepTimer + after →
    let t : State :=
      { s.elapse after with
        roster := rosterAtStart straps.toNat
        startup := { s.startup with
          step := .reading, stepTimer := 0, ownAddr := straps.toNat, image := [], memoryBusy := true } }
    exec (.settlingWaitEnd after straps) s = .next t ∧ t.memoryCondition = some .start
      ∧ ∀ a, a < 32 → (peerState (rosterAtStart straps.toNat) a = .self ↔ a = straps.toNat)

/-- The header is checked as soon as its seven bytes are read: a header with the magic, the length that its step count
gives, a pattern count of 1 to 24 and a step count of at most 256 lets the read go on, and any other rejects the
image; the seventh byte's acknowledge bit, 980 µs into the read, is pulled low for the first and left released for the
other. So does a missing acknowledge on any of the four bytes the station sends. A rejection ends the read with a stop
condition. That it is also the moment of validity REJECTED, of CONFIG and of the start step CHECKING is the model's
inference (notes/assumptions/8.md), and what a disabled field line's other fields and the library's unused parts hold
at it is the model's choice (notes/assumptions/9.md), and so are the stop condition whole at one moment and a
missing acknowledge taken at the end of its clock period (17.md). -/
def Obligations.HeaderOrAcknowledgeDecidesTheRead : Prop :=
  ∀ (after : Nat) (s : State),
    s.startup.station = .starting → s.startup.step = .reading → s.startup.memoryBusy = true → s.startup.image = [] →
    (∀ header : List Byte, header.length = 7 → 990 ≤ s.startup.stepTimer + after →
      let good := wordAt header 0 = 0x5E1C ∧ wordAt header 2 = 208 + 4 * wordAt header 5 ∧ wordAt header 2 ≤ 2048
        ∧ 1 ≤ (byteAt header 4).toNat ∧ (byteAt header 4).toNat ≤ 24 ∧ wordAt header 5 ≤ 256
      (∀ dt, 980 ≤ s.startup.stepTimer + dt → s.startup.stepTimer + dt < 990 →
        (good → (s.elapse dt).memoryData header = some .low)
          ∧ (¬ good → (s.elapse dt).memoryData header = some .released))
      ∧ (good → exec (.headerReadComplete after header) s = .next
        { s.elapse after with
          startup := { s.startup with stepTimer := s.startup.stepTimer + after, image := header } })
      ∧ (¬ good → exec (.headerReadComplete after header) s = .next (s.elapse after).imageRejected))
    ∧ ∀ sent, sent < 4 → 90 * (sent + 1) ≤ s.startup.stepTimer + after →
      exec (.missingAcknowledge after sent) s = .next (s.elapse after).imageRejected
        ∧ (s.elapse after).imageRejected.memoryCondition = some .stop

/-- When the whole image has been read, the read ends with a stop condition and both lines released, and the image's
CRC-16 and its eight binding records are checked: an image that passes goes on to its load, and any other is rejected.
That a rejection here is the moment of validity REJECTED, of CONFIG and of the start step CHECKING is the model's
inference (notes/assumptions/8.md), and what a disabled field line's other fields and the library's unused parts hold at
it is the model's choice (notes/assumptions/9.md), and so are CFG_CLK high while the lines are released and the stop condition
whole at one moment (17.md). -/
def Obligations.WholeImageIsCheckedWhenRead : Prop :=
  ∀ (after : Nat) (rest : List Byte) (s : State),
    s.startup.station = .starting → s.startup.step = .reading → s.startup.memoryBusy = true →
    s.startup.image.length = 7 →
    let image := s.startup.image ++ rest
    image.length = wordAt image 2 → 90 * (4 + image.length) ≤ s.startup.stepTimer + after →
    let good := (crc16 (image.take (image.length - 2))).toNat = wordAt image (image.length - 2)
      ∧ ∀ n, n < 8 → 1 ≤ bitsOf (byteAt image (7 + 2 * n)) 0 3 ∧ 1 ≤ bitsOf (byteAt image (8 + 2 * n)) 0 6
        ∧ bitsOf (byteAt image (8 + 2 * n)) 6 2 = 0
    ∃ t, exec (.imageReadComplete after rest) s = .next t
      ∧ (good → t = { s.elapse after with
          startup := { s.startup with step := .checking, stepTimer := 0, image := image, memoryBusy := false } })
      ∧ (¬ good → t = (s.elapse after).imageRejected)
      ∧ t.memoryCondition = some .stop ∧ t.cfgClk = true ∧ ∀ header, t.memoryData header = none

/-- The load completes: validity and, for an accepted image, the bindings and the validated library take effect,
CONFIG is set when a pattern was replaced, and every block takes the entry to JOINING. The bindings are the bits of
the eight binding records; each configured pattern is validated and the failures are counted; a cue plays the pattern
its cue map entry names, with the intro, the cycle and the bars of its record, or P0 where that is not a configured
pattern that passed. The table, the queue, the roster and the counters are untouched. That a rejected image passes
through the same end is the model's choice (notes/assumptions/8.md). -/
def Obligations.LoadCompleteEntersJoining : Prop :=
  ∀ (after : Nat) (s : State), s.startup.station = .starting → s.startup.step = .checking →
    ∃ t, exec (.loadComplete after) s = .next t
      ∧ t.startup.station = .joining ∧ t.startup.step = .done ∧ t.startup.membership = 0
      ∧ t.startup.ownAddr = s.startup.ownAddr ∧ t.startup.cause = s.startup.cause ∧ t.port.attn = true
      ∧ t.beat.lock = .free ∧ t.beat.timer = 0 ∧ t.beat.lastKind = .start ∧ t.beat.eighth = 0
      ∧ t.beat.freeBeats = 0 ∧ t.beat.lowTimer = 0 ∧ t.beat.beatIndex = s.beat.beatIndex
      ∧ t.loop.slotTimer = 0 ∧ t.scanner = ⟨0, some 0⟩ ∧ t.supply.ownTimer = none ∧ t.line.lowTimer = 0
      ∧ t.keys.hold = 0
      ∧ t.keys.state = (if s.keys.ack.debounced || s.keys.test.debounced then .spent else .idle)
      ∧ t.table = s.table ∧ t.queue = s.queue ∧ t.roster = s.roster ∧ t.counters = s.counters
      ∧ (if s.startup.validity = .rejected then
          t.startup.validity = .rejected ∧ t.bindings = s.bindings ∧ t.library = s.library ∧ t.faults = s.faults
        else
          let image := s.startup.image
          let count := (byteAt image 4).toNat
          let steps := (byteAt image 5).toNat * 256 + (byteAt image 6).toNat
          t.startup.validity = .accepted
            ∧ t.bindings = (List.range 8).map (fun n =>
                let a := byteAt image (7 + 2 * n)
                let b := byteAt image (8 + 2 * n)
                ⟨a.getLsbD 7, a.getLsbD 6, a.toNat / 8 % 4, ⟨b.toNat % 64, a.toNat % 8, a.getLsbD 5⟩⟩)
            ∧ t.faults = (if t.library.rejected = 0 then s.faults else s.faults ||| 0x10#8)
            ∧ (count ≤ 24 →
              t.library.rejected =
                  ((List.range count).filter fun p => decide (1 ≤ p) && !validInImage image steps p).length
              ∧ (∀ cue, 1 ≤ cue → cue ≤ 63 →
                  let p := (byteAt image (22 + cue)).toNat
                  t.library.patternOf cue =
                    (if 1 ≤ p ∧ p < count ∧ validInImage image steps p = true then p else 0))
              ∧ ∀ p, 1 ≤ p → p < count → validInImage image steps p = true →
                  let r := recordInImage image p
                  t.library.intro p = (listInImage image r.introStart r.introCount).map playedStep
                    ∧ t.library.cycle p = (listInImage image r.cycleStart r.cycleCount).map playedStep
                    ∧ t.library.bars p = r.cycleBars))

/-! ### The beat unit (chapter 1) -/

/-- What a wait does. Each timer that runs gains the wait, up to the end of the range it is judged in: the beat timer
outside HALTED to 250 ms, BEAT's low timer while the line is low, the 2 µs for which a line has stood, a mark's time
down to its release, the slot timer and DATA's low timer while JOINING or MEMBER, the byte and gap timers in the
phases that have them, the time of the bit being sent, a conversion to 250 µs, the scan to 1.25 ms, a chirp to 31.25
ms, the waves of a SND and a BCN that are not low by their frequency in millionths of a period, a qualification to 2
s, a debounce to 20 ms, the supply monitor's own timer to 250 ms, RST's hold to 1 ms and a start step while STARTING.
The station's own mark is seen through the filter, 2 µs after it began. Nothing else changes, and two waits in a row
are one wait of both lengths. The model's own are: the wait that a command carries and the ends of the ranges
(notes/assumptions/1.md, 3.md); the filter as it stands here (7.md); where the byte timer stops, in IDLE and WAIT_HIGH
but not in GAP, and the gap timer, outside a gap (11.md); and the millionth of a period that is the unit of a wave's
phase (17.md). -/
def Obligations.WaitsAddUp : Prop :=
  (∀ (a b : Nat) (s : State), (s.elapse a).elapse b = s.elapse (a + b))
    ∧ ∀ (n : Nat) (s : State),
      let inGap : Bool := s.line.phase == .gap || s.line.phase == .start && s.line.fromGap
      let unseen (m : Mark) : Nat := m.remaining + 2 - (match m.kind with | .short => 4000 | .bar => 12000)
      let low : Bool := s.pins.beatLow || match s.beat.mark with | some m => decide (unseen m ≤ n) | none => false
      s.elapse n = { s with
        pins := { s.pins with
          beatLow := low
          beatHeld := if s.beat.mark.isSome = true ∧ low = true then 0 else min 2 (s.pins.beatHeld + n)
          dataHeld := min 2 (s.pins.dataHeld + n)
          rst :=
            match s.pins.rst with
            | .timing held => .timing (min 1000 (held + n))
            | .high => .high
            | .held => .held }
        beat := { s.beat with
          timer := if s.beat.lock = .halted then s.beat.timer else min 250000 (s.beat.timer + n)
          lowTimer :=
            if s.pins.beatLow then s.beat.lowTimer + n
            else match s.beat.mark with
              | some m => s.beat.lowTimer + (n - unseen m)
              | none => s.beat.lowTimer
          mark := s.beat.mark.map fun m => { m with remaining := m.remaining - n } }
        line := { s.line with
          byteTimer :=
            if s.line.phase = .idle ∨ s.line.phase = .waitHigh then s.line.byteTimer else s.line.byteTimer + n
          gapTimer := if inGap then s.line.gapTimer + (n - s.line.gapLead) else s.line.gapTimer
          gapLead := if inGap then s.line.gapLead - n else s.line.gapLead
          lowTimer := if s.running = true ∧ s.pins.dataLow = true then s.line.lowTimer + n else s.line.lowTimer }
        loop := { s.loop with
          slotTimer := if s.running then s.loop.slotTimer + n else s.loop.slotTimer
          tx := s.loop.tx.map fun r => { r with bitTimer := r.bitTimer + n } }
        drive := { s.drive with
          chirpTimer := s.drive.chirpTimer.map fun w => min 31250 (w + n)
          sndPhase :=
            if s.drive.tone = 0 ∨ s.drive.level = 0 then s.drive.sndPhase
            else s.drive.sndPhase + toneHz s.drive.tone * n
          bcnPhase := if s.drive.beaconLevel = 0 then s.drive.bcnPhase else s.drive.bcnPhase + 1000 * n }
        converter := { s.converter with
          time := if s.converter.activity = .idle then s.converter.time else min 250 (s.converter.time + n)
          fresh := if n = 0 then s.converter.fresh else false }
        scanner := { s.scanner with timer := s.scanner.timer.map fun w => min 1250 (w + n) }
        inputs := s.inputs.map fun x => { x with timer := x.timer.map fun w => min 2000000 (w + n) }
        keys := { s.keys with
          ack := { s.keys.ack with timer := s.keys.ack.timer.map fun w => min 20000 (w + n) }
          test := { s.keys.test with timer := s.keys.test.timer.map fun w => min 20000 (w + n) } }
        supply := { s.supply with ownTimer := s.supply.ownTimer.map fun w => min 250000 (w + n) }
        startup := { s.startup with
          stepTimer := if s.startup.station = .starting then s.startup.stepTimer + n else s.startup.stepTimer } }

/-- A fall of BEAT while the line is low, or before it has been high for the 2 µs of the filter, is not seen; one in
HALTED, and one less than 20 ms after a beat, is ignored: the line's level and its low timer change and nothing else.
Only a FREE unit whose last beat was INTERNAL or a START takes the second kind, as the same beat: it enters SETTLING
with the count 1, the timer and the slots start again, and the index, the bar count and the beat event do not. What
such a fall keeps and drops of the slot in progress (the placed flag and the frames stay, the owner and a waiting
start bit go) is the model's inference (notes/assumptions/10.md), and so is how the filter shows in the edges that
come (notes/assumptions/7.md). -/
def Obligations.FallsOfTheGuardTime : Prop :=
  ∀ (after : Nat) (s : State),
    (¬ s.beatFallSeen after → exec (.beatFall after) s = .next (s.elapse after))
    ∧ (s.beatFallSeen after →
        (s.beat.lock = .halted ∨ s.beat.timer + after < 20000
          ∧ (s.beat.lock = .free → s.beat.lastKind = .followed ∨ s.beat.lastKind = .own)) →
        exec (.beatFall after) s = .next
          { s.elapse after with
            pins := { (s.elapse after).pins with beatLow := true, beatHeld := 0 }
            beat := { (s.elapse after).beat with lowTimer := 0 } })
    ∧ (s.beatFallSeen after → s.beat.lock = .free → s.beat.timer + after < 20000 →
        s.beat.lastKind = .start ∨ s.beat.lastKind = .internal →
        exec (.beatFall after) s = .next
          { s.elapse after with
            pins := { (s.elapse after).pins with beatLow := true, beatHeld := 0 }
            beat := { s.beat with
              lock := .settling, settle := 1, freeBeats := 0, timer := 0, eighth := 0, lastKind := .followed
              measuring := true, lowTimer := 0, mark := some (markAt s.beat.beatIndex s.beat.phaseConfirmed) }
            line := { (s.elapse after).line with fallAt := none }
            loop := { (s.elapse after).loop with slotTimer := 0, part := .mark, owner := none, heard := none } })

/-- In LOCKED a fall of BEAT 20 ms or more and less than 230 ms after a beat is a stray: it is counted and not followed.
The third of a bar takes the unit to FREE, a MEMBER to JOINING, and what it was sending back to waiting. How the filter shows
in the falls that come is the model's inference (notes/assumptions/7.md). -/
def Obligations.StrayIsCountedAndNotFollowed : Prop :=
  ∀ (after : Nat) (s : State), s.beat.lock = .locked → s.beatFallSeen after → s.counters.stray ≤ 255 →
    20000 ≤ s.beat.timer + after → s.beat.timer + after < 230000 →
    (s.beat.strayTally < 2 → exec (.beatFall after) s = .next (State.counted .stray
        { s.elapse after with
          pins := { (s.elapse after).pins with beatLow := true, beatHeld := 0 }
          beat := { (s.elapse after).beat with lowTimer := 0, strayTally := s.beat.strayTally + 1 } }))
    ∧ (2 ≤ s.beat.strayTally →
        ∃ t, exec (.beatFall after) s = .next t ∧ exec (.thirdStray after) s = .next t
          ∧ t.beat = { (s.elapse after).beat with
              lock := .free, lowTimer := 0, mark := none, strayTally := 0, settle := 0, freeBeats := 0
              phaseConfirmed := false }
          ∧ t.startup = { s.startup with
              membership := 0
              station := if s.startup.station = .member then .joining else s.startup.station
              stepTimer := if s.startup.station = .starting then s.startup.stepTimer + after else s.startup.stepTimer }
          ∧ t.counters = s.counters.put .stray (min 255 (s.counters.stray + 1))
          ∧ (s.startup.station = .member → ∀ r, s.loop.tx = some r → r.outcome = .sending →
              t.loop.tx = some { r with bitTimer := r.bitTimer + after, outcome := .abandoned }
                ∧ t.queue.messages = s.queue.messages.map fun m => { m with onLine := false })
          ∧ t.table = s.table ∧ t.roster = s.roster ∧ t.faults = s.faults ∧ t.player = s.player
          ∧ t.inputs = (s.elapse after).inputs ∧ t.drive = (s.elapse after).drive ∧ t.line = (s.elapse after).line
          ∧ t.library = s.library ∧ t.bindings = s.bindings ∧ t.keys = (s.elapse after).keys)

/-- A fall that is followed brings a FOLLOWED beat: in FREE and SETTLING 20 ms or more after the last one, in LOCKED 230
ms or more. The timer starts again, the index advances, at index 0 the bar count does, and the mark begins. The settle
count goes on in the capture window and starts again before it; at 4 the unit is LOCKED. A frame being received is cut and
counted, a placed one in RX_ERR and another in MISPLACED. That the beat clears the slot state, the placed flag among it,
wherever in the partition it falls, and so also outside a slot, and how such a frame is counted, is the model's inference
(notes/assumptions/10.md), and so is how the filter shows in the falls that come (7.md). -/
def Obligations.FollowedBeat : Prop :=
  ∀ (after : Nat) (s : State), s.beatFallSeen after → s.beat.lock ≠ .halted → 20000 ≤ s.beat.timer + after →
    (s.beat.lock = .locked → 230000 ≤ s.beat.timer + after) →
    let n := if s.beat.lock = .settling ∧ 230000 ≤ s.beat.timer + after then s.beat.settle + 1 else 1
    let locks := s.beat.lock = .locked ∨ 4 ≤ n
    ∃ t, exec (.beatFall after) s = .next t
      ∧ t.beat.timer = 0 ∧ t.beat.lastKind = .followed ∧ t.beat.eighth = 0 ∧ t.beat.beatIndex = s.beat.beatIndex + 1#4
      ∧ t.beat.barCount = (if s.beat.beatIndex = 15#4 then s.beat.barCount + 1#8 else s.beat.barCount)
      ∧ t.beat.measuring = true ∧ t.beat.lowTimer = 0
      ∧ t.pins = { (s.elapse after).pins with beatLow := true, beatHeld := 0 }
      ∧ t.beat.mark = some (markAt (s.beat.beatIndex + 1#4) s.beat.phaseConfirmed)
      ∧ t.beat.phaseConfirmed = s.beat.phaseConfirmed
      ∧ t.beat.lock = (if locks then .locked else .settling)
      ∧ (s.beat.lock ≠ .locked → t.beat.settle = (if locks then 0 else n) ∧ t.beat.freeBeats = 0)
      ∧ t.beat.strayTally =
          (if s.beat.beatIndex = 15#4 ∨ (locks ∧ s.beat.lock ≠ .locked) then 0 else s.beat.strayTally)
      ∧ t.loop = ⟨0, .mark, none, false, false, .ahead, none, none, none⟩ ∧ s.cutIsCounted t
      ∧ (t.converter.activity = .supply ∨ t.converter.pendingSupply = true)

/-- A beat timer that reaches 250 ms brings a beat at the station's own time. In SETTLING and LOCKED it is OWN, with a
mark and one more settle; in FREE it is INTERNAL, drives nothing, and is one of the sixteen after which the unit takes
itself to be alone. The mark is seen on the line 2 µs later. A frame being received is cut and counted, a placed one in
RX_ERR and another in MISPLACED. That the beat clears the slot state wherever in the partition it falls, and so also
outside a slot, and how such a frame is counted, is the model's inference (notes/assumptions/10.md), and so is the moment
at which the own mark is seen (notes/assumptions/7.md). -/
def Obligations.OwnAndInternalBeats : Prop :=
  ∀ (after : Nat) (s : State), 250000 ≤ s.beat.timer + after →
    (s.beat.lock = .settling ∧ s.beat.settle < 3 ∨ s.beat.lock = .locked →
      ∃ t, exec (.beatTimerExpiry after) s = .next t
        ∧ t.beat.timer = 0 ∧ t.beat.lastKind = .own ∧ t.beat.eighth = 0 ∧ t.beat.beatIndex = s.beat.beatIndex + 1#4
        ∧ t.beat.barCount = (if s.beat.beatIndex = 15#4 then s.beat.barCount + 1#8 else s.beat.barCount)
        ∧ t.beat.mark = some (markAt (s.beat.beatIndex + 1#4) s.beat.phaseConfirmed)
        ∧ t.pins = (s.elapse after).pins ∧ (t.elapse 2).pins.beatLow = true
        ∧ (t.elapse 1).pins.beatLow = t.pins.beatLow ∧ t.beat.measuring = true ∧ t.beat.lock = s.beat.lock
        ∧ t.beat.settle = (if s.beat.lock = .settling then s.beat.settle + 1 else s.beat.settle)
        ∧ t.loop = ⟨0, .mark, none, false, false, .ahead, none, none, none⟩ ∧ s.cutIsCounted t)
    ∧ (s.beat.lock = .free → (s.elapse after).pins.beatLow = true ∨ s.beat.freeBeats < 15 →
      ∃ t, exec (.beatTimerExpiry after) s = .next t
        ∧ t.beat.timer = 0 ∧ t.beat.lastKind = .internal ∧ t.beat.eighth = 0
        ∧ t.beat.beatIndex = s.beat.beatIndex + 1#4
        ∧ t.beat.barCount = (if s.beat.beatIndex = 15#4 then s.beat.barCount + 1#8 else s.beat.barCount)
        ∧ t.beat.lock = .free ∧ t.beat.freeBeats = (if (s.elapse after).pins.beatLow then 0 else s.beat.freeBeats + 1)
        ∧ t.beat.mark = (s.elapse after).beat.mark ∧ t.pins = (s.elapse after).pins
        ∧ t.startup = (s.elapse after).startup
        ∧ t.loop = ⟨0, .mark, none, false, false, .ahead, none, none, none⟩ ∧ s.cutIsCounted t)

/-- ENTER_LOCKED is the beat at which the unit enters LOCKED: the fourth settle in the capture window or at an OWN beat,
and the sixteenth INTERNAL beat, which confirms the phase and makes the station originate. The counts of settling and
of strays are 0, the count of indices of 0 begins, and the beat has its mark. How the filter shows in a fall that comes, and
in the own mark, is the model's inference (notes/assumptions/7.md). -/
def Obligations.EnterLocked : Prop :=
  ∀ (after : Nat) (cause : BeatCause) (s : State),
    (cause = .fall ∧ s.beat.lock = .settling ∧ s.beatFallSeen after ∧ 230000 ≤ s.beat.timer + after
        ∧ 3 ≤ s.beat.settle
      ∨ cause = .expiry ∧ s.beat.lock = .settling ∧ 250000 ≤ s.beat.timer + after ∧ 3 ≤ s.beat.settle
      ∨ cause = .expiry ∧ s.beat.lock = .free ∧ (s.elapse after).pins.beatLow = false ∧ 250000 ≤ s.beat.timer + after
        ∧ 15 ≤ s.beat.freeBeats) →
    ∃ t, exec (.enterLocked after cause) s = .next t
      ∧ exec (match cause with | .fall => .beatFall after | .expiry => .beatTimerExpiry after) s = .next t
      ∧ t.beat.lock = .locked ∧ t.beat.timer = 0 ∧ t.beat.strayTally = 0 ∧ t.beat.settle = 0 ∧ t.beat.freeBeats = 0
      ∧ t.startup.membership = 0 ∧ t.startup.station = s.startup.station
      ∧ t.beat.phaseConfirmed = (s.beat.lock == .free || s.beat.phaseConfirmed)
      ∧ t.beat.lastKind =
          (if cause = .fall then .followed else if s.beat.lock = .free then .internal else .own)
      ∧ t.beat.beatIndex = s.beat.beatIndex + 1#4 ∧ (t.elapse 2).pins.beatLow = true
      ∧ t.beat.mark = some (markAt (s.beat.beatIndex + 1#4) t.beat.phaseConfirmed)

/-- What a beat event does to the player, where no chord ends with it, be it with a chord held and counting: an output
test that is due starts, a wanted pattern starts anew when the player is silent, plays another or has a restart
pending, and playback with no wanted pattern ends. A test in progress counts its beats, and TEST_END is the beat event
that brings the fourth: the player is SILENT, the sounder off and the beacon dark. The intro count 0 of a pattern
without intro steps that starts out of INTRO, and at TEST_END the sounder level 0 and the step offset left as it was,
are the model's (notes/assumptions/11.md). -/
def Obligations.BeatEventAtThePlayer : Prop :=
  ∀ (after : Nat) (cause : BeatCause) (s : State), s.beatDue cause after → s.chordGoesOn →
    ∃ t, exec (beatCommand after cause) s = .next t
      ∧ t.table = s.table ∧ t.roster = s.roster ∧ t.faults = s.faults ∧ t.library = s.library
      ∧ t.bindings = s.bindings ∧ t.inputs = (s.elapse after).inputs ∧ t.keys = s.keysCounted after
      ∧ t.supply = (s.elapse after).supply ∧ t.scanner = (s.elapse after).scanner
      ∧ t.player.restart = false ∧ t.player.wanted = s.player.wanted ∧ t.player.sound = s.player.sound
      ∧ (s.player.testDue = true →
          t.player.mode = .test ∧ t.player.testDue = false ∧ t.player.testBeats = 0 ∧ t.player.current = none
            ∧ (s.drive.quiescent = false →
                t.drive.source = .test ∧ t.drive.tone = 7 ∧ t.drive.envelopeLevel = 1 ∧ t.drive.intensity = 2))
      ∧ (s.player.testDue = false → s.player.mode = .test → s.player.testBeats < 3 →
          t.player.mode = .test ∧ t.player.testBeats = s.player.testBeats + 1)
      ∧ (s.player.testDue = false → s.player.mode = .test → 3 ≤ s.player.testBeats →
          exec (.testEnd after cause) s = .next t
            ∧ t.player = { s.player with mode := .silent, testBeats := 4, restart := false }
            ∧ (s.drive.quiescent = false → t.drive.intensity = 0 ∧ t.drive.beaconLevel = 0
              ∧ (s.drive.source = .test → t.drive.source = .none ∧ t.drive.level = 0)))
      ∧ (s.player.testDue = false → s.player.mode ≠ .test → ∀ w, s.player.wanted = some w →
          t.player.current = some w
            ∧ (s.player.mode = .silent ∨ s.player.current ≠ some w ∨ s.player.restart = true →
                (s.library.intro w = [] → t.player.mode = .cycle ∧ t.player.introCount = 0)
                ∧ (∀ st rest, s.library.intro w = st :: rest → 1 ≤ st.duration →
                    t.player.mode = .intro ∧ t.player.introCount = 1 ∧ t.player.stepOffset = 0
                      ∧ (s.drive.quiescent = false → t.drive.intensity = st.intensity))))
      ∧ (s.player.testDue = false → s.player.mode ≠ .test → s.player.wanted = none →
          t.player.mode = .silent
            ∧ (s.drive.quiescent = false → t.drive.intensity = 0 ∧ t.drive.beaconLevel = 0
                ∧ (s.drive.source ≠ .chirp → t.drive.source = .none)))

/-- The low period of a FOLLOWED or OWN beat. A mark whose time has run is released; the line cannot rise before. A rise
within 8 ms makes it a short mark; one that lasts 8 ms is a bar mark: the index becomes 0, with the bar count one up
unless it was 0 already, and the phase is confirmed. A rise ends the low period and clears a stuck line. The filter shows in a
rise that can come only 2 µs after the line's last edge and after the mark, which is the model's inference
(notes/assumptions/7.md). -/
def Obligations.LowPeriodOfABeat : Prop :=
  ∀ (after : Nat) (s : State),
    (∀ m, s.beat.mark = some m → m.remaining ≤ after →
      exec (.markRelease after) s = .next
        { s.elapse after with beat := { (s.elapse after).beat with mark := none } })
    ∧ (s.beat.measuring = true → (s.elapse after).pins.beatLow = true → s.beat.lock ≠ .halted → 8000 ≤ s.beat.timer + after →
        ∃ t, exec (.barMark after) s = .next t
          ∧ t.beat = { (s.elapse after).beat with
              measuring := false, phaseConfirmed := true, beatIndex := 0#4
              barCount := if s.beat.beatIndex = 0#4 then s.beat.barCount else s.beat.barCount + 1#8
              strayTally := if s.beat.beatIndex = 0#4 then s.beat.strayTally else 0 }
          ∧ t.pins = (s.elapse after).pins ∧ t.table = s.table ∧ t.faults = s.faults
          ∧ t.loop = (s.elapse after).loop ∧ t.player = s.player)
    ∧ (s.beatRiseSeen after →
        (s.beat.lock = .halted ∨ s.beat.measuring = false ∨ s.beat.timer + after < 8000) →
        exec (.beatRise after) s = .next
          (let u := { s.elapse after with
            pins := { (s.elapse after).pins with beatLow := false, beatHeld := 0 }
            beat := { (s.elapse after).beat with lowTimer := 0, measuring := false, stuck := false } }
          if s.beat.stuck then u.withoutFault .beatStuck else u))
    ∧ (¬ s.beatRiseSeen after → exec (.beatRise after) s = .next (s.elapse after))

/-- BEAT low for more than 40 ms is stuck: BEAT_STUCK is set, and a SETTLING or LOCKED unit goes to FREE, a MEMBER to
JOINING, which gives up the frame it is sending with nothing counted, and the message waits again. It is reported once in a
low period, and never in HALTED. -/
def Obligations.BeatLowForFortyMilliseconds : Prop :=
  ∀ (after : Nat) (s : State), s.pins.beatLow = true →
    (s.beat.lock ≠ .halted → s.beat.stuck = false → 40000 < s.beat.lowTimer + after →
      ∃ t, exec (.beatStuck after) s = .next t ∧ t.faults = s.faults ||| 0x20#8 ∧ t.beat.stuck = true
        ∧ (s.beat.lock ≠ .free → t.beat.lock = .free ∧ t.beat.mark = none ∧ t.beat.phaseConfirmed = false
            ∧ t.beat.settle = 0 ∧ t.beat.freeBeats = 0 ∧ t.startup.membership = 0
            ∧ t.startup.station = (if s.startup.station = .member then .joining else s.startup.station)
            ∧ (s.startup.station = .member → ∀ r, s.loop.tx = some r → r.outcome = .sending →
              t.loop.tx = some { r with bitTimer := r.bitTimer + after, outcome := .abandoned }
                ∧ t.queue.messages = s.queue.messages.map fun m => { m with onLine := false }))
        ∧ (s.beat.lock = .free → t.beat = { (s.elapse after).beat with stuck := true }
            ∧ t.startup = (s.elapse after).startup ∧ t.loop = (s.elapse after).loop)
        ∧ t.table = s.table ∧ t.roster = s.roster ∧ t.counters = s.counters ∧ t.player = s.player)
    ∧ (s.beat.lock = .halted ∨ s.beat.stuck = true ∨ s.beat.lowTimer + after ≤ 40000 →
        exec (.beatStuck after) s = .next (s.elapse after))

/-- Each eighth mark plays: an eighth mark within a beat, which counts the eighths, and a beat, which is eighth 0. In
CYCLE it hands the drives the step at the position that the bar count, the beat index and the eighth give, with the
level its envelope gives at the offset in it, where a beat starts neither a test nor a pattern. A tone that goes on
keeps its wave, and a new level waits for a period start; another tone, a start from low and a fall to low begin a new
wave at once. A tone cuts a chirp off, and a rest is stored behind it, which a SILENT mark discards. The beacon's wave
goes on from one lit level to another in the same way. Within a beat, SILENT hands the beacon 0, TEST hands the test
tone, and playback without a wanted pattern ends; the table and every report are untouched. A held chord counts the
mark; the mark that ends one is stated apart. That SILENT and the end of playback leave the player's step offset as it
was is the model's inference (notes/assumptions/11.md); that a new wave begins at phase 0 of a phase counted in
millionths of a period at whole microseconds is its choice (17.md). -/
def Obligations.EighthMarkPlaysThePosition : Prop :=
  ∀ (after : Nat) (cause : EighthCause) (s : State), s.eighthIsDue cause after → s.chordGoesOn →
    ∃ t, exec (eighthCommand after cause) s = .next t
      ∧ t.beat.eighth = (if cause = .mark then s.beat.eighth + 1 else 0)
      ∧ t.table = s.table ∧ t.faults = s.faults ∧ t.roster = s.roster ∧ t.keys = s.keysCounted after
      ∧ (s.player.mode = .cycle → s.player.wanted ≠ none → ∀ p, s.player.current = some p →
          (cause = .mark ∨ s.player.testDue = false ∧ s.player.restart = false ∧ s.player.wanted = some p) →
          ∀ st offset,
          spanAt (s.library.cycle p)
            ((t.beat.barCount.toNat % s.library.bars p * 16 + t.beat.beatIndex.toNat) * 8 + t.beat.eighth)
              = some (st, offset) →
          let produced : Nat → Nat := fun level => if s.drive.cap then min 1 level else level
          let envelopeLevel : Nat :=
            if st.volume = 0 then 0 else
              match st.envelope with
              | .flat => st.volume
              | .decay => max (st.volume - offset) 1
              | .swell => min (1 + offset) st.volume
          t.player = { s.player with stepOffset := offset }
            ∧ (s.drive.quiescent = false → t.drive.intensity = st.intensity
              ∧ (if s.drive.beaconLevel ≠ 0 ∧ st.intensity ≠ 0 then
                  t.drive.beaconLevel = s.drive.beaconLevel ∧ t.drive.bcnPhase = s.drive.bcnPhase + 1000 * after
                else t.drive.beaconLevel = produced st.intensity ∧ t.drive.bcnPhase = 0)
              ∧ (s.player.sound = false → t.drive.source = s.drive.source ∧ t.drive.level = s.drive.level)
              ∧ (s.player.sound = true → s.drive.source = .chirp → st.tone = 0 ∨ envelopeLevel = 0 →
                  t.drive.source = .chirp ∧ t.drive.tone = s.drive.tone ∧ t.drive.level = s.drive.level
                    ∧ t.drive.chirpTimer = (s.elapse after).drive.chirpTimer
                    ∧ t.drive.sndPhase = (s.elapse after).drive.sndPhase
                    ∧ t.drive.behind = some ⟨st.tone, st.volume, st.envelope, offset⟩)
              ∧ (s.player.sound = true → s.drive.source ≠ .chirp ∨ st.tone ≠ 0 ∧ envelopeLevel ≠ 0 →
                  t.drive.source = .pattern ∧ t.drive.tone = st.tone ∧ t.drive.offset = offset
                    ∧ t.drive.envelopeLevel = envelopeLevel
                    ∧ (s.drive.source = .chirp → t.drive.chirpTimer = none ∧ t.drive.behind = none)
                    ∧ (if s.drive.tone ≠ 0 ∧ s.drive.level ≠ 0 ∧ st.tone = s.drive.tone ∧ t.drive.envelopeLevel ≠ 0 then
                        t.drive.level = s.drive.level
                          ∧ t.drive.sndPhase = s.drive.sndPhase + toneHz st.tone * after
                      else t.drive.level = produced t.drive.envelopeLevel ∧ t.drive.sndPhase = 0))))
      ∧ (cause = .mark →
          t.beat = { (s.elapse after).beat with eighth := s.beat.eighth + 1 }
          ∧ t.queue = s.queue ∧ t.port = s.port ∧ t.loop = (s.elapse after).loop ∧ t.counters = s.counters
          ∧ (s.player.mode = .silent → t.player = s.player
            ∧ (s.drive.quiescent = false → t.drive.intensity = 0 ∧ t.drive.beaconLevel = 0
              ∧ (s.drive.source ≠ .chirp → t.drive.source = .none)
              ∧ (s.drive.source = .chirp → t.drive.source = .chirp ∧ t.drive.behind = none
                ∧ t.drive.level = s.drive.level ∧ t.drive.chirpTimer = (s.elapse after).drive.chirpTimer)))
          ∧ (s.player.mode = .test → t.player = { s.player with stepOffset := s.player.stepOffset + 1 }
            ∧ (s.drive.quiescent = false → t.drive.source = .test ∧ t.drive.tone = 7 ∧ t.drive.envelopeLevel = 1
              ∧ t.drive.intensity = 2 ∧ t.drive.chirpTimer = none ∧ t.drive.behind = none))
          ∧ (s.player.mode = .intro ∨ s.player.mode = .cycle → s.player.wanted = none →
            t.player = { s.player with mode := .silent, current := none, introCount := 0 }))

/-- INTRO plays its steps in order and leaves for CYCLE at the first eighth mark past their total duration; INTRO_END is
that mark, and it plays the cycle at the position the clock gives. A beat is eighth 0, and goes on with the intro where
it starts neither a test nor a pattern. A mark that ends a held chord is stated apart. -/
def Obligations.IntroRunsItsLengthThenTheCycle : Prop :=
  ∀ (after : Nat) (cause : EighthCause) (s : State), s.eighthIsDue cause after → s.chordGoesOn →
    s.player.mode = .intro → s.player.wanted ≠ none → ∀ p, s.player.current = some p →
    (cause = .mark ∨ s.player.testDue = false ∧ s.player.restart = false ∧ s.player.wanted = some p) →
    (∀ st offset, spanAt (s.library.intro p) s.player.introCount = some (st, offset) →
      ∃ t, exec (eighthCommand after cause) s = .next t
        ∧ t.player = { s.player with introCount := s.player.introCount + 1, stepOffset := offset }
        ∧ (s.drive.quiescent = false → t.drive.intensity = st.intensity))
    ∧ (((s.library.intro p).map Step.duration).sum ≤ s.player.introCount →
      ∃ t, exec (eighthCommand after cause) s = .next t ∧ exec (.introEnd after cause) s = .next t
        ∧ t.player.mode = .cycle ∧ t.player.introCount = 0 ∧ t.player.current = some p
        ∧ t.player.wanted = s.player.wanted ∧ t.beat.eighth = (if cause = .mark then s.beat.eighth + 1 else 0)
        ∧ (∀ st offset, spanAt (s.library.cycle p)
            ((t.beat.barCount.toNat % s.library.bars p * 16 + t.beat.beatIndex.toNat) * 8 + t.beat.eighth)
              = some (st, offset) →
            t.player.stepOffset = offset ∧ (s.drive.quiescent = false → t.drive.intensity = st.intensity)))

/-- Every beat event ages every RAISE and CLEAR by one; one whose age reaches 16 beats leaves the queue and is counted, and
SILENCE and RESTORE do neither. MESSAGE_EXPIRY is a beat event at which one expires, and comes about at no other. A
frame still being sent at a beat is abandoned, and its message waits again: it follows from the slot state that a beat clears
wherever it falls, which is the model's inference (notes/assumptions/10.md). -/
def Obligations.MessagesExpireAtSixteenBeats : Prop :=
  ∀ (after : Nat) (cause : BeatCause) (s : State), s.beatDue cause after →
    (s.keys.state = .chord → s.keys.hold < 63) → s.counters.txExpired ≤ 255 →
    let aging (m : Message) : Bool := m.news != .silence && m.news != .restore
    let expires (m : Message) : Bool := aging m && decide (15 ≤ m.age)
    let cut : Bool := match s.loop.tx with | some r => r.outcome == .sending | none => false
    ∃ t, exec (beatCommand after cause) s = .next t
      ∧ t.queue.messages = (s.queue.messages.filter fun m => !expires m).map (fun m =>
          { m with age := if aging m then m.age + 1 else m.age, onLine := if cut then false else m.onLine })
      ∧ t.counters.txExpired = min 255 (s.counters.txExpired + (s.queue.messages.filter expires).length)
      ∧ t.table = s.table ∧ t.roster = s.roster ∧ t.faults = s.faults
      ∧ ((∃ m ∈ s.queue.messages, expires m = true) → exec (.messageExpiry after cause) s = .next t)
      ∧ ((∀ m ∈ s.queue.messages, expires m = false) → exec (.messageExpiry after cause) s = .next (s.elapse after))

/-- MEMBERSHIP is the second index of 0 that a JOINING station reports while LOCKED, at a beat or at a bar mark: the
station is MEMBER. The first one only counts. -/
def Obligations.SecondIndexZeroMakesAMember : Prop :=
  ∀ (after : Nat) (s : State), s.startup.station = .joining → s.beat.lock = .locked →
    (∀ cause, s.beat.beatIndex = 15#4 → s.beatDue cause after →
      ∃ t, exec (beatCommand after cause) s = .next t ∧ t.startup.membership = s.startup.membership + 1
        ∧ t.beat.beatIndex = 0#4 ∧ t.beat.barCount = s.beat.barCount + 1#8
        ∧ (s.startup.membership = 0 → t.startup.station = .joining)
        ∧ (1 ≤ s.startup.membership →
            exec (.membership after (.beat cause)) s = .next t ∧ t.startup.station = .member ∧ t.port.attn = true))
    ∧ (s.beat.beatIndex ≠ 0#4 → s.beat.measuring = true → (s.elapse after).pins.beatLow = true → 8000 ≤ s.beat.timer + after →
      1 ≤ s.startup.membership →
      exec (.membership after .barMark) s = .next
        { s.elapse after with
          beat := { (s.elapse after).beat with
            beatIndex := 0#4, barCount := s.beat.barCount + 1#8, strayTally := 0, phaseConfirmed := true
            measuring := false }
          startup := { s.startup with membership := s.startup.membership + 1, station := .member }
          port := { s.port with attn := true } })

/-- A held chord counts eighth marks; the one that brings its count to 64 is RESTORE_ACTION: the keys are spent, a restore
is originated (own entries of HELD inputs and orphans leave the table, every other foreign entry is PROVISIONAL, HELD
inputs are IDLE, MISSING stations UNKNOWN, and a RESTORE waits to be sent), and a chirp is asked for: at a mark within the
beat it begins, or starts its timer again, where the player is SILENT and the sounder free, and it is dropped where pattern
tone or test tone is handed with the mark. Whether the player takes the mark before or
after it is open, and nothing stated here depends on it (notes/assumptions/5.md). -/
def Obligations.ChordOfSixtyFourEighthsRestores : Prop :=
  ∀ (after : Nat) (cause : EighthCause) (s : State), s.eighthIsDue cause after → s.keys.state = .chord →
    (s.keys.hold < 63 → ∃ t, exec (eighthCommand after cause) s = .next t
      ∧ t.keys = { (s.elapse after).keys with hold := s.keys.hold + 1 } ∧ t.table = s.table ∧ t.roster = s.roster
      ∧ t.inputs = (s.elapse after).inputs ∧ (cause = .mark → t.queue = s.queue))
    ∧ (63 ≤ s.keys.hold →
        ∃ t, exec (eighthCommand after cause) s = .next t ∧ exec (.restoreAction after cause) s = .next t
          ∧ t.keys.state = .spent
          ∧ t.table = s.table.filterMap (fun e =>
              if e.origin = s.startup.ownAddr then (if (s.input e.input).request = .held then none else some e)
              else if e.state = .orphaned then none else some { e with state := .provisional, miss := 0 })
          ∧ t.inputs = (s.elapse after).inputs.map (fun x =>
              if x.request = .held then { x with request := .idle, posted := none } else x)
          ∧ t.roster = s.roster.map (fun e =>
              if e.state = .missing then { e with state := .unknown, miss := 0 } else e)
          ∧ hasFault t.faults .addressConflict = false ∧ hasFault t.faults .tableOverflow = false
          ∧ (s.queue.messages.length < 6 → ∃ m ∈ t.queue.messages, m.news = .restore)
          ∧ (cause = .mark → s.drive.quiescent = false →
            (s.player.mode = .silent → s.drive.source = .none ∨ s.drive.source = .chirp →
              t.drive.source = .chirp ∧ t.drive.chirpTimer = some 0
                ∧ (s.drive.source = .none → t.drive.tone = 10 ∧ t.drive.envelopeLevel = 1))
            ∧ (s.player.mode = .test → s.table = [] →
              t.drive.source = .test ∧ t.drive.tone = 7 ∧ t.drive.chirpTimer = none)
            ∧ (s.player.mode = .cycle → s.player.wanted ≠ none → s.player.sound = true →
              (∃ e ∈ s.table, e.silenced = false ∧ (if e.origin = s.startup.ownAddr then (s.input e.input).request ≠ .held
                else e.state ≠ .orphaned)) → ∀ p, s.player.current = some p → ∀ st offset,
              spanAt (s.library.cycle p)
                ((s.beat.barCount.toNat % s.library.bars p * 16 + s.beat.beatIndex.toNat) * 8 + (s.beat.eighth + 1))
                  = some (st, offset) → st.tone ≠ 0 → st.volume ≠ 0 →
              t.drive.source = .pattern ∧ t.drive.tone = st.tone)))

/-! ### Slots and sending (chapters 3 and 4) -/

/-- A slot begins at its time in the beat with the owner the beat index gives it, and in the own owned slot a MEMBER that
hears the line quiet begins its STATUS: the own clock and faults, and its own entries in the order of their inputs. The moment
from which the station's own byte is timed is the model's choice (notes/assumptions/19.md). -/
def Obligations.SlotsBeginWithTheirOwner : Prop :=
  ∀ (after : Nat) (s : State), s.running = true →
    ∀ c ∈ [(Part.mark, Slot.openSlot, 20000, (none : Option Nat)),
        (.gap1, .owned1, 65000, some (2 * s.beat.beatIndex.toNat)),
        (.gap2, .owned2, 145000, some (2 * s.beat.beatIndex.toNat + 1))],
      s.loop.part = c.1 → c.2.2.1 ≤ s.loop.slotTimer + after →
      let items := (List.range 12).filterMap fun i =>
        (s.table.find? fun e => e.origin == s.startup.ownAddr && e.input == i).map fun e =>
          (⟨e.input, e.cue, e.priority, e.latched, e.silenced⟩ : Item)
      let status : Frame := ⟨.status, s.startup.ownAddr, s.supply.condition == .low, s.faults != 0#8, s.beat.barCount,
        s.beat.beatIndex, s.faults, items⟩
      let sends := c.2.2.2 = some s.startup.ownAddr ∧ s.startup.station = .member ∧ s.pins.dataLow = false
        ∧ s.loop.rx = none ∧ s.loop.slotTimer + after ≤ c.2.2.1 + 4000
      exec (.slotBegin after) s = .next
        { s.elapse after with
          loop := { (s.elapse after).loop with
            part := c.2.1.part
            owner := c.2.2.2
            tx := if sends then some ⟨c.2.1, status.bytes, 0, 0, 0, false, .sending⟩ else (s.elapse after).loop.tx } }

/-- The station's one attempt in the open slot, at the moment of its own 20 ms and at no other: a MEMBER that hears
the line quiet begins the frame of its head message, which is then on the line. With an empty queue or with the line
in use the moment passes and nothing is sent in that slot. A start bit that it may align to, not yet confirmed, is
waited for; where that one turns out a disturbance, the slot too passes with nothing sent: both are the model's
inference (notes/assumptions/10.md). That the command has no effect away from its moment is the model's reading of
when an event comes about (notes/assumptions/3.md). The moment
from which the station's own byte is timed is the model's choice (notes/assumptions/19.md). -/
def Obligations.OneAttemptInTheOpenSlot : Prop :=
  ∀ (after : Nat) (s : State),
    let at20 := s.startup.station = .member ∧ s.loop.attempt = .ahead ∧ (s.loop.part = .mark ∨ s.loop.part = .openSlot)
      ∧ s.loop.slotTimer + after = 20000
    let past : State := { s.elapse after with loop := { (s.elapse after).loop with attempt := .past } }
    (¬ at20 → exec (.openSlotAttempt after) s = .next (s.elapse after))
    ∧ (at20 → s.queue.messages = [] → exec (.openSlotAttempt after) s = .next past)
    ∧ (at20 → s.pins.dataLow = false → s.loop.rx = none → ∀ m rest, s.queue.messages = m :: rest →
      exec (.openSlotAttempt after) s = .next
        { past with
          loop := { past.loop with
            tx := some ⟨.openSlot, (s.messageAsFrame m.news).bytes, 0, 0, 0, false, .sending⟩ }
          queue := { s.queue with messages := { m with onLine := true } :: rest } })
    ∧ (at20 → s.queue.messages ≠ [] → s.pins.dataLow = true ∨ s.loop.rx ≠ none →
      exec (.openSlotAttempt after) s = .next
        (if s.pins.dataLow = true ∧ s.line.phase = .start ∧ s.loop.rx = none ∧ s.loop.placed = false
            ∧ s.line.fallAt.any fun f => decide (15000 ≤ f ∧ f < 20000) then
          { s.elapse after with loop := { (s.elapse after).loop with attempt := .waiting } }
        else past))

/-- The end of a slot clears the slot's state, ends a frame still being received in it, and brings the owner's pass. A
STATUS heard makes the owner PRESENT; without one it moves UNKNOWN, PRESENT, LATE, MISSING, and its entries of the
table with a first miss are kept and with a second one removed, or ORPHANED when they are latched and it is MISSING.
PEER_MISSING then stands exactly while any entry of the roster is MISSING. The own slot's pass only stamps the own
entry. -/
def Obligations.SlotEndBringsThePass : Prop :=
  ∀ (after : Nat) (s : State), s.running = true → s.counters.Ok →
    ∀ c ∈ [(Part.openSlot, Slot.openSlot, 60000, Part.gap1), (.owned1, .owned1, 140000, .gap2),
        (.owned2, .owned2, 220000, .quiet)],
      s.loop.part = c.1 → c.2.2.1 ≤ s.loop.slotTimer + after →
      let cut := s.loop.rx.bind Reception.slot = some c.2.1
      ∃ t, exec (.slotEnd after) s = .next t
        ∧ t.loop = ⟨s.loop.slotTimer + after, c.2.2.2, none, false, false, .ahead, none,
            if cut then none else s.loop.rx, none⟩
        ∧ t.counters = (if cut then s.counters.put .rxErr (min 255 (s.counters.rxErr + 1)) else s.counters)
        ∧ (s.loop.owner = none ∨ s.startup.station = .joining →
            t.roster = s.roster ∧ t.table = s.table ∧ t.faults = s.faults)
        ∧ (s.startup.station = .member → s.loop.owner = some s.startup.ownAddr →
            t.roster = s.roster.modify s.startup.ownAddr (fun e =>
              { e with lastHeard := some (s.beat.barCount, s.beat.beatIndex) })
            ∧ t.table = s.table ∧ t.faults = (if s.loop.conflictSeen then s.faults ||| 0x02#8 else s.faults))
        ∧ (s.startup.station = .member → ∀ o, s.loop.owner = some o → o ≠ s.startup.ownAddr →
            t.faults &&& 0xFE#8 = s.faults &&& 0xFE#8
            ∧ (s.FaultsOk → hasFault t.faults .peerMissing = t.roster.any fun e => e.state == .missing)
            ∧ (∀ h, s.loop.heard = some h →
              t.roster = s.roster.modify o (fun e => if e.state = .self then e else
                ⟨.present, 0, some (s.beat.barCount, s.beat.beatIndex), h.faultByte, h.supplyLow, h.anyFault, true⟩)
              ∧ t.table = s.table)
            ∧ (s.loop.heard = none →
              t.roster = s.roster.modify o (fun e =>
                match e.state with
                | .unknown => { e with miss := 0 }
                | .present => { e with state := .late, miss := 1 }
                | .late => { e with state := .missing, miss := 2 }
                | .missing => { e with miss := 2 }
                | .self => e)
              ∧ t.table = s.table.filterMap (fun e =>
                if e.origin ≠ o ∨ 2 ≤ e.miss then some e
                else if e.miss = 0 then some { e with miss := 1 }
                else if e.state = .orphaned then some { e with miss := 2 }
                else if e.state = .active ∧ e.latched = true ∧ peerState t.roster o = .missing then
                  some { e with miss := 2, state := .orphaned }
                else none)))

/-- FRAME_START is the sample that confirms the first start bit of a frame. The frame belongs to the slot within whose
acceptance span its fall lies, if that slot holds none yet. A contender that hears another's start before its own 20
ms begins its own head message over it, aligned to it. Where a bit of the station's own frame is due at the same
sample, as the first start bit of its own frame is, it is read back first. That a start bit which fell before a beat
has no slot in the new beat, and begins a misplaced frame, is the model's inference, and that a contender's MEMBER
state, queue and frame header count as they stand at the confirmation is its choice (notes/assumptions/10.md), and so is
the moment from which its own byte is timed (19.md). -/
def Obligations.FrameStartPlacesTheFrame : Prop :=
  ∀ (after : Nat) (s : State), s.running = true → s.line.phase = .start → 50 ≤ s.line.byteTimer + after →
    s.pins.dataLow = true → s.loop.rx = none →
    let heard : State := readBack (s.elapse after)
    let slot : Option Slot :=
      if s.loop.placed then none
      else
        match s.line.fallAt with
        | none => none
        | some f =>
          if 15000 ≤ f ∧ f ≤ 29000 then some .openSlot
          else if 60000 ≤ f ∧ f ≤ 74000 then some .owned1
          else if 140000 ≤ f ∧ f ≤ 154000 then some .owned2
          else none
    let begun : State :=
      { heard with
        line := { (s.elapse after).line with phase := .bits, bitCount := 0, shift := 0#8 }
        loop := { heard.loop with
          rx := some ⟨slot, s.line.fallAt, [], true⟩, placed := s.loop.placed || slot.isSome } }
    ((∀ r, s.loop.tx = some r → r.outcome ≠ .sending ∨ r.sampled = true ∨ r.bytes.length ≤ r.byte
        ∨ r.bitTimer + after < 100 * r.bit + 50) →
      heard = s.elapse after)
    ∧ (∀ r, s.loop.tx = some r → r.outcome = .sending → r.sampled = false → r.bit = 0 → r.byte < r.bytes.length →
      50 ≤ r.bitTimer + after →
      heard = { s.elapse after with
        loop := { (s.elapse after).loop with tx := some { r with bitTimer := r.bitTimer + after, sampled := true } } })
    ∧ (s.startup.station ≠ .member ∨ s.queue.messages = [] ∨ s.loop.placed = true ∨ s.loop.attempt = .past
        ∨ s.line.fallAt = none →
      exec (.frameStart after) s = .next begun ∧ exec (.bitSample after) s = .next begun)
    ∧ (∀ f, s.line.fallAt = some f → f < 15000 ∨ 20000 ≤ f →
      exec (.frameStart after) s = .next begun ∧ exec (.bitSample after) s = .next begun)
    ∧ (∀ f, s.line.fallAt = some f → 15000 ≤ f → f < 20000 → s.startup.station = .member → s.loop.placed = false →
      s.loop.attempt ≠ .past → ∀ m rest, heard.queue.messages = m :: rest →
      exec (.frameStart after) s = .next
        { begun with
          loop := { begun.loop with
            attempt := .past
            tx := some ⟨.openSlot, (heard.messageAsFrame m.news).bytes, 0, 0, s.line.byteTimer + after, true, .sending⟩ }
          queue := { heard.queue with messages := { m with onLine := true } :: rest } })

/-! ### Frames received (chapters 2, 3 and 5) -/

/-- A valid RAISE at the end of its frame. The entry of its key is refreshed in place of the one the table holds, which
keeps its stamp and its silenced flag while the cue number stays; or it is inserted; a full table gives up its
last-ranked foreign entry for one of higher rank, else drops the newcomer, and counts either. What the table hands on when
its head changes follows at once: the wanted pattern and the restart flag, an output test ended, and ATTN marked. A RAISE that
carries the own address changes no entry and is an address conflict. The level 0 of a sounder whose test tone is withdrawn
is the model's choice (notes/assumptions/11.md). -/
def Obligations.RaiseFrameRefreshesOrInserts : Prop :=
  ∀ (after : Nat) (slot : Slot) (f : Frame) (s : State), s.framesEnd slot f after → f.kind = .raise →
    TableOk s.table → s.counters.Ok →
    ∃ t, exec (.raiseFrame after) s = .next t ∧ exec (.bitSample after) s = .next t
      ∧ TableOk t.table ∧ t.loop.rx = none ∧ t.line.phase = .idle ∧ t.beat = (s.elapse after).beat
      ∧ t.queue = s.queue ∧ t.inputs = (s.elapse after).inputs ∧ t.keys = (s.elapse after).keys
      ∧ t.startup = (s.elapse after).startup ∧ t.library = s.library
      ∧ (f.sender = s.startup.ownAddr →
          t.table = s.table ∧ t.faults = s.faults ||| 0x02#8 ∧ t.roster = s.roster ∧ t.player = s.player)
      ∧ (f.sender ≠ s.startup.ownAddr →
          s.handsOn t
          ∧ t.roster = (if s.startup.station = .member then
            s.roster.modify f.sender (fun e => { e with supplyLow := f.supplyLow, anyFault := f.anyFault })
            else s.roster)
          ∧ ∀ i, f.items = [i] →
            let hasKey (e : Entry) : Bool := e.origin == f.sender && e.input == i.input
            let new : Entry := ⟨i.cue, i.priority, f.sender, i.input, .active, i.latched, i.silenced, 0,
              s.beat.barCount, s.beat.beatIndex⟩
            (∀ e ∈ s.table, hasKey e = true →
              t.table.Perm ((if e.cue = i.cue then
                  { new with silenced := e.silenced || i.silenced, stampBar := e.stampBar, stampBeat := e.stampBeat }
                else new) :: s.table.filter fun x => !hasKey x)
              ∧ t.faults = s.faults ∧ t.counters = s.counters)
            ∧ ((∀ e ∈ s.table, hasKey e = false) → s.table.length < 16 →
              t.table.Perm (new :: s.table) ∧ t.faults = s.faults ∧ t.counters = s.counters)
            ∧ ((∀ e ∈ s.table, hasKey e = false) → 16 ≤ s.table.length →
              t.faults = s.faults ||| 0x80#8 ∧ t.counters = s.counters.put .tableOvf (min 255 (s.counters.tableOvf + 1))
              ∧ ∀ l, (s.table.filter fun e => e.origin != s.startup.ownAddr).getLast? = some l →
                if new.before l then t.table.Perm (new :: s.table.erase l) else t.table = s.table))

/-- A valid CLEAR at the end of its frame removes the sender's entry of the input it names, and no other, and a head that
changes with it is handed on to the player and marks ATTN. The level 0 of a sounder without a source is the model's choice
(notes/assumptions/11.md). -/
def Obligations.ClearFrameRemovesTheEntry : Prop :=
  ∀ (after : Nat) (slot : Slot) (f : Frame) (s : State), s.framesEnd slot f after → f.kind = .clear →
    ∀ i, f.items = [i] →
    ∃ t, exec (.clearFrame after) s = .next t ∧ exec (.bitSample after) s = .next t
      ∧ t.table = (if f.sender = s.startup.ownAddr then s.table
          else s.table.filter fun e => !(e.origin == f.sender && e.input == i.input))
      ∧ (f.sender ≠ s.startup.ownAddr → s.handsOn t)
      ∧ t.faults = (if f.sender = s.startup.ownAddr then s.faults ||| 0x02#8 else s.faults)
      ∧ t.roster = (if f.sender ≠ s.startup.ownAddr ∧ s.startup.station = .member then
          s.roster.modify f.sender (fun e => { e with supplyLow := f.supplyLow, anyFault := f.anyFault })
          else s.roster)
      ∧ t.loop.rx = none ∧ t.line.phase = .idle ∧ t.beat = (s.elapse after).beat ∧ t.queue = s.queue
      ∧ t.inputs = (s.elapse after).inputs ∧ t.keys = (s.elapse after).keys ∧ t.counters = s.counters
      ∧ t.startup = (s.elapse after).startup

/-- A valid STATUS that this station did not send, at the end of its frame. Its clock is adopted by a unit that is not
LOCKED or has no confirmed phase, and its bar count by a LOCKED one that lies behind; its sender's entries become
exactly the items it lists, each refreshed or new, while every other entry stays (where there is room). Where there is
not, the items are taken one by one under the capacity rule, and each entry lost is counted and sets TABLE_OVERFLOW. A
changed head is handed on to the player and marks ATTN. The slot owner's report is kept for the pass, and a STATUS of
any other sender is misplaced. One that carries the own address changes no entry and is an address conflict, which the
slot remembers. Whether an inserted entry takes the station's clock from before or after the adoption is open
(notes/assumptions/5.md), and the level 0 of a sounder without a source is the model's choice (11.md). -/
def Obligations.StatusFrameReplacesTheSendersEntries : Prop :=
  ∀ (after : Nat) (slot : Slot) (f : Frame) (s : State), s.framesEnd slot f after → f.kind = .status →
    s.beat.lock ≠ .halted → TableOk s.table → s.counters.Ok →
    ∃ t, exec (.statusFrame after) s = .next t ∧ exec (.bitSample after) s = .next t
      ∧ TableOk t.table ∧ t.loop.rx = none ∧ t.roster = s.roster ∧ t.queue = s.queue
      ∧ t.inputs = (s.elapse after).inputs ∧ t.keys = (s.elapse after).keys
      ∧ (let ahead := (f.bar - s.beat.barCount).toNat
        let b := (s.elapse after).beat
        t.beat =
          (if s.beat.lock = .locked ∧ s.beat.phaseConfirmed = true then
            (if 1 ≤ ahead ∧ ahead ≤ 127 ∨ ahead = 128 ∧ f.sender < s.startup.ownAddr then { b with barCount := f.bar }
            else b)
          else { b with barCount := f.bar, beatIndex := f.beat, phaseConfirmed := true }))
      ∧ t.counters.misplaced =
          (if s.loop.owner = some f.sender then s.counters.misplaced else min 255 (s.counters.misplaced + 1))
      ∧ t.loop.heard =
          (if s.loop.owner = some f.sender ∧ f.sender ≠ s.startup.ownAddr then
            some ⟨f.faultByte, f.supplyLow, f.anyFault⟩ else s.loop.heard)
      ∧ (f.sender = s.startup.ownAddr →
          t.table = s.table ∧ t.faults = s.faults ||| 0x02#8 ∧ t.loop.conflictSeen = true)
      ∧ (f.sender ≠ s.startup.ownAddr → t.loop.conflictSeen = s.loop.conflictSeen ∧ s.handsOn t
          ∧ ∃ stamp ∈ [(s.beat.barCount, s.beat.beatIndex), (t.beat.barCount, t.beat.beatIndex)], ∃ lost,
            ItemsTaken s.startup.ownAddr f.sender stamp f.items
              (s.table.filter fun e => e.origin != f.sender || f.items.any fun i => i.input == e.input) t.table lost
            ∧ t.counters.tableOvf = min 255 (s.counters.tableOvf + lost)
            ∧ t.faults = (if lost = 0 then s.faults else s.faults ||| 0x80#8))
      ∧ (f.sender ≠ s.startup.ownAddr → s.table.length + f.items.length ≤ 16 →
          t.faults = s.faults
          ∧ (t.table.filter fun e => e.origin != f.sender) = s.table.filter (fun e => e.origin != f.sender)
          ∧ ((f.items.map Item.input).Nodup →
            ∃ stamp ∈ [(s.beat.barCount, s.beat.beatIndex), (t.beat.barCount, t.beat.beatIndex)],
              (t.table.filter fun e => e.origin == f.sender).Perm (f.items.map fun i =>
                let new : Entry := ⟨i.cue, i.priority, f.sender, i.input, .active, i.latched, i.silenced, 0,
                  stamp.1, stamp.2⟩
                match s.table.find? fun e => e.origin == f.sender && e.input == i.input with
                | some e =>
                  if e.cue = i.cue then
                    { new with silenced := e.silenced || i.silenced, stampBar := e.stampBar, stampBeat := e.stampBeat }
                  else new
                | none => new)))

/-- A valid SILENCE of another station silences every entry at the end of its frame, and the pattern's sound stops. One
that carries the own address is applied too, and is an address conflict. The sounder level 0 of a source that becomes NONE is
the model's choice (notes/assumptions/11.md). A rest stored behind a chirp is discarded with the sound, and the chirp runs on.
A MEMBER's roster keeps the two flags of another station's SILENCE. -/
def Obligations.SilenceFrameSilencesEveryEntry : Prop :=
  ∀ (after : Nat) (slot : Slot) (f : Frame) (s : State), s.framesEnd slot f after → f.kind = .silence →
    ∃ t, exec (.silenceFrame after) s = .next t ∧ exec (.bitSample after) s = .next t
      ∧ t.table = s.table.map (fun e => { e with silenced := true }) ∧ t.player.sound = false
      ∧ t.player = { s.player with sound := false }
      ∧ (s.player.sound = true → s.player.mode = .intro ∨ s.player.mode = .cycle → s.drive.source = .pattern →
          t.drive.source = .none ∧ t.drive.level = 0 ∧ t.drive.intensity = s.drive.intensity
            ∧ t.drive.beaconLevel = s.drive.beaconLevel)
      ∧ (s.player.sound = true → s.player.mode = .intro ∨ s.player.mode = .cycle → s.drive.source = .chirp →
          t.drive = { (s.elapse after).drive with behind := none })
      ∧ t.roster = (if f.sender ≠ s.startup.ownAddr ∧ s.startup.station = .member then
          s.roster.modify f.sender (fun e => { e with supplyLow := f.supplyLow, anyFault := f.anyFault })
          else s.roster)
      ∧ t.faults = (if f.sender = s.startup.ownAddr then s.faults ||| 0x02#8 else s.faults)
      ∧ t.loop.rx = none ∧ t.beat = (s.elapse after).beat ∧ t.queue = s.queue ∧ t.inputs = (s.elapse after).inputs
      ∧ t.keys = (s.elapse after).keys ∧ t.counters = s.counters

/-- A valid RESTORE that this station did not send, at the end of its frame: own entries of HELD inputs and ORPHANED
entries go, every other foreign entry is PROVISIONAL with miss count 0; a HELD input is IDLE and its waiting RAISE is
withdrawn; MISSING stations are UNKNOWN; ADDRESS_CONFLICT, TABLE_OVERFLOW and PEER_MISSING are clear. A changed head
is handed on to the player and marks ATTN; the level 0 of a sounder without a source is the model's choice
(notes/assumptions/11.md). One that carries the own address is applied too, and is an address conflict; whether the
conflict comes before or after the restore that clears it is open (notes/assumptions/5.md). -/
def Obligations.RestoreFrameRestores : Prop :=
  ∀ (after : Nat) (slot : Slot) (f : Frame) (s : State), s.framesEnd slot f after → f.kind = .restore → s.FaultsOk →
    ∃ t, exec (.restoreFrame after) s = .next t ∧ exec (.bitSample after) s = .next t
      ∧ t.table = s.table.filterMap (fun e =>
          if e.origin = s.startup.ownAddr then (if (s.input e.input).request = .held then none else some e)
          else if e.state = .orphaned then none else some { e with state := .provisional, miss := 0 })
      ∧ t.inputs = (s.elapse after).inputs.map (fun x =>
          if x.request = .held then { x with request := .idle, posted := none } else x)
      ∧ t.queue.messages = s.queue.messages.filter (fun m =>
          match m.news with
          | .raise i _ => (s.input i).request != .held
          | .clear _ _ | .silence | .restore => true)
      ∧ s.handsOn t
      ∧ (f.sender ≠ s.startup.ownAddr → t.faults = s.faults &&& 0x7C#8)
      ∧ (f.sender = s.startup.ownAddr → t.faults ∈ [s.faults &&& 0x7C#8, (s.faults &&& 0x7C#8) ||| 0x02#8])
      ∧ (let restored := s.roster.map fun e => if e.state = .missing then { e with state := .unknown, miss := 0 } else e
        t.roster = (if s.startup.station = .member ∧ f.sender ≠ s.startup.ownAddr then
          restored.modify f.sender (fun e => { e with supplyLow := f.supplyLow, anyFault := f.anyFault }) else restored))
      ∧ t.beat = (s.elapse after).beat ∧ t.keys = (s.elapse after).keys ∧ t.counters = s.counters

/-- A gap of more than one bit time ends the frame in progress before it is whole: it is counted as a receive error when
it was placed, as misplaced when not, and the receiver is idle. That the bit count and the line's other fields stay
as they were is the model's choice (notes/assumptions/11.md). -/
def Obligations.GapEndsAFrame : Prop :=
  ∀ (after : Nat) (s : State), s.counters.Ok → s.line.phase = .gap →
    100 < s.line.gapTimer + (after - s.line.gapLead) →
    let idle : State := { s.elapse after with line := { (s.elapse after).line with phase := .idle, fromGap := false } }
    (s.loop.rx = none → exec (.gapTimeout after) s = .next idle)
    ∧ ∀ r, s.loop.rx = some r →
      exec (.gapTimeout after) s = .next (State.counted (if r.slot = none then .misplaced else .rxErr)
        { idle with loop := { idle.loop with rx := none } })

/-! ### The DATA line (chapter 11) -/

/-- A sent bit that reads back at the other level ends the sending at once. A recessive bit read as dominant in the first
two bytes of an open-slot frame is a lost arbitration, later or in an owned slot an address conflict; a dominant bit
read as recessive is a fault of the line. The message goes back to waiting. READ_BACK_MISMATCH is the whole sample, with
what the receiver does at it. The moment
from which the station's own byte is timed is the model's choice (notes/assumptions/19.md). -/
def Obligations.ReadBackMismatchAbandons : Prop :=
  ∀ (after : Nat) (s : State), s.counters.Ok →
    ∀ r, s.loop.tx = some r → r.outcome = .sending → r.sampled = false → r.byte < r.bytes.length →
    100 * r.bit + 50 ≤ r.bitTimer + after →
    let recessive := bitLevel (r.bytes.getD r.byte 0#8) r.bit
    recessive = s.pins.dataLow →
    ∃ t, exec (.readBackMismatch after) s = .next t ∧ exec (.bitSample after) s = .next t
      ∧ ((s.line.phase = .start → s.pins.dataLow = false) →
        t.loop.tx = some { r with bitTimer := r.bitTimer + after, outcome := .abandoned })
      ∧ (s.line.phase ≠ .stop → (s.line.phase = .start → s.pins.dataLow = false) →
        t.loop = { (s.elapse after).loop with
            tx := some { r with bitTimer := r.bitTimer + after, outcome := .abandoned } }
        ∧ t.queue = { s.queue with messages := s.queue.messages.map fun m => { m with onLine := false } }
        ∧ t.counters = (if recessive = true ∧ r.slot = .openSlot ∧ r.byte ≤ 1 then
            s.counters.put .arbLoss (min 255 (s.counters.arbLoss + 1)) else s.counters)
        ∧ t.faults = (if recessive = false then s.faults ||| 0x40#8
            else if r.slot = .openSlot ∧ r.byte ≤ 1 then s.faults else s.faults ||| 0x02#8)
        ∧ t.table = s.table ∧ t.roster = s.roster ∧ t.beat = (s.elapse after).beat ∧ t.player = s.player)

/-- The clean stop bit of the last byte completes the frame: the record shows COMPLETE, a message leaves the queue from
the place it holds, and DATA_LINE is clear. The station's own frame, received whole at that stop bit, is its own: no entry,
input or flag of the roster changes, nothing is a conflict, and only the clock of its own STATUS is offered for
adoption. The moment
from which the station's own byte is timed is the model's choice (notes/assumptions/19.md). -/
def Obligations.CleanStopBitCompletesTheFrame : Prop :=
  ∀ (after : Nat) (s : State), ∀ r, s.loop.tx = some r → r.outcome = .sending → r.sampled = false → r.bit = 9 →
    r.byte + 1 = r.bytes.length → 950 ≤ r.bitTimer + after → s.pins.dataLow = false →
    ∃ t, exec (.frameComplete after) s = .next t ∧ exec (.bitSample after) s = .next t
      ∧ t.loop.tx = some { r with bitTimer := r.bitTimer + after, sampled := true, outcome := .complete }
      ∧ t.queue.messages =
          (if r.slot = .openSlot then s.queue.messages.filter fun m => !m.onLine else s.queue.messages)
      ∧ hasFault t.faults .dataLine = false
      ∧ (s.line.phase ≠ .stop → t.faults = s.faults &&& 0xBF#8 ∧ t.table = s.table ∧ t.roster = s.roster
          ∧ t.counters = s.counters ∧ t.beat = (s.elapse after).beat ∧ t.player = s.player)
      ∧ (∀ slot f, s.ownFramesEnd slot f after → s.beat.lock ≠ .halted →
          t.loop.rx = none ∧ t.line.phase = .idle ∧ t.faults = s.faults &&& 0xBF#8 ∧ t.counters = s.counters
          ∧ t.table = s.table ∧ t.roster = s.roster ∧ t.player = s.player ∧ t.inputs = (s.elapse after).inputs
          ∧ t.loop.heard = s.loop.heard ∧ t.loop.conflictSeen = s.loop.conflictSeen
          ∧ (f.kind = .restore → exec (.restoreFrame after) s = .next (s.elapse after))
          ∧ (let ahead := (f.bar - s.beat.barCount).toNat
            let b := (s.elapse after).beat
            t.beat =
              (if f.kind ≠ .status then b
              else if s.beat.lock = .locked ∧ s.beat.phaseConfirmed = true then
                (if 1 ≤ ahead ∧ ahead ≤ 127 then { b with barCount := f.bar } else b)
              else { b with barCount := f.bar, beatIndex := f.beat, phaseConfirmed := true })))

/-- A fall of DATA, while the receiver is idle or in a gap, may be a start bit, and takes a sender that waits in its
stop bit to its next byte. A rise ends a low period, and lets a receiver that waited for it go on. An edge is seen
only when the line has held for the filter's 2 µs; a fall of a low line, a rise of a high one and an edge that comes
too soon only let the time pass. A low period of more than 2 ms sets DATA_LINE, once, and does nothing else. Bit count
0 and shift byte 0 at the fall of a start bit are the model's choice (notes/assumptions/11.md), and how the filter
shows in the edges that come is its inference (7.md). The fall as it is seen times the byte it begins, which is the
model's choice for the station's own (19.md). -/
def Obligations.EdgesOfData : Prop :=
  ∀ (after : Nat) (s : State),
    (s.pins.dataLow = false → 2 ≤ s.pins.dataHeld + after → s.running = true →
      exec (.dataFall after) s = .next
        { s.elapse after with
          pins := { (s.elapse after).pins with dataLow := true, dataHeld := 0 }
          line :=
            if s.line.phase = .idle ∨ s.line.phase = .gap then
              { (s.elapse after).line with
                lowTimer := 0, stuckTold := false, phase := .start, byteTimer := 0, bitCount := 0, shift := 0#8
                fromGap := s.line.phase == .gap, fallAt := some (s.loop.slotTimer + after) }
            else { (s.elapse after).line with lowTimer := 0, stuckTold := false }
          loop := { (s.elapse after).loop with
            tx := (s.elapse after).loop.tx.map fun r =>
              if r.outcome = .sending ∧ r.bit = 9 ∧ r.sampled = true ∧ r.byte + 1 < r.bytes.length then
                { r with byte := r.byte + 1, bit := 0, bitTimer := 0, sampled := false }
              else r } })
    ∧ (s.pins.dataLow = false → 2 ≤ s.pins.dataHeld + after → s.running = false →
      exec (.dataFall after) s = .next
        { s.elapse after with
          pins := { (s.elapse after).pins with dataLow := true, dataHeld := 0 }
          line := { (s.elapse after).line with lowTimer := 0, stuckTold := false } })
    ∧ (s.pins.dataLow = true ∨ s.pins.dataHeld + after < 2 → exec (.dataFall after) s = .next (s.elapse after))
    ∧ (s.pins.dataLow = false ∨ s.pins.dataHeld + after < 2 → exec (.dataRise after) s = .next (s.elapse after))
    ∧ (s.pins.dataLow = true → 2 ≤ s.pins.dataHeld + after →
      exec (.dataRise after) s = .next
        { s.elapse after with
          pins := { (s.elapse after).pins with dataLow := false, dataHeld := 0 }
          line :=
            if s.line.phase = .waitHigh then
              { (s.elapse after).line with
                lowTimer := 0, stuckTold := false, phase := .gap, gapTimer := 0, gapLead := 0 }
            else { (s.elapse after).line with lowTimer := 0, stuckTold := false } })
    ∧ (s.running = true → s.pins.dataLow = true → s.line.stuckTold = false → 2000 < s.line.lowTimer + after →
      exec (.dataStuck after) s = .next (State.withFault .dataLine
        { s.elapse after with line := { (s.elapse after).line with stuckTold := true } }))
    ∧ (s.pins.dataLow = true → s.line.stuckTold = true ∨ s.line.lowTimer + after ≤ 2000 →
      exec (.dataStuck after) s = .next (s.elapse after))

/-- A sample does two halves, each when its own time has come: the sender reads back its bit, then the receiver takes the
line, whatever record the station holds. The sender finds its bit as sent; or, at the last stop bit, its frame whole; or
another level, and gives up. At the end of a bit time it goes on to the next bit, or the next byte. The receiver takes a
data bit into the byte, the first bit highest; finds a start bit gone again and drops it, or the start bit of the next byte
of the frame in progress. At a stop bit the byte is handed to the frame, of which 30 bytes are kept and which is invalid from
the first byte that breaks a condition or shows a framing error, and the receiver waits for the next byte, or for the line
to rise. The byte that completes the expected length ends the frame: a misplaced one counts MISPLACED, an invalid one
RX_ERR, and a valid one of a kind not allowed in its slot counts MISPLACED and is discarded, but for the conflict that the
own address in it is, unless the station has just sent it. The bit count 0 after a frame is the model's choice
(notes/assumptions/11.md), and so is the moment from which the station's own byte is timed (19.md). -/
def Obligations.BitsGoInAndOut : Prop :=
  ∀ (after : Nat) (s : State), s.counters.Ok →
    let waited : State := s.elapse after
    let heard : State := readBack waited
    ((∀ r, s.loop.tx = some r → r.outcome ≠ .sending ∨ r.sampled = true ∨ r.bytes.length ≤ r.byte
        ∨ r.bitTimer + after < 100 * r.bit + 50) →
      heard = waited)
    ∧ (∀ r, s.loop.tx = some r → r.outcome = .sending → r.sampled = false → r.byte < r.bytes.length →
      100 * r.bit + 50 ≤ r.bitTimer + after →
      let recessive := bitLevel (r.bytes.getD r.byte 0#8) r.bit
      let lost : State := { waited with
        loop := { waited.loop with tx := some { r with bitTimer := r.bitTimer + after, outcome := .abandoned } }
        queue := { s.queue with messages := s.queue.messages.map fun m => { m with onLine := false } } }
      (recessive = !s.pins.dataLow → ¬ (r.bit = 9 ∧ r.byte + 1 = r.bytes.length) →
        heard = { waited with
          loop := { waited.loop with tx := some { r with bitTimer := r.bitTimer + after, sampled := true } } })
      ∧ (recessive = !s.pins.dataLow → r.bit = 9 → r.byte + 1 = r.bytes.length →
        heard = State.withoutFault .dataLine { waited with
          loop := { waited.loop with
            tx := some { r with bitTimer := r.bitTimer + after, sampled := true, outcome := .complete } }
          queue :=
            if r.slot = .openSlot then { s.queue with messages := s.queue.messages.filter fun m => !m.onLine }
            else s.queue })
      ∧ (recessive = s.pins.dataLow →
        heard =
          if recessive = false then State.withFault .dataLine lost
          else if r.slot = .openSlot ∧ r.byte ≤ 1 then State.counted .arbLoss lost
          else State.withFault .addressConflict lost))
    ∧ (∀ r, s.loop.tx = some r → r.outcome ≠ .abandoned → r.sampled = true → r.byte < r.bytes.length →
      100 * (r.bit + 1) ≤ r.bitTimer + after →
      exec (.bitTimeEnd after) s = .next
        { waited with
          loop := { waited.loop with
            tx := some
              (if r.bit < 9 then { r with bitTimer := r.bitTimer + after, bit := r.bit + 1, sampled := false }
              else { r with byte := r.byte + 1, bit := 0, bitTimer := 0, sampled := false }) } })
    ∧ (s.running = false ∨ (s.line.phase = .idle ∨ s.line.phase = .gap ∨ s.line.phase = .waitHigh)
        ∨ (s.line.phase = .start ∧ s.line.byteTimer + after < 50)
        ∨ (s.line.phase = .bits ∧ s.line.byteTimer + after < 150 + 100 * s.line.bitCount)
        ∨ (s.line.phase = .stop ∧ s.line.byteTimer + after < 950) →
      exec (.bitSample after) s = .next heard)
    ∧ (s.running = true → s.line.phase = .start → 50 ≤ s.line.byteTimer + after →
      (s.pins.dataLow = false →
        exec (.bitSample after) s = .next
          { heard with line := { waited.line with phase := if s.line.fromGap then .gap else .idle } })
      ∧ (s.pins.dataLow = true → s.loop.rx ≠ none →
        exec (.bitSample after) s = .next
          { heard with line := { waited.line with phase := .bits, bitCount := 0, shift := 0#8 } }))
    ∧ (s.running = true → s.line.phase = .bits → 150 + 100 * s.line.bitCount ≤ s.line.byteTimer + after →
      exec (.bitSample after) s = .next
        { heard with
          line := { waited.line with
            shift := (s.line.shift <<< 1) ||| (if s.pins.dataLow then 0#8 else 1#8)
            bitCount := s.line.bitCount + 1
            phase := if s.line.bitCount < 7 then .bits else .stop } })
    ∧ (s.running = true → s.line.phase = .stop → 950 ≤ s.line.byteTimer + after →
      let low : Bool := s.pins.dataLow
      let onward : State := { heard with
        line :=
          if low then { waited.line with phase := .waitHigh }
          else { waited.line with phase := .gap, gapTimer := 0, gapLead := 1000 - (s.line.byteTimer + after) } }
      let ended : State := { heard with
        line := { waited.line with phase := if low then .waitHigh else .idle, bitCount := 0, fromGap := false }
        loop := { heard.loop with rx := none } }
      (s.loop.rx = none → exec (.bitSample after) s = .next onward)
      ∧ ∀ r, s.loop.rx = some r →
        let bytes := (r.bytes ++ [s.line.shift]).take 30
        (expectedLength bytes ≠ some bytes.length →
          exec (.bitSample after) s = .next
            { onward with
              loop := { heard.loop with
                rx := some { r with bytes := bytes, validSoFar := r.validSoFar && !low && validPrefix bytes } } }
          ∧ (r.bytes.length = 4 → byteAt r.bytes 0 ≠ 0x80#8 → bitsOf s.line.shift 0 6 = 0 → validPrefix bytes = false))
        ∧ (expectedLength bytes = some bytes.length →
          (r.slot = none → exec (.bitSample after) s = .next (State.counted .misplaced ended))
          ∧ ∀ slot, r.slot = some slot →
            (r.validSoFar = false ∨ low = true ∨ crc8 bytes ≠ 0#8 ∨ parseFrame bytes = none →
              exec (.bitSample after) s = .next (State.counted .rxErr ended))
            ∧ ∀ f, r.validSoFar = true → low = false → parseFrame bytes = some f → slotAllowed f.kind slot = false →
              exec (.bitSample after) s = .next
                (if f.sender = s.startup.ownAddr ∧ heard.loop.tx.map TxRecord.outcome ≠ some .complete then
                  State.withFault .addressConflict (State.counted .misplaced
                    { ended with
                      loop := { ended.loop with
                        conflictSeen := if slot = .openSlot then s.loop.conflictSeen else true } })
                else State.counted .misplaced ended)))

/-! ### Converter, scanner and supply (chapters 8 and 9) -/

/-- The scan moves on every 1.25 ms and asks for the input it comes to, if it is enabled; the own timer asks for a supply
sample every 250 ms. A request begins a conversion when the converter is idle and waits when it is not, but for a
supply request that comes at the very moment a scan conversion began on its request, which goes before it: the model
reads that moment from the time that has passed since (notes/assumptions/10.md). -/
def Obligations.ScanAndSupplyRequests : Prop :=
  ∀ (after : Nat) (s : State),
    (s.running = true → ∀ w, s.scanner.timer = some w → 1250 ≤ w + after →
      let n := (s.scanner.position + 1) % 8
      exec (.scanRequest after) s = .next
        { s.elapse after with
          scanner := ⟨n, some 0⟩
          converter :=
            if (s.binding n).enabled then
              (if s.converter.activity = .idle then
                ⟨.scan n, 0, false, true, s.converter.pendingSupply, s.converter.pendingScan⟩
              else { (s.elapse after).converter with pendingScan := some n })
            else (s.elapse after).converter })
    ∧ ∀ w, s.supply.ownTimer = some w → 250000 ≤ w + after →
      exec (.supplyOwnTimer after) s = .next
        { s.elapse after with
          supply := { s.supply with ownTimer := some 0 }
          converter :=
            match s.converter.activity with
            | .idle => ⟨.supply, 0, false, true, s.converter.pendingSupply, s.converter.pendingScan⟩
            | .supply => { (s.elapse after).converter with pendingSupply := true }
            | .scan i =>
              if s.converter.fresh = true ∧ after = 0 then ⟨.supply, 0, false, true, s.converter.pendingSupply, some i⟩
              else { (s.elapse after).converter with pendingSupply := true } }

/-- A conversion that completes is followed by the request that waits, the supply's first. A reading that is still wanted
goes to its requester: a line's is classed by its band and compared with the candidate, the supply's band moves the
four runs. The reading is that of the voltage at the pin; the conversion time of an idle converter is left open. -/
def Obligations.ConversionHandsItsReading : Prop :=
  ∀ (after microvolts : Nat) (s : State), s.converter.activity ≠ .idle → 250 ≤ s.converter.time + after →
    ∃ idleTime : Nat,
    let r := (readingOf microvolts).toNat
    let granted : State := { s.elapse after with
      converter :=
        if s.converter.pendingSupply then ⟨.supply, 0, false, false, false, s.converter.pendingScan⟩
        else
          match s.converter.pendingScan with
          | some i => ⟨.scan i, 0, false, false, false, none⟩
          | none => ⟨.idle, idleTime, false, false, false, none⟩ }
    (s.converter.discard = true → exec (.conversionComplete after microvolts) s = .next granted)
    ∧ (s.converter.discard = false → ∀ i, s.converter.activity = .scan i →
      (s.running = false ∨ (s.binding i).enabled = false →
        exec (.conversionComplete after microvolts) s = .next granted)
      ∧ (s.running = true → (s.binding i).enabled = true →
        let band : Band :=
          if (s.binding i).supervised then
            (if r < 20 then .short else if r < 100 then .active else if r < 200 then .normal else .opened)
          else if r < 128 then .active else .normal
        exec (.conversionComplete after microvolts) s = .next
          { granted with
            inputs := granted.inputs.modify i fun x =>
              if x.candidate = band then x
              else { x with candidate := band, timer := if x.qualified = band then none else some 0 } }))
    ∧ (s.converter.discard = false → s.converter.activity = .supply →
      let run (inSet : Bool) (n : Nat) : Nat := if inSet then min 4 (n + 1) else 0
      let sampled := { (s.elapse after).supply with
        lastBand := r / 32
        lowRun := run (decide (r < 96)) s.supply.lowRun
        highRun := run (decide (96 ≤ r)) s.supply.highRun
        zeroRun := run (decide (r < 32)) s.supply.zeroRun
        recoveryRun := run (decide (64 ≤ r)) s.supply.recoveryRun }
      (s.supply.condition = .normal ∧ sampled.zeroRun < 4 ∧ sampled.lowRun < 4
        ∨ s.supply.condition = .low ∧ sampled.zeroRun < 4 ∧ sampled.highRun < 4
        ∨ s.supply.condition = .cutoff ∧ sampled.recoveryRun < 4) →
      exec (.conversionComplete after microvolts) s = .next { granted with supply := sampled })

/-- The fourth supply sample in a row at band 2 or below takes a NORMAL supply to LOW, and the fourth at band 3 or
above a LOW one back: SUPPLY_LOW and the cap on both outputs follow the condition, and nothing else changes. The
conversion time of an idle converter is left open. That the level of a rest step keeps its value while the cap changes
is the model's choice (notes/assumptions/11.md). -/
def Obligations.SupplyConditionFollowsFourSamples : Prop :=
  ∀ (after microvolts : Nat) (s : State), s.converter.activity = .supply → s.converter.discard = false →
    250 ≤ s.converter.time + after →
    ∃ idleTime : Nat,
    let r := (readingOf microvolts).toNat
    let granted : State := { s.elapse after with
      converter :=
        if s.converter.pendingSupply then ⟨.supply, 0, false, false, false, s.converter.pendingScan⟩
        else
          match s.converter.pendingScan with
          | some i => ⟨.scan i, 0, false, false, false, none⟩
          | none => ⟨.idle, idleTime, false, false, false, none⟩ }
    let run (inSet : Bool) (n : Nat) : Nat := if inSet then min 4 (n + 1) else 0
    (s.supply.condition = .normal → r < 96 → 3 ≤ s.supply.lowRun → 32 ≤ r ∨ s.supply.zeroRun < 3 →
      let low := State.withFault .supplyLow { granted with
        supply := { (s.elapse after).supply with
          condition := .low, lastBand := r / 32, lowRun := 4, highRun := 0
          zeroRun := run (decide (r < 32)) s.supply.zeroRun
          recoveryRun := run (decide (64 ≤ r)) s.supply.recoveryRun }
        drive := { (s.elapse after).drive with cap := true } }
      exec (.lowCondition after microvolts) s = .next low ∧ exec (.conversionComplete after microvolts) s = .next low)
    ∧ (s.supply.condition = .low → 96 ≤ r → 3 ≤ s.supply.highRun →
      let normal := State.withoutFault .supplyLow { granted with
        supply := { (s.elapse after).supply with
          condition := .normal, lastBand := r / 32, lowRun := 0, highRun := 4, zeroRun := 0
          recoveryRun := min 4 (s.supply.recoveryRun + 1) }
        drive := { (s.elapse after).drive with cap := false } }
      exec (.normalCondition after microvolts) s = .next normal
        ∧ exec (.conversionComplete after microvolts) s = .next normal)

/-- The fourth supply sample in a row at band 0, of readings that are the voltage over 2.50 V times 256, is CUTOFF:
the station is QUIESCENT, drives no line and no output, holds no request and no message, and is HALTED with both
sounder and beacon off. A scan request that waits is discarded, and a supply request is granted, since the converter
has just completed the sample; a scan in progress at an entry to QUIESCENT would complete for nobody. What the
counters count, the library, the bindings and the address stay. A load that was not complete is abandoned, with
validity NOT_LOADED (notes/assumptions/8.md), and the supply monitor's own timer starts again from 0, out of STARTING
too, where two rules differ (notes/assumptions/14.md): both are the model's inferences. The line fields at 0, but for
the phase, the in-frame flag and the low timer, the stopped slot timer at 0 and the conversion time 0 of an idle
converter are its choice (11.md), and the voltage in whole microvolts over the nominal reference is too (17.md). Two
pins show states at every moment: FLT is low exactly while the fault set is not empty or the station is QUIESCENT, and
ATTN exactly while its latch is set and the station is not QUIESCENT. -/
def Obligations.CutoffMakesTheStationQuiescent : Prop :=
  (∀ u : State, (u.fltLow = true ↔ u.faults ≠ 0#8 ∨ u.startup.station = .quiescent)
    ∧ (u.attnLow = true ↔ u.port.attn = true ∧ u.startup.station ≠ .quiescent)) ∧
  (∀ c : Converter, c.enterQuiescent.activity = c.activity ∧ c.enterQuiescent.time = c.time
    ∧ c.enterQuiescent.pendingSupply = c.pendingSupply ∧ c.enterQuiescent.pendingScan = none
    ∧ c.enterQuiescent.discard = (c.discard || match c.activity with | .scan _ => true | .idle | .supply => false)) ∧
  ∀ (after microvolts : Nat) (s : State), s.converter.activity = .supply → s.converter.discard = false →
    250 ≤ s.converter.time + after → s.supply.condition ≠ .cutoff → min 255 (microvolts * 256 / 2500000) < 32 → 3 ≤ s.supply.zeroRun →
    ∃ t, exec (.cutoff after microvolts) s = .next t ∧ exec (.conversionComplete after microvolts) s = .next t
      ∧ t.startup.station = .quiescent ∧ t.supply.condition = .cutoff ∧ t.supply.ownTimer = some 0
      ∧ t.startup.validity = (if s.startup.station = .starting then .notLoaded else s.startup.validity)
      ∧ t.startup.memoryBusy = false ∧ t.startup.membership = 0
      ∧ t.beat.lock = .halted ∧ t.beat.mark = none ∧ t.beat.phaseConfirmed = false ∧ t.beat.strayTally = 0
      ∧ t.beat.settle = 0 ∧ t.beat.freeBeats = 0 ∧ t.beat.barCount = s.beat.barCount
      ∧ t.beat.beatIndex = s.beat.beatIndex
      ∧ t.table = [] ∧ t.queue.messages = [] ∧ t.loop = ⟨0, .mark, none, false, false, .ahead, none, none, none⟩
      ∧ t.line = ⟨.idle, 0, 0, 0#8, 0, 0, false, none, 0, false⟩
      ∧ t.player.mode = .silent ∧ t.player.wanted = none ∧ t.player.testDue = false ∧ t.player.sound = false
      ∧ t.drive.quiescent = true ∧ t.drive.source = .none ∧ t.drive.chirpTimer = none
      ∧ t.drive.beaconLevel = 0 ∧ t.drive.cap = false ∧ t.snd = none
      ∧ t.inputs = (s.elapse after).inputs.map (fun x =>
          { x with candidate := .none, timer := none, request := .idle, posted := none })
      ∧ t.converter = ⟨if s.converter.pendingSupply then .supply else .idle, 0, false, false, false, none⟩
      ∧ t.scanner.timer = none ∧ t.keys.state = .idle ∧ t.keys.ack = (s.elapse after).keys.ack
      ∧ t.keys.test = (s.elapse after).keys.test
      ∧ t.faults = s.faults &&& 0xF7#8 ∧ t.port.attn = true ∧ t.fltLow = true ∧ t.attnLow = false
      ∧ t.roster = s.roster ∧ t.counters = s.counters ∧ t.library = s.library ∧ t.bindings = s.bindings
      ∧ t.startup.ownAddr = s.startup.ownAddr

/-- The fourth supply sample in a row at band 2 or above ends CUTOFF. A station that has loaded its image starts warm:
it is JOINING at once, with its address, image, counters and CONFIG kept and everything else as after a start; one
that has not starts cold. Either way the supply is LOW for a warm start and NORMAL for a cold one, and the runs are 0.
That a warm start drops an open transaction as a cold one does, and that the field lines are disabled from a cold
start to its load, with the other fields of their bindings as they are here, are the model's (notes/assumptions/9.md).
The voltage in whole microvolts over the nominal reference is its choice (17.md). -/
def Obligations.RecoveryStartsWarmOrCold : Prop :=
  ∀ (after microvolts : Nat) (s : State), s.converter.activity = .supply → s.converter.discard = false →
    250 ≤ s.converter.time + after → s.supply.condition = .cutoff → 64 ≤ min 255 (microvolts * 256 / 2500000) → 3 ≤ s.supply.recoveryRun →
    ∃ t, exec (.recoveryEvent after microvolts) s = .next t ∧ exec (.conversionComplete after microvolts) s = .next t
      ∧ t.startup.cause = .supplyRecovery ∧ t.startup.ownAddr = s.startup.ownAddr ∧ t.startup.membership = 0
      ∧ t.supply.lowRun = 0 ∧ t.supply.highRun = 0 ∧ t.supply.zeroRun = 0 ∧ t.supply.recoveryRun = 0
      ∧ t.table = [] ∧ t.queue.messages = [] ∧ t.roster = rosterAtStart s.startup.ownAddr
      ∧ t.inputs = List.replicate 12 ⟨.none, none, .none, false, .idle, none⟩
      ∧ t.beat.barCount = 0#8 ∧ t.beat.beatIndex = 0#4 ∧ t.player = ⟨.silent, none, none, false, 0, 0, false, 0, false⟩
      ∧ t.port.held = [0x01#8, 0x00#8, 0x00#8, 0x6B#8] ∧ t.port.attn = true ∧ t.port.dropped = s.port.opened
      ∧ (s.startup.validity ≠ .notLoaded →
          t.startup.station = .joining ∧ t.startup.validity = s.startup.validity ∧ t.beat.lock = .free
            ∧ t.supply.condition = .low ∧ t.supply.lastBand = min 255 (microvolts * 256 / 2500000) / 32 ∧ t.supply.ownTimer = none
            ∧ t.faults = (s.faults &&& 0x10#8) ||| 0x08#8 ∧ t.drive.cap = true ∧ t.drive.quiescent = false
            ∧ t.counters = s.counters ∧ t.bindings = s.bindings ∧ t.library = s.library
            ∧ t.scanner = ⟨0, some 0⟩ ∧ t.keys.ack = (s.elapse after).keys.ack
            ∧ t.keys.test = (s.elapse after).keys.test
            ∧ t.keys.state = (if s.keys.ack.debounced || s.keys.test.debounced then .spent else .idle))
      ∧ (s.startup.validity = .notLoaded →
          t.startup.station = .starting ∧ t.startup.validity = .notLoaded ∧ t.beat.lock = .halted
            ∧ t.startup.step = (if s.pins.rst = .high then .settlingWait else .waiting)
            ∧ t.supply = ⟨.normal, 0, 0, 0, 0, 0, some 0⟩ ∧ t.faults = 0#8
            ∧ t.counters = ⟨0, 0, 0, 0, 0, 0, 0⟩
            ∧ t.bindings = List.replicate 8 ⟨false, false, 0, ⟨1, 1, false⟩⟩)

/-! ### Inputs and keys (chapter 8) -/

/-- A candidate band that has lasted its qualification time is qualified. ACTIVE raises an IDLE input's request: its
entry is in the table, in place of the last-ranked foreign entry when the table is full, which is counted and is
TABLE_OVERFLOW, and a RAISE joins the queue. A changed head is handed on to the player and marks ATTN. NORMAL
withdraws the request of a RAISED one, with a CLEAR for the queue, or holds it when the binding is latched. SHORT and
OPEN are line faults, and the fault set shows whether any input has one. The level 0 of a sounder without a source is
the model's choice (notes/assumptions/11.md). -/
def Obligations.QualificationActsOnTheInput : Prop :=
  ∀ (after i : Nat) (s : State), s.running = true → i < 8 → TableOk s.table → s.FaultsOk →
    ∀ w, (s.input i).timer = some w →
    (match (s.input i).candidate with
      | .short | .opened => 2000000
      | .none | .active | .normal => [20000, 100000, 500000, 2000000].getD (s.binding i).code 2000000) ≤ w + after →
    let x := s.input i
    let own : Nat := s.startup.ownAddr
    let isOwn (e : Entry) : Bool := e.origin == own && e.input == i
    let rises := x.candidate = .active ∧ x.request = .idle
    let withdrawn := x.candidate = .normal ∧ x.request = .raised ∧ (s.binding i).request.latched = false
    let r := (s.binding i).request
    ∃ t, exec (.qualification after i) s = .next t
      ∧ t.inputs = (s.elapse after).inputs.modify i (fun y =>
          { y with
            qualified := y.candidate, timer := none, lineFault := y.candidate == .short || y.candidate == .opened
            request :=
              if y.candidate = .active then .raised
              else if y.candidate = .normal ∧ y.request = .raised then (if r.latched then .held else .idle)
              else y.request })
      ∧ hasFault t.faults .lineFault = t.inputs.any Input.lineFault
      ∧ (¬ rises → ¬ withdrawn → t.table = s.table ∧ t.queue = s.queue)
      ∧ (rises ∨ withdrawn ∧ (∃ e ∈ s.table, isOwn e = true) → s.handsOn t)
      ∧ (rises → s.table.length < 16 → t.table.Perm
          (⟨r.cue, r.priority, own, i, .active, r.latched, false, 0, s.beat.barCount, s.beat.beatIndex⟩
            :: s.table.filter fun e => !isOwn e))
      ∧ (rises → (∀ e ∈ s.table, isOwn e = false) → 16 ≤ s.table.length → s.counters.Ok →
          ∀ l, (s.table.filter fun e => e.origin != own).getLast? = some l →
          t.table.Perm (⟨r.cue, r.priority, own, i, .active, r.latched, false, 0, s.beat.barCount, s.beat.beatIndex⟩
              :: s.table.erase l)
            ∧ t.counters.tableOvf = min 255 (s.counters.tableOvf + 1) ∧ hasFault t.faults .tableOverflow = true)
      ∧ (rises → s.queue.messages.length < 6 → ∃ m ∈ t.queue.messages, m.news = .raise i r ∧ m.age = 0)
      ∧ (rises → s.queue.inOrder → t.queue.messages = (s.queue.joinedBy (.raise i r)).1)
      ∧ (withdrawn → t.table = s.table.filter fun e => !isOwn e)
      ∧ (withdrawn → ∀ e ∈ s.table, isOwn e = true →
          (∀ m ∈ t.queue.messages, m.news.isRaiseOf i = false)
          ∧ ((∀ m ∈ s.queue.messages, m.news.isRaiseOf i = false) → s.queue.messages.length < 6 →
            ∃ m ∈ t.queue.messages, m.news = .clear i ⟨e.cue, e.priority, e.latched⟩)
          ∧ (s.queue.inOrder → t.queue.messages = (s.queue.joinedBy (.clear i ⟨e.cue, e.priority, e.latched⟩)).1))
      ∧ t.roster = s.roster ∧ t.beat = (s.elapse after).beat ∧ t.keys = (s.elapse after).keys
      ∧ t.startup = (s.elapse after).startup ∧ t.loop = (s.elapse after).loop

/-- Each key is debounced separately, in every station state. A raw level that comes to differ from the debounced one
begins the debounce, and begins it anew after each return; one that returns stops it and nothing happens. A key that
is pressed already, or released already, changes nothing. At 20 ms with the raw level still differing the debounced
level takes it, the timer stops, and the press or release is handed to the key's state machine: in IDLE a press is
taken as ACK_DOWN or TEST_DOWN, whose own key's release brings IDLE. At a cold start of each cause both debounced
levels are released, a released key's timer is stopped, and a key held through the start gives its press 20 ms after
it. That a start keeps the keys' raw levels is the model's choice, and that a held key is debounced from the start on
its inference (notes/assumptions/9.md). -/
def Obligations.KeyLevelsAreDebounced : Prop :=
  ∀ (after microvolts : Nat) (s : State),
    let moved (pressed : Bool) (k : KeyLine) : KeyLine :=
      if k.raw = pressed then k else ⟨pressed, k.debounced, if k.debounced = pressed then none else some 0⟩
    let down : Key → KeyState := fun key => match key with | .ack => .ackDown | .test => .testDown
    let debouncesFromTheStart (t : State) : Prop := ∀ key : Key,
      (t.keys.line key).raw = (s.keys.line key).raw ∧ (t.keys.line key).debounced = false
        ∧ ((s.keys.line key).raw = false → (t.keys.line key).timer = none)
        ∧ ((s.keys.line key).raw = true →
          ∃ u, exec (.debounceExpiry 20000 key) t = .next u ∧ u.keys.line key = ⟨true, true, none⟩)
    (∀ pressed : Bool,
      exec (.keyLevelChange after .ack pressed) s = .next
          { s.elapse after with keys := { (s.elapse after).keys with ack := moved pressed (s.elapse after).keys.ack } }
        ∧ exec (.keyLevelChange after .test pressed) s = .next
          { s.elapse after with keys := { (s.elapse after).keys with test := moved pressed (s.elapse after).keys.test } })
    ∧ (∀ (key : Key) (w : Nat), (s.keys.line key).timer = some w → w + after = 20000 →
        ∀ raw, (s.keys.line key).raw = raw → (s.keys.line key).debounced ≠ raw →
        ∃ t, exec (.debounceExpiry after key) s = .next t ∧ t.keys.line key = ⟨raw, raw, none⟩
          ∧ (∀ other : Key, other ≠ key → t.keys.line other = (s.elapse after).keys.line other)
          ∧ (s.running = true → raw = true → s.keys.state = .idle → t.keys.state = down key)
          ∧ (s.running = true → raw = false → s.keys.state = down key → t.keys.state = .idle))
    ∧ (∀ low : Bool, ∃ t, exec (.powerOn after low) s = .next t ∧ debouncesFromTheStart t)
    ∧ (∀ held, s.pins.rst = .timing held → held + after = 1000 →
        ∃ t, exec (.resetPin after) s = .next t ∧ debouncesFromTheStart t)
    ∧ (s.converter.activity = .supply → s.converter.discard = false → s.converter.time + after = 250 →
        s.supply.condition = .cutoff → 64 ≤ (readingOf microvolts).toNat → 3 ≤ s.supply.recoveryRun →
        s.startup.validity = .notLoaded →
        ∃ t, exec (.recoveryEvent after microvolts) s = .next t ∧ debouncesFromTheStart t)

/-- A level that has held for 20 ms is the key's. A press or release acts in JOINING and MEMBER only: ACK alone silences
the table at its release and queues a SILENCE, TEST alone asks for an output test, which an empty table alone takes,
both together begin a chord, and after a chord both must be released. The silence and a test that is taken ask for a chirp,
after the silence has withdrawn the pattern's tone; a chord that is broken off asks for none. The fields of a sounder without
a source, and a chirp's step offset 0, are the model's choice (notes/assumptions/11.md). -/
def Obligations.DebouncedKeysAct : Prop :=
  ∀ (after : Nat) (key : Key) (s : State), ∀ w, (s.keys.line key).timer = some w → 20000 ≤ w + after →
    let raw := (s.keys.line key).raw
    let line : KeyLine := ⟨raw, raw, none⟩
    let ks := (s.elapse after).keys
    let moved : KeyUnit := if key = .ack then { ks with ack := line } else { ks with test := line }
    ∃ t, exec (.debounceExpiry after key) s = .next t ∧ t.keys.ack = moved.ack ∧ t.keys.test = moved.test
      ∧ t.beat = (s.elapse after).beat ∧ t.inputs = (s.elapse after).inputs ∧ t.roster = s.roster
      ∧ t.faults = s.faults
      ∧ (s.running = false → t = { s.elapse after with keys := moved })
      ∧ (s.running = true → raw = true →
          t.table = s.table ∧ t.queue = s.queue ∧ t.player = s.player ∧ t.drive = (s.elapse after).drive
          ∧ t.keys.state =
            (match s.keys.state, key with
            | .idle, .ack => .ackDown
            | .idle, .test => .testDown
            | .ackDown, .test | .testDown, .ack => .chord
            | k, _ => k)
          ∧ (s.keys.state = .ackDown ∧ key = .test ∨ s.keys.state = .testDown ∧ key = .ack → t.keys.hold = 0))
      ∧ (s.running = true → raw = false → s.keys.state = .ackDown → key = .ack →
          t.keys.state = .idle ∧ t.table = s.table.map (fun e => { e with silenced := true })
          ∧ t.player.sound = false
          ∧ (let d := (s.elapse after).drive
            chirpAsked (if s.player.sound = true ∧ (s.player.mode = .intro ∨ s.player.mode = .cycle) then patternWithdrawn d
              else d) t.drive)
          ∧ (s.queue.messages.length < 6 → ∃ m ∈ t.queue.messages, m.news = .silence))
      ∧ (s.running = true → raw = false → s.keys.state = .testDown → key = .test →
          t.keys.state = .idle ∧ t.table = s.table ∧ t.queue = s.queue
          ∧ t.player.testDue = (s.player.testDue || (s.table.isEmpty && s.player.mode != .test))
          ∧ (s.table = [] → chirpAsked (s.elapse after).drive t.drive)
          ∧ (s.table ≠ [] → t.drive = (s.elapse after).drive))
      ∧ (s.running = true → raw = false → s.keys.state = .chord →
          t.keys.state = .spent ∧ t.table = s.table ∧ t.drive = (s.elapse after).drive)
      ∧ (s.running = true → raw = false → s.keys.state = .spent →
          t.keys.state = (if moved.ack.debounced || moved.test.debounced then .spent else .idle) ∧ t.table = s.table)

/-! ### The drives (chapter 7) -/

/-- A chirp ends after an eighth of a beat, and the rest step stored behind it takes the sounder back. SND runs at its
tone's frequency and BCN at 1 kHz: a change of level within a tone or of a lit beacon takes effect at the start of a
period, the first whole microsecond of one after the period last begun, capped at 1 while the supply is LOW; at any other
moment of the wave, and while the output is low, no period starts and only time passes. SND is high for the first
eighth, quarter or half of each period by its level. BCN is high for a quarter, a half or all of each period by its
level; where in the period the high part lies is left free. What a sounder without a source holds in its fields, tone and
levels 0 and the rest as they were, is the model's choice (notes/assumptions/11.md), and so is the unit of a wave's phase,
a millionth of its period at whole microseconds (notes/assumptions/17.md). -/
def Obligations.ChirpsEndAndPeriodsStart : Prop :=
  ∀ (after : Nat) (s : State),
    (∀ w, s.drive.chirpTimer = some w → 31250 ≤ w + after →
      (s.drive.behind = none → exec (.chirpEnd after) s = .next
        { s.elapse after with
          drive := { (s.elapse after).drive with
            source := .none, tone := 0, envelopeLevel := 0, level := 0, sndPhase := 0, chirpTimer := none } })
      ∧ ∀ r, s.drive.behind = some r → r.tone = 0 ∨ r.volume = 0 →
        exec (.chirpEnd after) s = .next
          { s.elapse after with
            drive := { (s.elapse after).drive with
              source := .pattern, tone := r.tone, volume := r.volume, envelope := r.envelope, offset := r.offset
              envelopeLevel := envelopeLevelOf r.volume r.envelope r.offset
              level :=
                if s.drive.cap then min 1 (envelopeLevelOf r.volume r.envelope r.offset)
                else envelopeLevelOf r.volume r.envelope r.offset
              sndPhase := 0, chirpTimer := none, behind := none } })
    ∧ (s.drive.tone ≠ 0 → s.drive.level ≠ 0 →
      let hz : Nat :=
        [0, 400, 500, 600, 700, 800, 900, 1000, 1200, 1400, 1600, 1800, 2000, 2400, 2800, 3200].getD s.drive.tone 0
      let run := s.drive.sndPhase + hz * after
      (1000000 ≤ run → run % 1000000 < hz → exec (.periodStart after .snd) s = .next
        { s.elapse after with
          drive := { (s.elapse after).drive with
            level := if s.drive.cap then min 1 s.drive.envelopeLevel else s.drive.envelopeLevel
            sndPhase := run % 1000000 } })
      ∧ (run < 1000000 ∨ hz ≤ run % 1000000 → exec (.periodStart after .snd) s = .next (s.elapse after))
      ∧ (s.drive.level = 1 → ((s.elapse after).sndHigh = true ↔ 8 * (run % 1000000) < 1000000))
      ∧ (s.drive.level = 2 → ((s.elapse after).sndHigh = true ↔ 4 * (run % 1000000) < 1000000))
      ∧ (s.drive.level = 3 → ((s.elapse after).sndHigh = true ↔ 2 * (run % 1000000) < 1000000)))
    ∧ (s.drive.tone = 0 ∨ s.drive.level = 0 →
      exec (.periodStart after .snd) s = .next (s.elapse after) ∧ (s.elapse after).sndHigh = false)
    ∧ (s.drive.beaconLevel ≠ 0 →
      let run := s.drive.bcnPhase + 1000 * after
      (1000000 ≤ run → run % 1000000 < 1000 → exec (.periodStart after .bcn) s = .next
        { s.elapse after with
          drive := { (s.elapse after).drive with
            beaconLevel := if s.drive.cap then min 1 s.drive.intensity else s.drive.intensity
            bcnPhase := run % 1000000 } })
      ∧ (run < 1000000 ∨ 1000 ≤ run % 1000000 → exec (.periodStart after .bcn) s = .next (s.elapse after)))
    ∧ (s.drive.beaconLevel = 0 →
      exec (.periodStart after .bcn) s = .next (s.elapse after) ∧ (s.elapse after).bcnHigh = false)
    ∧ (∀ level width, (level, width) ∈ [(1, 250000), (2, 500000), (3, 1000000)] →
      ∃ rise, rise + width ≤ 1000000 ∧ ∀ u : State, u.drive.beaconLevel = level →
        (u.bcnHigh = true ↔ rise ≤ u.drive.bcnPhase % 1000000 ∧ u.drive.bcnPhase % 1000000 < rise + width))

/-! ### The panel port (chapter 12) -/

/-- A transaction shifts in and out on one clock. Its fall of PCS empties the buffer and presents the first bit of the
held response; each rise of PSCK samples PSI, most significant bit first, and the eighth stores a byte, of which 93
are kept; each fall presents the next bit of the response, and 0 once it has run out. That a transaction which a
start cut off goes on with zeros is the model's choice (notes/assumptions/15.md). -/
def Obligations.TransactionClocksBothWays : Prop :=
  ∀ (after : Nat) (psi : Bool) (s : State),
    (s.port.opened = false → exec (.transactionOpen after) s = .next
      { s.elapse after with
        port := { s.port with
          opened := true, dropped := false, buffer := [], bitCount := 0, shift := 0#8, outPos := 0
          pso := (s.port.held.getD 0 0#8).getMsbD 0 } })
    ∧ (s.port.opened = true → s.port.bitCount < 7 → exec (.psckRise after psi) s = .next
      { s.elapse after with
        port := { s.port with
          bitCount := s.port.bitCount + 1, shift := (s.port.shift <<< 1) ||| (if psi then 1#8 else 0#8) } })
    ∧ (s.port.opened = true → 7 ≤ s.port.bitCount → exec (.psckRise after psi) s = .next
      { s.elapse after with
        port := { s.port with
          bitCount := 0, shift := 0#8, outPos := s.port.outPos + 1
          buffer :=
            if s.port.buffer.length < 93 then
              s.port.buffer ++ [(s.port.shift <<< 1) ||| (if psi then 1#8 else 0#8)]
            else s.port.buffer } })
    ∧ (s.port.opened = true → exec (.psckFall after) s = .next
      { s.elapse after with
        port := { s.port with
          pso := if s.port.dropped then false else (s.port.held.getD s.port.outPos 0#8).getMsbD s.port.bitCount } })
    ∧ (s.port.opened = false →
        exec (.psckRise after psi) s = .next (s.elapse after) ∧ exec (.psckFall after) s = .next (s.elapse after))

/-- What a close leaves of the station when the transaction carries no command that is taken: the response is replaced and
the port is idle. No byte, a first byte of 0 and a transaction cut off by a start give NO_RESPONSE; a frame that is
short, too long or fails its check gives BAD_CHECK; a code of no command gives UNKNOWN_COMMAND. The close of a cut-off
transaction is the model's choice, and the port after every close, with an empty buffer, no bits, output position 0 and PSO
low, is its inference (notes/assumptions/15.md). -/
def Obligations.ClosesThatCarryNoCommand : Prop :=
  ∀ (after : Nat) (s : State), s.port.opened = true →
    let closed (response : List Byte) : State := { s.elapse after with
      port := { s.port with
        opened := false, dropped := false, buffer := [], bitCount := 0, shift := 0#8, outPos := 0, pso := false
        held := response } }
    let code := s.port.buffer.getD 0 0#8
    let n := (s.port.buffer.getD 1 0#8).toNat
    let good := n ≤ 90 ∧ 3 + n ≤ s.port.buffer.length ∧ crc8 (s.port.buffer.take (2 + n)) = s.port.buffer.getD (2 + n) 0#8
    (s.port.dropped = true ∨ s.port.buffer = [] ∨ code = 0#8 →
      exec (.noCommand after) s = .next (closed [0x01#8, 0x00#8, 0x00#8, 0x6B#8]))
    ∧ (s.port.dropped = false → s.port.buffer ≠ [] → code ≠ 0#8 → ¬ good →
      exec (.badCheck after) s = .next (closed (responseFrame .badCheck code [])))
    ∧ (s.port.dropped = false → s.port.buffer ≠ [] → code ≠ 0#8 → good →
      code ∉ [0x01#8, 0x02#8, 0x03#8, 0x04#8, 0x05#8, 0x10#8, 0x11#8, 0x12#8, 0x13#8, 0x14#8, 0x15#8] →
      exec (.unknownCommand after) s = .next (closed (responseFrame .unknownCommand code [])))

/-- A closing transaction in STARTING or QUIESCENT that carries a command is answered NOT_READY with the station state
and the start cause, one whose payload has the wrong length BAD_ARGUMENT; neither has any other effect. The port after the
close, with an empty buffer, no bits, output position 0 and PSO low, is the model's inference (notes/assumptions/15.md). -/
def Obligations.NotReadyAndBadLengthHaveNoEffect : Prop :=
  ∀ (after : Nat) (payload filler : List Byte) (s : State),
    ∀ c ∈ [(Instr.readSummary after, PanelCommand.readSummary, 0), (.readTable after, .readTable, 0),
        (.readRoster after, .readRoster, 1), (.readInputs after, .readInputs, 0),
        (.readCounters after, .readCounters, 0), (.post after, .post, 4), (.withdraw after, .withdraw, 1),
        (.silence after, .silence, 0), (.restore after, .restore, 0), (.test after, .test, 0),
        (.clearCounters after, .clearCounters, 0)],
      s.port.opened = true → s.port.dropped = false → payload.length ≤ 90 →
      s.port.buffer = commandFrame c.2.1.code payload ++ filler →
      let closed (response : List Byte) : State := { s.elapse after with
        port := { s.port with
          opened := false, dropped := false, buffer := [], bitCount := 0, shift := 0#8, outPos := 0, pso := false
          held := response } }
      (s.running = false → exec c.1 s = .next (closed (responseFrame .notReady c.2.1.code
        [if s.startup.station = .starting then 0x00#8 else 0x03#8,
         match s.startup.cause with
         | .powerOn => 0x00#8
         | .resetPin => 0x01#8
         | .supplyRecovery => 0x02#8])))
      ∧ (s.running = true → payload.length ≠ c.2.2 →
        exec c.1 s = .next (closed (responseFrame .badArgument c.2.1.code [])))

/-- The five reads answer with what the station shows and change nothing but the held response; READ_SUMMARY clears the
ATTN latch. READ_ROSTER of a half that is neither 0 nor 1 is BAD_ARGUMENT. The port after the close, with an empty buffer, no
bits, output position 0 and PSO low, is the model's inference (notes/assumptions/15.md). -/
def Obligations.ReadsAnswerAndChangeNothing : Prop :=
  ∀ (after : Nat) (filler : List Byte) (s : State), s.running = true → s.port.opened = true → s.port.dropped = false →
    let closed (attn : Bool) (code : Byte) (payload : List Byte) : State := { s.elapse after with
      port := { s.port with
        opened := false, dropped := false, buffer := [], bitCount := 0, shift := 0#8, outPos := 0, pso := false
        held := responseFrame .ok code payload, attn := attn } }
    (s.port.buffer = [0x01#8, 0x00#8, 0x15#8] ++ filler →
      exec (.readSummary after) s = .next (closed false 0x01#8
          [if s.startup.station = .joining then 0x01#8 else 0x02#8, s.startup.cause.code,
           BitVec.ofNat 8 s.startup.ownAddr, BitVec.ofNat 8 s.beat.lock.code, s.beat.barCount,
           BitVec.ofNat 8 s.beat.beatIndex.toNat, BitVec.ofNat 8 s.supply.lastBand, s.supply.condition.code,
           (s.table.head?.map fun e => BitVec.ofNat 8 e.cue).getD 0#8,
           (s.table.head?.map fun e => BitVec.ofNat 8 e.priority).getD 0#8,
           BitVec.ofNat 8 s.table.length, s.faults, BitVec.ofNat 8 s.library.rejected]))
    ∧ (s.port.buffer = commandFrame 0x02#8 [] ++ filler →
      exec (.readTable after) s = .next (closed s.port.attn 0x02#8 (BitVec.ofNat 8 s.table.length :: s.table.flatMap fun e =>
        [BitVec.ofNat 8 ((if e.silenced then 128 else 0) + (if e.latched then 64 else 0) + e.cue),
         BitVec.ofNat 8 (8 * e.input + e.priority), BitVec.ofNat 8 (32 * e.state.code + e.origin),
         BitVec.ofNat 8 (16 * e.stampBeat.toNat + e.miss), e.stampBar])))
    ∧ (∀ half ∈ [0, 1], s.port.buffer = commandFrame 0x03#8 [BitVec.ofNat 8 half] ++ filler →
      exec (.readRoster after) s = .next (closed s.port.attn 0x03#8
        (BitVec.ofNat 8 (16 * half) :: ((s.roster.drop (16 * half)).take 16).flatMap fun e =>
          let own : Bool := e.state == .self
          let anyFault := if own then s.faults != 0#8 else e.anyFault
          let supplyLow := if own then s.supply.condition == .low else e.supplyLow
          let miss := if own then 0 else e.miss
          let lock := if own then 4 + s.beat.lock.code else if e.heardLocked then 1 else 0
          [BitVec.ofNat 8 ((if e.lastHeard.isSome then 128 else 0) + (if anyFault then 64 else 0)
              + (if supplyLow then 32 else 0) + 8 * miss + e.state.code),
           BitVec.ofNat 8 (16 * (match e.lastHeard with | some h => h.2.toNat | none => 0) + lock),
           (match e.lastHeard with | some h => h.1 | none => 0#8), if own then s.faults else e.faultByte])))
    ∧ (∀ half : Byte, 2 ≤ half.toNat → s.port.buffer = commandFrame 0x03#8 [half] ++ filler →
      exec (.readRoster after) s = .next { s.elapse after with
        port := { s.port with
          opened := false, dropped := false, buffer := [], bitCount := 0, shift := 0#8, outPos := 0, pso := false
          held := responseFrame .badArgument 0x03#8 [] } })
    ∧ (s.port.buffer = commandFrame 0x04#8 [] ++ filler →
      exec (.readInputs after) s = .next (closed s.port.attn 0x04#8 (s.inputs.flatMap fun x =>
        [BitVec.ofNat 8 (16 * x.qualified.code + x.candidate.code),
         BitVec.ofNat 8 ((if x.lineFault then 4 else 0) + x.request.code)])))
    ∧ (s.port.buffer = commandFrame 0x05#8 [] ++ filler →
      exec (.readCounters after) s = .next (closed s.port.attn 0x05#8
        ([s.counters.rxErr, s.counters.misplaced, s.counters.arbLoss, s.counters.txqDiscard, s.counters.txExpired,
          s.counters.stray, s.counters.tableOvf].map (BitVec.ofNat 8))))

/-- POST raises the request of an IDLE virtual input, with its entry in the table, where a full table gives up its
last-ranked foreign entry for it, and a RAISE that joins the queue: it takes a waiting CLEAR of its input out, stands by its
lead byte, and a full queue discards the last of the seven, which is counted. A changed head is handed on to the player and
marks ATTN; the level 0 of a sounder without a source is the model's choice (notes/assumptions/11.md). On an input that
is not IDLE it is taken when it repeats the fields posted and is INPUT_BUSY when it does not. Arguments out of range
are BAD_ARGUMENT. -/
def Obligations.PostRaisesAVirtualInput : Prop :=
  ∀ (after : Nat) (filler : List Byte) (i cue priority latched : Byte) (s : State), s.running = true →
    s.port.opened = true → s.port.dropped = false →
    s.port.buffer = commandFrame 0x10#8 [i, cue, priority, latched] ++ filler →
    let legal := 8 ≤ i.toNat ∧ i.toNat ≤ 11 ∧ 1 ≤ cue.toNat ∧ cue.toNat ≤ 63 ∧ 1 ≤ priority.toNat
      ∧ priority.toNat ≤ 7 ∧ latched.toNat ≤ 1
    let r : Request := ⟨cue.toNat, priority.toNat, latched == 1#8⟩
    let own : Nat := s.startup.ownAddr
    ∃ t, exec (.post after) s = .next t ∧ t.roster = s.roster ∧ t.beat = (s.elapse after).beat
      ∧ t.keys = (s.elapse after).keys ∧ t.startup = (s.elapse after).startup ∧ t.port.opened = false
      ∧ (¬ legal → t.port.held = responseFrame .badArgument 0x10#8 [] ∧ t.table = s.table ∧ t.queue = s.queue
          ∧ t.inputs = (s.elapse after).inputs)
      ∧ (legal → (s.input i.toNat).request ≠ .idle →
          t.table = s.table ∧ t.queue = s.queue ∧ t.inputs = (s.elapse after).inputs
          ∧ t.port.held =
            (if (s.input i.toNat).posted = some r then
              responseFrame .ok 0x10#8 [if (s.input i.toNat).request = .raised then 0x01#8 else 0x02#8]
            else responseFrame .inputBusy 0x10#8 []))
      ∧ (legal → (s.input i.toNat).request = .idle → s.inputs.length = 12 →
          t.inputs = (s.elapse after).inputs.modify i.toNat (fun x => { x with request := .raised, posted := some r })
          ∧ t.port.held = responseFrame .ok 0x10#8 [0x01#8] ∧ s.handsOn t
          ∧ (s.table.length < 16 → t.table.Perm
            (⟨cue.toNat, priority.toNat, own, i.toNat, .active, latched == 1#8, false, 0, s.beat.barCount,
              s.beat.beatIndex⟩ :: s.table.filter fun e => !(e.origin == own && e.input == i.toNat)))
          ∧ (TableOk s.table → (∀ e ∈ s.table, (e.origin == own && e.input == i.toNat) = false) → 16 ≤ s.table.length →
            s.counters.Ok → ∀ l, (s.table.filter fun e => e.origin != own).getLast? = some l →
            t.table.Perm (⟨cue.toNat, priority.toNat, own, i.toNat, .active, latched == 1#8, false, 0, s.beat.barCount,
                s.beat.beatIndex⟩ :: s.table.erase l)
              ∧ t.counters.tableOvf = min 255 (s.counters.tableOvf + 1) ∧ t.faults = s.faults ||| 0x80#8)
          ∧ (s.queue.messages.length < 6 → ∃ m ∈ t.queue.messages, m.news = .raise i.toNat r)
          ∧ (s.queue.inOrder → s.counters.Ok →
            t.queue.messages = (s.queue.joinedBy (.raise i.toNat r)).1
              ∧ t.counters.txqDiscard =
                (if (s.queue.joinedBy (.raise i.toNat r)).2 then min 255 (s.counters.txqDiscard + 1)
                else s.counters.txqDiscard)))

/-- WITHDRAW takes a RAISED virtual input's request back: to HELD when it was posted latched, else to IDLE with its
entry gone from the table and a CLEAR with that entry's fields for the queue: it takes a waiting RAISE of its input
out, and joins where none waited or the RAISE is on the line, under the queue's capacity rule. A changed head is
handed on to the player and marks ATTN; the level 0 of a sounder without a source is the model's choice
(notes/assumptions/11.md). On an input that is not RAISED it does nothing, and an argument that names no virtual input
is BAD_ARGUMENT. -/
def Obligations.WithdrawTakesBackARequest : Prop :=
  ∀ (after : Nat) (filler : List Byte) (i : Byte) (s : State), s.running = true →
    s.port.opened = true → s.port.dropped = false → s.port.buffer = commandFrame 0x11#8 [i] ++ filler →
    s.inputs.length = 12 →
    let virtual := 8 ≤ i.toNat ∧ i.toNat ≤ 11
    let x := s.input i.toNat
    let latched := match x.posted with | some r => r.latched | none => false
    ∃ t, exec (.withdraw after) s = .next t ∧ t.roster = s.roster ∧ t.beat = (s.elapse after).beat
      ∧ t.keys = (s.elapse after).keys ∧ t.startup = (s.elapse after).startup ∧ t.port.opened = false
      ∧ (¬ virtual → t.port.held = responseFrame .badArgument 0x11#8 [] ∧ t.table = s.table ∧ t.queue = s.queue
          ∧ t.inputs = (s.elapse after).inputs)
      ∧ (virtual → x.request ≠ .raised →
          t.table = s.table ∧ t.queue = s.queue ∧ t.inputs = (s.elapse after).inputs
          ∧ t.port.held = responseFrame .ok 0x11#8 [if x.request = .idle then 0x00#8 else 0x02#8])
      ∧ (virtual → x.request = .raised → latched = true →
          t.table = s.table ∧ t.queue = s.queue
          ∧ t.inputs = (s.elapse after).inputs.modify i.toNat (fun y => { y with request := .held })
          ∧ t.port.held = responseFrame .ok 0x11#8 [0x02#8])
      ∧ (virtual → x.request = .raised → latched = false →
          t.table = s.table.filter (fun e => !(e.origin == s.startup.ownAddr && e.input == i.toNat))
          ∧ t.inputs = (s.elapse after).inputs.modify i.toNat (fun y => { y with request := .idle, posted := none })
          ∧ t.port.held = responseFrame .ok 0x11#8 [0x00#8]
          ∧ ∀ e, (s.table.find? fun e => e.origin == s.startup.ownAddr && e.input == i.toNat) = some e →
            s.handsOn t ∧ (s.queue.inOrder → s.counters.Ok →
            let news : News := .clear i.toNat ⟨e.cue, e.priority, e.latched⟩
            t.queue.messages = (s.queue.joinedBy news).1
              ∧ t.counters.txqDiscard =
                (if (s.queue.joinedBy news).2 then min 255 (s.counters.txqDiscard + 1) else s.counters.txqDiscard)))

/-- The four commands without a payload that act: SILENCE and RESTORE are originated here, and their messages join the
queue where none of their kind waits, TEST asks for an output test that only an empty table allows, and CLEAR_COUNTERS
answers with the counters and clears them. The port after the close, with an empty buffer, no bits, output position 0 and PSO
low, is the model's inference (notes/assumptions/15.md). -/
def Obligations.PanelSilenceRestoreTestClear : Prop :=
  ∀ (after : Nat) (filler : List Byte) (s : State), s.running = true → s.port.opened = true → s.port.dropped = false →
    (s.port.buffer = commandFrame 0x12#8 [] ++ filler →
      ∃ t, exec (.silence after) s = .next t ∧ t.table = s.table.map (fun e => { e with silenced := true })
        ∧ t.player.sound = false ∧ t.port.held = responseFrame .ok 0x12#8 []
        ∧ (s.queue.messages.length < 6 → ∃ m ∈ t.queue.messages, m.news = .silence)
        ∧ (s.queue.inOrder → t.queue.messages = (s.queue.joinedBy .silence).1)
        ∧ t.inputs = (s.elapse after).inputs ∧ t.roster = s.roster ∧ t.faults = s.faults
        ∧ t.keys = (s.elapse after).keys)
    ∧ (s.port.buffer = commandFrame 0x13#8 [] ++ filler →
      ∃ t, exec (.restore after) s = .next t
        ∧ t.table = s.table.filterMap (fun e =>
            if e.origin = s.startup.ownAddr then (if (s.input e.input).request = .held then none else some e)
            else if e.state = .orphaned then none else some { e with state := .provisional, miss := 0 })
        ∧ t.inputs = (s.elapse after).inputs.map (fun x =>
            if x.request = .held then { x with request := .idle, posted := none } else x)
        ∧ t.roster = s.roster.map (fun e =>
            if e.state = .missing then { e with state := .unknown, miss := 0 } else e)
        ∧ hasFault t.faults .addressConflict = false ∧ hasFault t.faults .tableOverflow = false
        ∧ t.port.held = responseFrame .ok 0x13#8 []
        ∧ (s.queue.messages.length < 6 → ∃ m ∈ t.queue.messages, m.news = .restore)
        ∧ (s.queue.inOrder →
          let kept := s.queue.messages.filter fun m =>
            match m.news with
            | .raise i _ => (s.input i).request != .held
            | .clear _ _ | .silence | .restore => true
          t.queue.messages = (TxQueue.joinedBy .restore ⟨kept, s.queue.nextJoin⟩).1)
        ∧ t.keys = (s.elapse after).keys ∧ t.beat = (s.elapse after).beat)
    ∧ (s.port.buffer = commandFrame 0x14#8 [] ++ filler →
      exec (.clearCounters after) s = .next { s.elapse after with
        counters := ⟨0, 0, 0, 0, 0, 0, 0⟩
        port := { s.port with
          opened := false, dropped := false, buffer := [], bitCount := 0, shift := 0#8, outPos := 0, pso := false
          held := responseFrame .ok 0x14#8
            ([s.counters.rxErr, s.counters.misplaced, s.counters.arbLoss, s.counters.txqDiscard,
              s.counters.txExpired, s.counters.stray, s.counters.tableOvf].map (BitVec.ofNat 8)) } })
    ∧ (s.port.buffer = commandFrame 0x15#8 [] ++ filler →
      ∃ t, exec (.test after) s = .next t ∧ t.table = s.table ∧ t.queue = s.queue ∧ t.faults = s.faults
        ∧ t.drive = (s.elapse after).drive
        ∧ t.player = { s.player with
            testDue := s.player.testDue || (s.table.isEmpty && s.player.mode != .test) }
        ∧ t.port.held = responseFrame (if s.table = [] then .ok else .refused) 0x15#8 [])

/-! ### Bytes and their contents -/

/-- Every frame that the frame rules allow is read back from its own bytes whole: no field is lost on the line. Its
check byte is what the register holds after every byte before it in the order sent: a register that starts at 0, takes
each byte by exclusive-OR and is then stepped eight times, a step shifting it one place toward the most significant
end and, where its most significant bit was 1, combining it with 0x07. A receiver compares the register over the bytes
before the check byte with it: equivalently, the register over all the bytes ends at 0, and no sequence of bytes for
which it does not is a frame. -/
def Obligations.FramesReadBackAsSent : Prop :=
  let step (r : Byte) : Byte := if r.getLsbD 7 then (r <<< 1) ^^^ 0x07#8 else r <<< 1
  let register (bs : List Byte) : Byte :=
    bs.foldl (fun r b => step (step (step (step (step (step (step (step (r ^^^ b))))))))) 0#8
  (∀ f : Frame, f.wellFormed = true → parseFrame f.bytes = some f)
    ∧ (∀ f : Frame, f.bytes.getLast? = some (register f.bytes.dropLast))
    ∧ (∀ (bs : List Byte) (check : Byte), register (bs ++ [check]) = 0#8 ↔ check = register bs)
    ∧ (∀ (bs : List Byte) (check : Byte), check ≠ register bs → parseFrame (bs ++ [check]) = none)

/-- Every panel command is read back from its own frame, whatever bytes are clocked after it: the code, the length and
the payload are all kept, and so is the frame's check. -/
def Obligations.PanelFramesReadBackAsSent : Prop :=
  ∀ (c : PanelCommand) (payload filler : List Byte), payload.length ≤ 90 →
    carried (commandFrame c.code payload ++ filler) = .command c payload

/-! ### Conditions that every step keeps -/

/-- Counts and sizes. Every counter lies in 0 to 255, the table holds at most sixteen entries, one to a key, in rank
order, the queue at most six messages in line order, none as old as its expiry, and the roster and the inputs keep their
numbers. -/
def Obligations.EveryStepKeepsCountsTableAndQueue : Prop :=
  ∀ s t : State, s.Ok → step s = .next t → t.counters.Ok ∧ TableOk t.table ∧ t.queue.Ok ∧ t.SizesOk

/-- The modes agree. The beat unit is HALTED exactly while the station is STARTING or QUIESCENT, a MEMBER is LOCKED, a
QUIESCENT station's supply is CUTOFF and its outputs are off, it drives no line, and only a MEMBER sends. A STARTING
or QUIESCENT station's table, queue and transceiver are as at a start. The station holds a mark only in SETTLING or
LOCKED and reads it as BEAT low from 2 µs into it, and neither line's filter has more than 2 µs to run: how the filter
shows so in the state is the model's (notes/assumptions/7.md). The slot timer at 0 where it is stopped, and the level
0 of a sounder without a source, are its choice (notes/assumptions/11.md). -/
def Obligations.EveryStepKeepsTheModes : Prop :=
  ∀ s t : State, s.Ok → step s = .next t →
    t.ModesOk ∧ t.TxOk ∧ t.MarkOk ∧ t.RestOk ∧ t.DarkOk
      ∧ (t.startup.station = .quiescent → t.offTheLoop) ∧ (t.drivesData = true → t.startup.station = .member)

/-- The player plays for the table's head, its sound follows the table, and PEER_MISSING, LINE_FAULT, SUPPLY_LOW and
BEAT_STUCK stand exactly while their causes do. -/
def Obligations.EveryStepKeepsPlayerAndFaults : Prop :=
  ∀ s t : State, s.Ok → step s = .next t → t.PlayerOk ∧ t.FaultsOk

/-- An ORPHANED entry is a latched one of a MISSING station. Each own entry of the table belongs to a RAISED or HELD
input and each such input has its entry, and every field of a request, an entry or a message is in range. An owner
whose STATUS is heard in a slot has no ORPHANED entry, only a slot in progress has an owner, and an image that waits
for its load has passed its checks. -/
def Obligations.EveryStepKeepsTheEntries : Prop :=
  ∀ s t : State, s.Ok → step s = .next t → t.OrphansOk ∧ t.OwnOk ∧ t.RangesOk
end

