-- ==== Sys2Proof/Laws/State.lean ====
section
/-! SUPPORT. Reading a block after replacing a block: one lemma for each pair. -/

namespace Sys2Proof.Machine.State

@[simp] theorem setPending_pending (s : State) (x : List Instr) : (s.setPending x).pending = x := rfl
@[simp] theorem setPending_pins (s : State) (x : List Instr) : (s.setPending x).pins = s.pins := rfl
@[simp] theorem setPending_beat (s : State) (x : List Instr) : (s.setPending x).beat = s.beat := rfl
@[simp] theorem setPending_line (s : State) (x : List Instr) : (s.setPending x).line = s.line := rfl
@[simp] theorem setPending_loop (s : State) (x : List Instr) : (s.setPending x).loop = s.loop := rfl
@[simp] theorem setPending_queue (s : State) (x : List Instr) : (s.setPending x).queue = s.queue := rfl
@[simp] theorem setPending_table (s : State) (x : List Instr) : (s.setPending x).table = s.table := rfl
@[simp] theorem setPending_roster (s : State) (x : List Instr) : (s.setPending x).roster = s.roster := rfl
@[simp] theorem setPending_faults (s : State) (x : List Instr) : (s.setPending x).faults = s.faults := rfl
@[simp] theorem setPending_counters (s : State) (x : List Instr) : (s.setPending x).counters = s.counters := rfl
@[simp] theorem setPending_library (s : State) (x : List Instr) : (s.setPending x).library = s.library := rfl
@[simp] theorem setPending_player (s : State) (x : List Instr) : (s.setPending x).player = s.player := rfl
@[simp] theorem setPending_drive (s : State) (x : List Instr) : (s.setPending x).drive = s.drive := rfl
@[simp] theorem setPending_converter (s : State) (x : List Instr) : (s.setPending x).converter = s.converter := rfl
@[simp] theorem setPending_scanner (s : State) (x : List Instr) : (s.setPending x).scanner = s.scanner := rfl
@[simp] theorem setPending_bindings (s : State) (x : List Instr) : (s.setPending x).bindings = s.bindings := rfl
@[simp] theorem setPending_inputs (s : State) (x : List Instr) : (s.setPending x).inputs = s.inputs := rfl
@[simp] theorem setPending_keys (s : State) (x : List Instr) : (s.setPending x).keys = s.keys := rfl
@[simp] theorem setPending_supply (s : State) (x : List Instr) : (s.setPending x).supply = s.supply := rfl
@[simp] theorem setPending_startup (s : State) (x : List Instr) : (s.setPending x).startup = s.startup := rfl
@[simp] theorem setPending_port (s : State) (x : List Instr) : (s.setPending x).port = s.port := rfl
@[simp] theorem setPins_pending (s : State) (x : Pins) : (s.setPins x).pending = s.pending := rfl
@[simp] theorem setPins_pins (s : State) (x : Pins) : (s.setPins x).pins = x := rfl
@[simp] theorem setPins_beat (s : State) (x : Pins) : (s.setPins x).beat = s.beat := rfl
@[simp] theorem setPins_line (s : State) (x : Pins) : (s.setPins x).line = s.line := rfl
@[simp] theorem setPins_loop (s : State) (x : Pins) : (s.setPins x).loop = s.loop := rfl
@[simp] theorem setPins_queue (s : State) (x : Pins) : (s.setPins x).queue = s.queue := rfl
@[simp] theorem setPins_table (s : State) (x : Pins) : (s.setPins x).table = s.table := rfl
@[simp] theorem setPins_roster (s : State) (x : Pins) : (s.setPins x).roster = s.roster := rfl
@[simp] theorem setPins_faults (s : State) (x : Pins) : (s.setPins x).faults = s.faults := rfl
@[simp] theorem setPins_counters (s : State) (x : Pins) : (s.setPins x).counters = s.counters := rfl
@[simp] theorem setPins_library (s : State) (x : Pins) : (s.setPins x).library = s.library := rfl
@[simp] theorem setPins_player (s : State) (x : Pins) : (s.setPins x).player = s.player := rfl
@[simp] theorem setPins_drive (s : State) (x : Pins) : (s.setPins x).drive = s.drive := rfl
@[simp] theorem setPins_converter (s : State) (x : Pins) : (s.setPins x).converter = s.converter := rfl
@[simp] theorem setPins_scanner (s : State) (x : Pins) : (s.setPins x).scanner = s.scanner := rfl
@[simp] theorem setPins_bindings (s : State) (x : Pins) : (s.setPins x).bindings = s.bindings := rfl
@[simp] theorem setPins_inputs (s : State) (x : Pins) : (s.setPins x).inputs = s.inputs := rfl
@[simp] theorem setPins_keys (s : State) (x : Pins) : (s.setPins x).keys = s.keys := rfl
@[simp] theorem setPins_supply (s : State) (x : Pins) : (s.setPins x).supply = s.supply := rfl
@[simp] theorem setPins_startup (s : State) (x : Pins) : (s.setPins x).startup = s.startup := rfl
@[simp] theorem setPins_port (s : State) (x : Pins) : (s.setPins x).port = s.port := rfl
@[simp] theorem setBeat_pending (s : State) (x : BeatUnit) : (s.setBeat x).pending = s.pending := rfl
@[simp] theorem setBeat_pins (s : State) (x : BeatUnit) : (s.setBeat x).pins = s.pins := rfl
@[simp] theorem setBeat_beat (s : State) (x : BeatUnit) : (s.setBeat x).beat = x := rfl
@[simp] theorem setBeat_line (s : State) (x : BeatUnit) : (s.setBeat x).line = s.line := rfl
@[simp] theorem setBeat_loop (s : State) (x : BeatUnit) : (s.setBeat x).loop = s.loop := rfl
@[simp] theorem setBeat_queue (s : State) (x : BeatUnit) : (s.setBeat x).queue = s.queue := rfl
@[simp] theorem setBeat_table (s : State) (x : BeatUnit) : (s.setBeat x).table = s.table := rfl
@[simp] theorem setBeat_roster (s : State) (x : BeatUnit) : (s.setBeat x).roster = s.roster := rfl
@[simp] theorem setBeat_faults (s : State) (x : BeatUnit) : (s.setBeat x).faults = s.faults := rfl
@[simp] theorem setBeat_counters (s : State) (x : BeatUnit) : (s.setBeat x).counters = s.counters := rfl
@[simp] theorem setBeat_library (s : State) (x : BeatUnit) : (s.setBeat x).library = s.library := rfl
@[simp] theorem setBeat_player (s : State) (x : BeatUnit) : (s.setBeat x).player = s.player := rfl
@[simp] theorem setBeat_drive (s : State) (x : BeatUnit) : (s.setBeat x).drive = s.drive := rfl
@[simp] theorem setBeat_converter (s : State) (x : BeatUnit) : (s.setBeat x).converter = s.converter := rfl
@[simp] theorem setBeat_scanner (s : State) (x : BeatUnit) : (s.setBeat x).scanner = s.scanner := rfl
@[simp] theorem setBeat_bindings (s : State) (x : BeatUnit) : (s.setBeat x).bindings = s.bindings := rfl
@[simp] theorem setBeat_inputs (s : State) (x : BeatUnit) : (s.setBeat x).inputs = s.inputs := rfl
@[simp] theorem setBeat_keys (s : State) (x : BeatUnit) : (s.setBeat x).keys = s.keys := rfl
@[simp] theorem setBeat_supply (s : State) (x : BeatUnit) : (s.setBeat x).supply = s.supply := rfl
@[simp] theorem setBeat_startup (s : State) (x : BeatUnit) : (s.setBeat x).startup = s.startup := rfl
@[simp] theorem setBeat_port (s : State) (x : BeatUnit) : (s.setBeat x).port = s.port := rfl
@[simp] theorem setLine_pending (s : State) (x : Line) : (s.setLine x).pending = s.pending := rfl
@[simp] theorem setLine_pins (s : State) (x : Line) : (s.setLine x).pins = s.pins := rfl
@[simp] theorem setLine_beat (s : State) (x : Line) : (s.setLine x).beat = s.beat := rfl
@[simp] theorem setLine_line (s : State) (x : Line) : (s.setLine x).line = x := rfl
@[simp] theorem setLine_loop (s : State) (x : Line) : (s.setLine x).loop = s.loop := rfl
@[simp] theorem setLine_queue (s : State) (x : Line) : (s.setLine x).queue = s.queue := rfl
@[simp] theorem setLine_table (s : State) (x : Line) : (s.setLine x).table = s.table := rfl
@[simp] theorem setLine_roster (s : State) (x : Line) : (s.setLine x).roster = s.roster := rfl
@[simp] theorem setLine_faults (s : State) (x : Line) : (s.setLine x).faults = s.faults := rfl
@[simp] theorem setLine_counters (s : State) (x : Line) : (s.setLine x).counters = s.counters := rfl
@[simp] theorem setLine_library (s : State) (x : Line) : (s.setLine x).library = s.library := rfl
@[simp] theorem setLine_player (s : State) (x : Line) : (s.setLine x).player = s.player := rfl
@[simp] theorem setLine_drive (s : State) (x : Line) : (s.setLine x).drive = s.drive := rfl
@[simp] theorem setLine_converter (s : State) (x : Line) : (s.setLine x).converter = s.converter := rfl
@[simp] theorem setLine_scanner (s : State) (x : Line) : (s.setLine x).scanner = s.scanner := rfl
@[simp] theorem setLine_bindings (s : State) (x : Line) : (s.setLine x).bindings = s.bindings := rfl
@[simp] theorem setLine_inputs (s : State) (x : Line) : (s.setLine x).inputs = s.inputs := rfl
@[simp] theorem setLine_keys (s : State) (x : Line) : (s.setLine x).keys = s.keys := rfl
@[simp] theorem setLine_supply (s : State) (x : Line) : (s.setLine x).supply = s.supply := rfl
@[simp] theorem setLine_startup (s : State) (x : Line) : (s.setLine x).startup = s.startup := rfl
@[simp] theorem setLine_port (s : State) (x : Line) : (s.setLine x).port = s.port := rfl
@[simp] theorem setLoop_pending (s : State) (x : Transceiver) : (s.setLoop x).pending = s.pending := rfl
@[simp] theorem setLoop_pins (s : State) (x : Transceiver) : (s.setLoop x).pins = s.pins := rfl
@[simp] theorem setLoop_beat (s : State) (x : Transceiver) : (s.setLoop x).beat = s.beat := rfl
@[simp] theorem setLoop_line (s : State) (x : Transceiver) : (s.setLoop x).line = s.line := rfl
@[simp] theorem setLoop_loop (s : State) (x : Transceiver) : (s.setLoop x).loop = x := rfl
@[simp] theorem setLoop_queue (s : State) (x : Transceiver) : (s.setLoop x).queue = s.queue := rfl
@[simp] theorem setLoop_table (s : State) (x : Transceiver) : (s.setLoop x).table = s.table := rfl
@[simp] theorem setLoop_roster (s : State) (x : Transceiver) : (s.setLoop x).roster = s.roster := rfl
@[simp] theorem setLoop_faults (s : State) (x : Transceiver) : (s.setLoop x).faults = s.faults := rfl
@[simp] theorem setLoop_counters (s : State) (x : Transceiver) : (s.setLoop x).counters = s.counters := rfl
@[simp] theorem setLoop_library (s : State) (x : Transceiver) : (s.setLoop x).library = s.library := rfl
@[simp] theorem setLoop_player (s : State) (x : Transceiver) : (s.setLoop x).player = s.player := rfl
@[simp] theorem setLoop_drive (s : State) (x : Transceiver) : (s.setLoop x).drive = s.drive := rfl
@[simp] theorem setLoop_converter (s : State) (x : Transceiver) : (s.setLoop x).converter = s.converter := rfl
@[simp] theorem setLoop_scanner (s : State) (x : Transceiver) : (s.setLoop x).scanner = s.scanner := rfl
@[simp] theorem setLoop_bindings (s : State) (x : Transceiver) : (s.setLoop x).bindings = s.bindings := rfl
@[simp] theorem setLoop_inputs (s : State) (x : Transceiver) : (s.setLoop x).inputs = s.inputs := rfl
@[simp] theorem setLoop_keys (s : State) (x : Transceiver) : (s.setLoop x).keys = s.keys := rfl
@[simp] theorem setLoop_supply (s : State) (x : Transceiver) : (s.setLoop x).supply = s.supply := rfl
@[simp] theorem setLoop_startup (s : State) (x : Transceiver) : (s.setLoop x).startup = s.startup := rfl
@[simp] theorem setLoop_port (s : State) (x : Transceiver) : (s.setLoop x).port = s.port := rfl
@[simp] theorem setQueue_pending (s : State) (x : TxQueue) : (s.setQueue x).pending = s.pending := rfl
@[simp] theorem setQueue_pins (s : State) (x : TxQueue) : (s.setQueue x).pins = s.pins := rfl
@[simp] theorem setQueue_beat (s : State) (x : TxQueue) : (s.setQueue x).beat = s.beat := rfl
@[simp] theorem setQueue_line (s : State) (x : TxQueue) : (s.setQueue x).line = s.line := rfl
@[simp] theorem setQueue_loop (s : State) (x : TxQueue) : (s.setQueue x).loop = s.loop := rfl
@[simp] theorem setQueue_queue (s : State) (x : TxQueue) : (s.setQueue x).queue = x := rfl
@[simp] theorem setQueue_table (s : State) (x : TxQueue) : (s.setQueue x).table = s.table := rfl
@[simp] theorem setQueue_roster (s : State) (x : TxQueue) : (s.setQueue x).roster = s.roster := rfl
@[simp] theorem setQueue_faults (s : State) (x : TxQueue) : (s.setQueue x).faults = s.faults := rfl
@[simp] theorem setQueue_counters (s : State) (x : TxQueue) : (s.setQueue x).counters = s.counters := rfl
@[simp] theorem setQueue_library (s : State) (x : TxQueue) : (s.setQueue x).library = s.library := rfl
@[simp] theorem setQueue_player (s : State) (x : TxQueue) : (s.setQueue x).player = s.player := rfl
@[simp] theorem setQueue_drive (s : State) (x : TxQueue) : (s.setQueue x).drive = s.drive := rfl
@[simp] theorem setQueue_converter (s : State) (x : TxQueue) : (s.setQueue x).converter = s.converter := rfl
@[simp] theorem setQueue_scanner (s : State) (x : TxQueue) : (s.setQueue x).scanner = s.scanner := rfl
@[simp] theorem setQueue_bindings (s : State) (x : TxQueue) : (s.setQueue x).bindings = s.bindings := rfl
@[simp] theorem setQueue_inputs (s : State) (x : TxQueue) : (s.setQueue x).inputs = s.inputs := rfl
@[simp] theorem setQueue_keys (s : State) (x : TxQueue) : (s.setQueue x).keys = s.keys := rfl
@[simp] theorem setQueue_supply (s : State) (x : TxQueue) : (s.setQueue x).supply = s.supply := rfl
@[simp] theorem setQueue_startup (s : State) (x : TxQueue) : (s.setQueue x).startup = s.startup := rfl
@[simp] theorem setQueue_port (s : State) (x : TxQueue) : (s.setQueue x).port = s.port := rfl
@[simp] theorem setTable_pending (s : State) (x : List Entry) : (s.setTable x).pending = s.pending := rfl
@[simp] theorem setTable_pins (s : State) (x : List Entry) : (s.setTable x).pins = s.pins := rfl
@[simp] theorem setTable_beat (s : State) (x : List Entry) : (s.setTable x).beat = s.beat := rfl
@[simp] theorem setTable_line (s : State) (x : List Entry) : (s.setTable x).line = s.line := rfl
@[simp] theorem setTable_loop (s : State) (x : List Entry) : (s.setTable x).loop = s.loop := rfl
@[simp] theorem setTable_queue (s : State) (x : List Entry) : (s.setTable x).queue = s.queue := rfl
@[simp] theorem setTable_table (s : State) (x : List Entry) : (s.setTable x).table = x := rfl
@[simp] theorem setTable_roster (s : State) (x : List Entry) : (s.setTable x).roster = s.roster := rfl
@[simp] theorem setTable_faults (s : State) (x : List Entry) : (s.setTable x).faults = s.faults := rfl
@[simp] theorem setTable_counters (s : State) (x : List Entry) : (s.setTable x).counters = s.counters := rfl
@[simp] theorem setTable_library (s : State) (x : List Entry) : (s.setTable x).library = s.library := rfl
@[simp] theorem setTable_player (s : State) (x : List Entry) : (s.setTable x).player = s.player := rfl
@[simp] theorem setTable_drive (s : State) (x : List Entry) : (s.setTable x).drive = s.drive := rfl
@[simp] theorem setTable_converter (s : State) (x : List Entry) : (s.setTable x).converter = s.converter := rfl
@[simp] theorem setTable_scanner (s : State) (x : List Entry) : (s.setTable x).scanner = s.scanner := rfl
@[simp] theorem setTable_bindings (s : State) (x : List Entry) : (s.setTable x).bindings = s.bindings := rfl
@[simp] theorem setTable_inputs (s : State) (x : List Entry) : (s.setTable x).inputs = s.inputs := rfl
@[simp] theorem setTable_keys (s : State) (x : List Entry) : (s.setTable x).keys = s.keys := rfl
@[simp] theorem setTable_supply (s : State) (x : List Entry) : (s.setTable x).supply = s.supply := rfl
@[simp] theorem setTable_startup (s : State) (x : List Entry) : (s.setTable x).startup = s.startup := rfl
@[simp] theorem setTable_port (s : State) (x : List Entry) : (s.setTable x).port = s.port := rfl
@[simp] theorem setRoster_pending (s : State) (x : List RosterEntry) : (s.setRoster x).pending = s.pending := rfl
@[simp] theorem setRoster_pins (s : State) (x : List RosterEntry) : (s.setRoster x).pins = s.pins := rfl
@[simp] theorem setRoster_beat (s : State) (x : List RosterEntry) : (s.setRoster x).beat = s.beat := rfl
@[simp] theorem setRoster_line (s : State) (x : List RosterEntry) : (s.setRoster x).line = s.line := rfl
@[simp] theorem setRoster_loop (s : State) (x : List RosterEntry) : (s.setRoster x).loop = s.loop := rfl
@[simp] theorem setRoster_queue (s : State) (x : List RosterEntry) : (s.setRoster x).queue = s.queue := rfl
@[simp] theorem setRoster_table (s : State) (x : List RosterEntry) : (s.setRoster x).table = s.table := rfl
@[simp] theorem setRoster_roster (s : State) (x : List RosterEntry) : (s.setRoster x).roster = x := rfl
@[simp] theorem setRoster_faults (s : State) (x : List RosterEntry) : (s.setRoster x).faults = s.faults := rfl
@[simp] theorem setRoster_counters (s : State) (x : List RosterEntry) : (s.setRoster x).counters = s.counters := rfl
@[simp] theorem setRoster_library (s : State) (x : List RosterEntry) : (s.setRoster x).library = s.library := rfl
@[simp] theorem setRoster_player (s : State) (x : List RosterEntry) : (s.setRoster x).player = s.player := rfl
@[simp] theorem setRoster_drive (s : State) (x : List RosterEntry) : (s.setRoster x).drive = s.drive := rfl
@[simp] theorem setRoster_converter (s : State) (x : List RosterEntry) : (s.setRoster x).converter = s.converter := rfl
@[simp] theorem setRoster_scanner (s : State) (x : List RosterEntry) : (s.setRoster x).scanner = s.scanner := rfl
@[simp] theorem setRoster_bindings (s : State) (x : List RosterEntry) : (s.setRoster x).bindings = s.bindings := rfl
@[simp] theorem setRoster_inputs (s : State) (x : List RosterEntry) : (s.setRoster x).inputs = s.inputs := rfl
@[simp] theorem setRoster_keys (s : State) (x : List RosterEntry) : (s.setRoster x).keys = s.keys := rfl
@[simp] theorem setRoster_supply (s : State) (x : List RosterEntry) : (s.setRoster x).supply = s.supply := rfl
@[simp] theorem setRoster_startup (s : State) (x : List RosterEntry) : (s.setRoster x).startup = s.startup := rfl
@[simp] theorem setRoster_port (s : State) (x : List RosterEntry) : (s.setRoster x).port = s.port := rfl
@[simp] theorem setFaults_pending (s : State) (x : Byte) : (s.setFaults x).pending = s.pending := rfl
@[simp] theorem setFaults_pins (s : State) (x : Byte) : (s.setFaults x).pins = s.pins := rfl
@[simp] theorem setFaults_beat (s : State) (x : Byte) : (s.setFaults x).beat = s.beat := rfl
@[simp] theorem setFaults_line (s : State) (x : Byte) : (s.setFaults x).line = s.line := rfl
@[simp] theorem setFaults_loop (s : State) (x : Byte) : (s.setFaults x).loop = s.loop := rfl
@[simp] theorem setFaults_queue (s : State) (x : Byte) : (s.setFaults x).queue = s.queue := rfl
@[simp] theorem setFaults_table (s : State) (x : Byte) : (s.setFaults x).table = s.table := rfl
@[simp] theorem setFaults_roster (s : State) (x : Byte) : (s.setFaults x).roster = s.roster := rfl
@[simp] theorem setFaults_faults (s : State) (x : Byte) : (s.setFaults x).faults = x := rfl
@[simp] theorem setFaults_counters (s : State) (x : Byte) : (s.setFaults x).counters = s.counters := rfl
@[simp] theorem setFaults_library (s : State) (x : Byte) : (s.setFaults x).library = s.library := rfl
@[simp] theorem setFaults_player (s : State) (x : Byte) : (s.setFaults x).player = s.player := rfl
@[simp] theorem setFaults_drive (s : State) (x : Byte) : (s.setFaults x).drive = s.drive := rfl
@[simp] theorem setFaults_converter (s : State) (x : Byte) : (s.setFaults x).converter = s.converter := rfl
@[simp] theorem setFaults_scanner (s : State) (x : Byte) : (s.setFaults x).scanner = s.scanner := rfl
@[simp] theorem setFaults_bindings (s : State) (x : Byte) : (s.setFaults x).bindings = s.bindings := rfl
@[simp] theorem setFaults_inputs (s : State) (x : Byte) : (s.setFaults x).inputs = s.inputs := rfl
@[simp] theorem setFaults_keys (s : State) (x : Byte) : (s.setFaults x).keys = s.keys := rfl
@[simp] theorem setFaults_supply (s : State) (x : Byte) : (s.setFaults x).supply = s.supply := rfl
@[simp] theorem setFaults_startup (s : State) (x : Byte) : (s.setFaults x).startup = s.startup := rfl
@[simp] theorem setFaults_port (s : State) (x : Byte) : (s.setFaults x).port = s.port := rfl
@[simp] theorem setCounters_pending (s : State) (x : Counters) : (s.setCounters x).pending = s.pending := rfl
@[simp] theorem setCounters_pins (s : State) (x : Counters) : (s.setCounters x).pins = s.pins := rfl
@[simp] theorem setCounters_beat (s : State) (x : Counters) : (s.setCounters x).beat = s.beat := rfl
@[simp] theorem setCounters_line (s : State) (x : Counters) : (s.setCounters x).line = s.line := rfl
@[simp] theorem setCounters_loop (s : State) (x : Counters) : (s.setCounters x).loop = s.loop := rfl
@[simp] theorem setCounters_queue (s : State) (x : Counters) : (s.setCounters x).queue = s.queue := rfl
@[simp] theorem setCounters_table (s : State) (x : Counters) : (s.setCounters x).table = s.table := rfl
@[simp] theorem setCounters_roster (s : State) (x : Counters) : (s.setCounters x).roster = s.roster := rfl
@[simp] theorem setCounters_faults (s : State) (x : Counters) : (s.setCounters x).faults = s.faults := rfl
@[simp] theorem setCounters_counters (s : State) (x : Counters) : (s.setCounters x).counters = x := rfl
@[simp] theorem setCounters_library (s : State) (x : Counters) : (s.setCounters x).library = s.library := rfl
@[simp] theorem setCounters_player (s : State) (x : Counters) : (s.setCounters x).player = s.player := rfl
@[simp] theorem setCounters_drive (s : State) (x : Counters) : (s.setCounters x).drive = s.drive := rfl
@[simp] theorem setCounters_converter (s : State) (x : Counters) : (s.setCounters x).converter = s.converter := rfl
@[simp] theorem setCounters_scanner (s : State) (x : Counters) : (s.setCounters x).scanner = s.scanner := rfl
@[simp] theorem setCounters_bindings (s : State) (x : Counters) : (s.setCounters x).bindings = s.bindings := rfl
@[simp] theorem setCounters_inputs (s : State) (x : Counters) : (s.setCounters x).inputs = s.inputs := rfl
@[simp] theorem setCounters_keys (s : State) (x : Counters) : (s.setCounters x).keys = s.keys := rfl
@[simp] theorem setCounters_supply (s : State) (x : Counters) : (s.setCounters x).supply = s.supply := rfl
@[simp] theorem setCounters_startup (s : State) (x : Counters) : (s.setCounters x).startup = s.startup := rfl
@[simp] theorem setCounters_port (s : State) (x : Counters) : (s.setCounters x).port = s.port := rfl
@[simp] theorem setLibrary_pending (s : State) (x : Library) : (s.setLibrary x).pending = s.pending := rfl
@[simp] theorem setLibrary_pins (s : State) (x : Library) : (s.setLibrary x).pins = s.pins := rfl
@[simp] theorem setLibrary_beat (s : State) (x : Library) : (s.setLibrary x).beat = s.beat := rfl
@[simp] theorem setLibrary_line (s : State) (x : Library) : (s.setLibrary x).line = s.line := rfl
@[simp] theorem setLibrary_loop (s : State) (x : Library) : (s.setLibrary x).loop = s.loop := rfl
@[simp] theorem setLibrary_queue (s : State) (x : Library) : (s.setLibrary x).queue = s.queue := rfl
@[simp] theorem setLibrary_table (s : State) (x : Library) : (s.setLibrary x).table = s.table := rfl
@[simp] theorem setLibrary_roster (s : State) (x : Library) : (s.setLibrary x).roster = s.roster := rfl
@[simp] theorem setLibrary_faults (s : State) (x : Library) : (s.setLibrary x).faults = s.faults := rfl
@[simp] theorem setLibrary_counters (s : State) (x : Library) : (s.setLibrary x).counters = s.counters := rfl
@[simp] theorem setLibrary_library (s : State) (x : Library) : (s.setLibrary x).library = x := rfl
@[simp] theorem setLibrary_player (s : State) (x : Library) : (s.setLibrary x).player = s.player := rfl
@[simp] theorem setLibrary_drive (s : State) (x : Library) : (s.setLibrary x).drive = s.drive := rfl
@[simp] theorem setLibrary_converter (s : State) (x : Library) : (s.setLibrary x).converter = s.converter := rfl
@[simp] theorem setLibrary_scanner (s : State) (x : Library) : (s.setLibrary x).scanner = s.scanner := rfl
@[simp] theorem setLibrary_bindings (s : State) (x : Library) : (s.setLibrary x).bindings = s.bindings := rfl
@[simp] theorem setLibrary_inputs (s : State) (x : Library) : (s.setLibrary x).inputs = s.inputs := rfl
@[simp] theorem setLibrary_keys (s : State) (x : Library) : (s.setLibrary x).keys = s.keys := rfl
@[simp] theorem setLibrary_supply (s : State) (x : Library) : (s.setLibrary x).supply = s.supply := rfl
@[simp] theorem setLibrary_startup (s : State) (x : Library) : (s.setLibrary x).startup = s.startup := rfl
@[simp] theorem setLibrary_port (s : State) (x : Library) : (s.setLibrary x).port = s.port := rfl
@[simp] theorem setPlayer_pending (s : State) (x : Player) : (s.setPlayer x).pending = s.pending := rfl
@[simp] theorem setPlayer_pins (s : State) (x : Player) : (s.setPlayer x).pins = s.pins := rfl
@[simp] theorem setPlayer_beat (s : State) (x : Player) : (s.setPlayer x).beat = s.beat := rfl
@[simp] theorem setPlayer_line (s : State) (x : Player) : (s.setPlayer x).line = s.line := rfl
@[simp] theorem setPlayer_loop (s : State) (x : Player) : (s.setPlayer x).loop = s.loop := rfl
@[simp] theorem setPlayer_queue (s : State) (x : Player) : (s.setPlayer x).queue = s.queue := rfl
@[simp] theorem setPlayer_table (s : State) (x : Player) : (s.setPlayer x).table = s.table := rfl
@[simp] theorem setPlayer_roster (s : State) (x : Player) : (s.setPlayer x).roster = s.roster := rfl
@[simp] theorem setPlayer_faults (s : State) (x : Player) : (s.setPlayer x).faults = s.faults := rfl
@[simp] theorem setPlayer_counters (s : State) (x : Player) : (s.setPlayer x).counters = s.counters := rfl
@[simp] theorem setPlayer_library (s : State) (x : Player) : (s.setPlayer x).library = s.library := rfl
@[simp] theorem setPlayer_player (s : State) (x : Player) : (s.setPlayer x).player = x := rfl
@[simp] theorem setPlayer_drive (s : State) (x : Player) : (s.setPlayer x).drive = s.drive := rfl
@[simp] theorem setPlayer_converter (s : State) (x : Player) : (s.setPlayer x).converter = s.converter := rfl
@[simp] theorem setPlayer_scanner (s : State) (x : Player) : (s.setPlayer x).scanner = s.scanner := rfl
@[simp] theorem setPlayer_bindings (s : State) (x : Player) : (s.setPlayer x).bindings = s.bindings := rfl
@[simp] theorem setPlayer_inputs (s : State) (x : Player) : (s.setPlayer x).inputs = s.inputs := rfl
@[simp] theorem setPlayer_keys (s : State) (x : Player) : (s.setPlayer x).keys = s.keys := rfl
@[simp] theorem setPlayer_supply (s : State) (x : Player) : (s.setPlayer x).supply = s.supply := rfl
@[simp] theorem setPlayer_startup (s : State) (x : Player) : (s.setPlayer x).startup = s.startup := rfl
@[simp] theorem setPlayer_port (s : State) (x : Player) : (s.setPlayer x).port = s.port := rfl
@[simp] theorem setDrive_pending (s : State) (x : Drive) : (s.setDrive x).pending = s.pending := rfl
@[simp] theorem setDrive_pins (s : State) (x : Drive) : (s.setDrive x).pins = s.pins := rfl
@[simp] theorem setDrive_beat (s : State) (x : Drive) : (s.setDrive x).beat = s.beat := rfl
@[simp] theorem setDrive_line (s : State) (x : Drive) : (s.setDrive x).line = s.line := rfl
@[simp] theorem setDrive_loop (s : State) (x : Drive) : (s.setDrive x).loop = s.loop := rfl
@[simp] theorem setDrive_queue (s : State) (x : Drive) : (s.setDrive x).queue = s.queue := rfl
@[simp] theorem setDrive_table (s : State) (x : Drive) : (s.setDrive x).table = s.table := rfl
@[simp] theorem setDrive_roster (s : State) (x : Drive) : (s.setDrive x).roster = s.roster := rfl
@[simp] theorem setDrive_faults (s : State) (x : Drive) : (s.setDrive x).faults = s.faults := rfl
@[simp] theorem setDrive_counters (s : State) (x : Drive) : (s.setDrive x).counters = s.counters := rfl
@[simp] theorem setDrive_library (s : State) (x : Drive) : (s.setDrive x).library = s.library := rfl
@[simp] theorem setDrive_player (s : State) (x : Drive) : (s.setDrive x).player = s.player := rfl
@[simp] theorem setDrive_drive (s : State) (x : Drive) : (s.setDrive x).drive = x := rfl
@[simp] theorem setDrive_converter (s : State) (x : Drive) : (s.setDrive x).converter = s.converter := rfl
@[simp] theorem setDrive_scanner (s : State) (x : Drive) : (s.setDrive x).scanner = s.scanner := rfl
@[simp] theorem setDrive_bindings (s : State) (x : Drive) : (s.setDrive x).bindings = s.bindings := rfl
@[simp] theorem setDrive_inputs (s : State) (x : Drive) : (s.setDrive x).inputs = s.inputs := rfl
@[simp] theorem setDrive_keys (s : State) (x : Drive) : (s.setDrive x).keys = s.keys := rfl
@[simp] theorem setDrive_supply (s : State) (x : Drive) : (s.setDrive x).supply = s.supply := rfl
@[simp] theorem setDrive_startup (s : State) (x : Drive) : (s.setDrive x).startup = s.startup := rfl
@[simp] theorem setDrive_port (s : State) (x : Drive) : (s.setDrive x).port = s.port := rfl
@[simp] theorem setConverter_pending (s : State) (x : Converter) : (s.setConverter x).pending = s.pending := rfl
@[simp] theorem setConverter_pins (s : State) (x : Converter) : (s.setConverter x).pins = s.pins := rfl
@[simp] theorem setConverter_beat (s : State) (x : Converter) : (s.setConverter x).beat = s.beat := rfl
@[simp] theorem setConverter_line (s : State) (x : Converter) : (s.setConverter x).line = s.line := rfl
@[simp] theorem setConverter_loop (s : State) (x : Converter) : (s.setConverter x).loop = s.loop := rfl
@[simp] theorem setConverter_queue (s : State) (x : Converter) : (s.setConverter x).queue = s.queue := rfl
@[simp] theorem setConverter_table (s : State) (x : Converter) : (s.setConverter x).table = s.table := rfl
@[simp] theorem setConverter_roster (s : State) (x : Converter) : (s.setConverter x).roster = s.roster := rfl
@[simp] theorem setConverter_faults (s : State) (x : Converter) : (s.setConverter x).faults = s.faults := rfl
@[simp] theorem setConverter_counters (s : State) (x : Converter) : (s.setConverter x).counters = s.counters := rfl
@[simp] theorem setConverter_library (s : State) (x : Converter) : (s.setConverter x).library = s.library := rfl
@[simp] theorem setConverter_player (s : State) (x : Converter) : (s.setConverter x).player = s.player := rfl
@[simp] theorem setConverter_drive (s : State) (x : Converter) : (s.setConverter x).drive = s.drive := rfl
@[simp] theorem setConverter_converter (s : State) (x : Converter) : (s.setConverter x).converter = x := rfl
@[simp] theorem setConverter_scanner (s : State) (x : Converter) : (s.setConverter x).scanner = s.scanner := rfl
@[simp] theorem setConverter_bindings (s : State) (x : Converter) : (s.setConverter x).bindings = s.bindings := rfl
@[simp] theorem setConverter_inputs (s : State) (x : Converter) : (s.setConverter x).inputs = s.inputs := rfl
@[simp] theorem setConverter_keys (s : State) (x : Converter) : (s.setConverter x).keys = s.keys := rfl
@[simp] theorem setConverter_supply (s : State) (x : Converter) : (s.setConverter x).supply = s.supply := rfl
@[simp] theorem setConverter_startup (s : State) (x : Converter) : (s.setConverter x).startup = s.startup := rfl
@[simp] theorem setConverter_port (s : State) (x : Converter) : (s.setConverter x).port = s.port := rfl
@[simp] theorem setScanner_pending (s : State) (x : Scanner) : (s.setScanner x).pending = s.pending := rfl
@[simp] theorem setScanner_pins (s : State) (x : Scanner) : (s.setScanner x).pins = s.pins := rfl
@[simp] theorem setScanner_beat (s : State) (x : Scanner) : (s.setScanner x).beat = s.beat := rfl
@[simp] theorem setScanner_line (s : State) (x : Scanner) : (s.setScanner x).line = s.line := rfl
@[simp] theorem setScanner_loop (s : State) (x : Scanner) : (s.setScanner x).loop = s.loop := rfl
@[simp] theorem setScanner_queue (s : State) (x : Scanner) : (s.setScanner x).queue = s.queue := rfl
@[simp] theorem setScanner_table (s : State) (x : Scanner) : (s.setScanner x).table = s.table := rfl
@[simp] theorem setScanner_roster (s : State) (x : Scanner) : (s.setScanner x).roster = s.roster := rfl
@[simp] theorem setScanner_faults (s : State) (x : Scanner) : (s.setScanner x).faults = s.faults := rfl
@[simp] theorem setScanner_counters (s : State) (x : Scanner) : (s.setScanner x).counters = s.counters := rfl
@[simp] theorem setScanner_library (s : State) (x : Scanner) : (s.setScanner x).library = s.library := rfl
@[simp] theorem setScanner_player (s : State) (x : Scanner) : (s.setScanner x).player = s.player := rfl
@[simp] theorem setScanner_drive (s : State) (x : Scanner) : (s.setScanner x).drive = s.drive := rfl
@[simp] theorem setScanner_converter (s : State) (x : Scanner) : (s.setScanner x).converter = s.converter := rfl
@[simp] theorem setScanner_scanner (s : State) (x : Scanner) : (s.setScanner x).scanner = x := rfl
@[simp] theorem setScanner_bindings (s : State) (x : Scanner) : (s.setScanner x).bindings = s.bindings := rfl
@[simp] theorem setScanner_inputs (s : State) (x : Scanner) : (s.setScanner x).inputs = s.inputs := rfl
@[simp] theorem setScanner_keys (s : State) (x : Scanner) : (s.setScanner x).keys = s.keys := rfl
@[simp] theorem setScanner_supply (s : State) (x : Scanner) : (s.setScanner x).supply = s.supply := rfl
@[simp] theorem setScanner_startup (s : State) (x : Scanner) : (s.setScanner x).startup = s.startup := rfl
@[simp] theorem setScanner_port (s : State) (x : Scanner) : (s.setScanner x).port = s.port := rfl
@[simp] theorem setBindings_pending (s : State) (x : List Binding) : (s.setBindings x).pending = s.pending := rfl
@[simp] theorem setBindings_pins (s : State) (x : List Binding) : (s.setBindings x).pins = s.pins := rfl
@[simp] theorem setBindings_beat (s : State) (x : List Binding) : (s.setBindings x).beat = s.beat := rfl
@[simp] theorem setBindings_line (s : State) (x : List Binding) : (s.setBindings x).line = s.line := rfl
@[simp] theorem setBindings_loop (s : State) (x : List Binding) : (s.setBindings x).loop = s.loop := rfl
@[simp] theorem setBindings_queue (s : State) (x : List Binding) : (s.setBindings x).queue = s.queue := rfl
@[simp] theorem setBindings_table (s : State) (x : List Binding) : (s.setBindings x).table = s.table := rfl
@[simp] theorem setBindings_roster (s : State) (x : List Binding) : (s.setBindings x).roster = s.roster := rfl
@[simp] theorem setBindings_faults (s : State) (x : List Binding) : (s.setBindings x).faults = s.faults := rfl
@[simp] theorem setBindings_counters (s : State) (x : List Binding) : (s.setBindings x).counters = s.counters := rfl
@[simp] theorem setBindings_library (s : State) (x : List Binding) : (s.setBindings x).library = s.library := rfl
@[simp] theorem setBindings_player (s : State) (x : List Binding) : (s.setBindings x).player = s.player := rfl
@[simp] theorem setBindings_drive (s : State) (x : List Binding) : (s.setBindings x).drive = s.drive := rfl
@[simp] theorem setBindings_converter (s : State) (x : List Binding) : (s.setBindings x).converter = s.converter := rfl
@[simp] theorem setBindings_scanner (s : State) (x : List Binding) : (s.setBindings x).scanner = s.scanner := rfl
@[simp] theorem setBindings_bindings (s : State) (x : List Binding) : (s.setBindings x).bindings = x := rfl
@[simp] theorem setBindings_inputs (s : State) (x : List Binding) : (s.setBindings x).inputs = s.inputs := rfl
@[simp] theorem setBindings_keys (s : State) (x : List Binding) : (s.setBindings x).keys = s.keys := rfl
@[simp] theorem setBindings_supply (s : State) (x : List Binding) : (s.setBindings x).supply = s.supply := rfl
@[simp] theorem setBindings_startup (s : State) (x : List Binding) : (s.setBindings x).startup = s.startup := rfl
@[simp] theorem setBindings_port (s : State) (x : List Binding) : (s.setBindings x).port = s.port := rfl
@[simp] theorem setInputs_pending (s : State) (x : List Input) : (s.setInputs x).pending = s.pending := rfl
@[simp] theorem setInputs_pins (s : State) (x : List Input) : (s.setInputs x).pins = s.pins := rfl
@[simp] theorem setInputs_beat (s : State) (x : List Input) : (s.setInputs x).beat = s.beat := rfl
@[simp] theorem setInputs_line (s : State) (x : List Input) : (s.setInputs x).line = s.line := rfl
@[simp] theorem setInputs_loop (s : State) (x : List Input) : (s.setInputs x).loop = s.loop := rfl
@[simp] theorem setInputs_queue (s : State) (x : List Input) : (s.setInputs x).queue = s.queue := rfl
@[simp] theorem setInputs_table (s : State) (x : List Input) : (s.setInputs x).table = s.table := rfl
@[simp] theorem setInputs_roster (s : State) (x : List Input) : (s.setInputs x).roster = s.roster := rfl
@[simp] theorem setInputs_faults (s : State) (x : List Input) : (s.setInputs x).faults = s.faults := rfl
@[simp] theorem setInputs_counters (s : State) (x : List Input) : (s.setInputs x).counters = s.counters := rfl
@[simp] theorem setInputs_library (s : State) (x : List Input) : (s.setInputs x).library = s.library := rfl
@[simp] theorem setInputs_player (s : State) (x : List Input) : (s.setInputs x).player = s.player := rfl
@[simp] theorem setInputs_drive (s : State) (x : List Input) : (s.setInputs x).drive = s.drive := rfl
@[simp] theorem setInputs_converter (s : State) (x : List Input) : (s.setInputs x).converter = s.converter := rfl
@[simp] theorem setInputs_scanner (s : State) (x : List Input) : (s.setInputs x).scanner = s.scanner := rfl
@[simp] theorem setInputs_bindings (s : State) (x : List Input) : (s.setInputs x).bindings = s.bindings := rfl
@[simp] theorem setInputs_inputs (s : State) (x : List Input) : (s.setInputs x).inputs = x := rfl
@[simp] theorem setInputs_keys (s : State) (x : List Input) : (s.setInputs x).keys = s.keys := rfl
@[simp] theorem setInputs_supply (s : State) (x : List Input) : (s.setInputs x).supply = s.supply := rfl
@[simp] theorem setInputs_startup (s : State) (x : List Input) : (s.setInputs x).startup = s.startup := rfl
@[simp] theorem setInputs_port (s : State) (x : List Input) : (s.setInputs x).port = s.port := rfl
@[simp] theorem setKeys_pending (s : State) (x : KeyUnit) : (s.setKeys x).pending = s.pending := rfl
@[simp] theorem setKeys_pins (s : State) (x : KeyUnit) : (s.setKeys x).pins = s.pins := rfl
@[simp] theorem setKeys_beat (s : State) (x : KeyUnit) : (s.setKeys x).beat = s.beat := rfl
@[simp] theorem setKeys_line (s : State) (x : KeyUnit) : (s.setKeys x).line = s.line := rfl
@[simp] theorem setKeys_loop (s : State) (x : KeyUnit) : (s.setKeys x).loop = s.loop := rfl
@[simp] theorem setKeys_queue (s : State) (x : KeyUnit) : (s.setKeys x).queue = s.queue := rfl
@[simp] theorem setKeys_table (s : State) (x : KeyUnit) : (s.setKeys x).table = s.table := rfl
@[simp] theorem setKeys_roster (s : State) (x : KeyUnit) : (s.setKeys x).roster = s.roster := rfl
@[simp] theorem setKeys_faults (s : State) (x : KeyUnit) : (s.setKeys x).faults = s.faults := rfl
@[simp] theorem setKeys_counters (s : State) (x : KeyUnit) : (s.setKeys x).counters = s.counters := rfl
@[simp] theorem setKeys_library (s : State) (x : KeyUnit) : (s.setKeys x).library = s.library := rfl
@[simp] theorem setKeys_player (s : State) (x : KeyUnit) : (s.setKeys x).player = s.player := rfl
@[simp] theorem setKeys_drive (s : State) (x : KeyUnit) : (s.setKeys x).drive = s.drive := rfl
@[simp] theorem setKeys_converter (s : State) (x : KeyUnit) : (s.setKeys x).converter = s.converter := rfl
@[simp] theorem setKeys_scanner (s : State) (x : KeyUnit) : (s.setKeys x).scanner = s.scanner := rfl
@[simp] theorem setKeys_bindings (s : State) (x : KeyUnit) : (s.setKeys x).bindings = s.bindings := rfl
@[simp] theorem setKeys_inputs (s : State) (x : KeyUnit) : (s.setKeys x).inputs = s.inputs := rfl
@[simp] theorem setKeys_keys (s : State) (x : KeyUnit) : (s.setKeys x).keys = x := rfl
@[simp] theorem setKeys_supply (s : State) (x : KeyUnit) : (s.setKeys x).supply = s.supply := rfl
@[simp] theorem setKeys_startup (s : State) (x : KeyUnit) : (s.setKeys x).startup = s.startup := rfl
@[simp] theorem setKeys_port (s : State) (x : KeyUnit) : (s.setKeys x).port = s.port := rfl
@[simp] theorem setSupply_pending (s : State) (x : Supply) : (s.setSupply x).pending = s.pending := rfl
@[simp] theorem setSupply_pins (s : State) (x : Supply) : (s.setSupply x).pins = s.pins := rfl
@[simp] theorem setSupply_beat (s : State) (x : Supply) : (s.setSupply x).beat = s.beat := rfl
@[simp] theorem setSupply_line (s : State) (x : Supply) : (s.setSupply x).line = s.line := rfl
@[simp] theorem setSupply_loop (s : State) (x : Supply) : (s.setSupply x).loop = s.loop := rfl
@[simp] theorem setSupply_queue (s : State) (x : Supply) : (s.setSupply x).queue = s.queue := rfl
@[simp] theorem setSupply_table (s : State) (x : Supply) : (s.setSupply x).table = s.table := rfl
@[simp] theorem setSupply_roster (s : State) (x : Supply) : (s.setSupply x).roster = s.roster := rfl
@[simp] theorem setSupply_faults (s : State) (x : Supply) : (s.setSupply x).faults = s.faults := rfl
@[simp] theorem setSupply_counters (s : State) (x : Supply) : (s.setSupply x).counters = s.counters := rfl
@[simp] theorem setSupply_library (s : State) (x : Supply) : (s.setSupply x).library = s.library := rfl
@[simp] theorem setSupply_player (s : State) (x : Supply) : (s.setSupply x).player = s.player := rfl
@[simp] theorem setSupply_drive (s : State) (x : Supply) : (s.setSupply x).drive = s.drive := rfl
@[simp] theorem setSupply_converter (s : State) (x : Supply) : (s.setSupply x).converter = s.converter := rfl
@[simp] theorem setSupply_scanner (s : State) (x : Supply) : (s.setSupply x).scanner = s.scanner := rfl
@[simp] theorem setSupply_bindings (s : State) (x : Supply) : (s.setSupply x).bindings = s.bindings := rfl
@[simp] theorem setSupply_inputs (s : State) (x : Supply) : (s.setSupply x).inputs = s.inputs := rfl
@[simp] theorem setSupply_keys (s : State) (x : Supply) : (s.setSupply x).keys = s.keys := rfl
@[simp] theorem setSupply_supply (s : State) (x : Supply) : (s.setSupply x).supply = x := rfl
@[simp] theorem setSupply_startup (s : State) (x : Supply) : (s.setSupply x).startup = s.startup := rfl
@[simp] theorem setSupply_port (s : State) (x : Supply) : (s.setSupply x).port = s.port := rfl
@[simp] theorem setStartup_pending (s : State) (x : Startup) : (s.setStartup x).pending = s.pending := rfl
@[simp] theorem setStartup_pins (s : State) (x : Startup) : (s.setStartup x).pins = s.pins := rfl
@[simp] theorem setStartup_beat (s : State) (x : Startup) : (s.setStartup x).beat = s.beat := rfl
@[simp] theorem setStartup_line (s : State) (x : Startup) : (s.setStartup x).line = s.line := rfl
@[simp] theorem setStartup_loop (s : State) (x : Startup) : (s.setStartup x).loop = s.loop := rfl
@[simp] theorem setStartup_queue (s : State) (x : Startup) : (s.setStartup x).queue = s.queue := rfl
@[simp] theorem setStartup_table (s : State) (x : Startup) : (s.setStartup x).table = s.table := rfl
@[simp] theorem setStartup_roster (s : State) (x : Startup) : (s.setStartup x).roster = s.roster := rfl
@[simp] theorem setStartup_faults (s : State) (x : Startup) : (s.setStartup x).faults = s.faults := rfl
@[simp] theorem setStartup_counters (s : State) (x : Startup) : (s.setStartup x).counters = s.counters := rfl
@[simp] theorem setStartup_library (s : State) (x : Startup) : (s.setStartup x).library = s.library := rfl
@[simp] theorem setStartup_player (s : State) (x : Startup) : (s.setStartup x).player = s.player := rfl
@[simp] theorem setStartup_drive (s : State) (x : Startup) : (s.setStartup x).drive = s.drive := rfl
@[simp] theorem setStartup_converter (s : State) (x : Startup) : (s.setStartup x).converter = s.converter := rfl
@[simp] theorem setStartup_scanner (s : State) (x : Startup) : (s.setStartup x).scanner = s.scanner := rfl
@[simp] theorem setStartup_bindings (s : State) (x : Startup) : (s.setStartup x).bindings = s.bindings := rfl
@[simp] theorem setStartup_inputs (s : State) (x : Startup) : (s.setStartup x).inputs = s.inputs := rfl
@[simp] theorem setStartup_keys (s : State) (x : Startup) : (s.setStartup x).keys = s.keys := rfl
@[simp] theorem setStartup_supply (s : State) (x : Startup) : (s.setStartup x).supply = s.supply := rfl
@[simp] theorem setStartup_startup (s : State) (x : Startup) : (s.setStartup x).startup = x := rfl
@[simp] theorem setStartup_port (s : State) (x : Startup) : (s.setStartup x).port = s.port := rfl
@[simp] theorem setPort_pending (s : State) (x : Port) : (s.setPort x).pending = s.pending := rfl
@[simp] theorem setPort_pins (s : State) (x : Port) : (s.setPort x).pins = s.pins := rfl
@[simp] theorem setPort_beat (s : State) (x : Port) : (s.setPort x).beat = s.beat := rfl
@[simp] theorem setPort_line (s : State) (x : Port) : (s.setPort x).line = s.line := rfl
@[simp] theorem setPort_loop (s : State) (x : Port) : (s.setPort x).loop = s.loop := rfl
@[simp] theorem setPort_queue (s : State) (x : Port) : (s.setPort x).queue = s.queue := rfl
@[simp] theorem setPort_table (s : State) (x : Port) : (s.setPort x).table = s.table := rfl
@[simp] theorem setPort_roster (s : State) (x : Port) : (s.setPort x).roster = s.roster := rfl
@[simp] theorem setPort_faults (s : State) (x : Port) : (s.setPort x).faults = s.faults := rfl
@[simp] theorem setPort_counters (s : State) (x : Port) : (s.setPort x).counters = s.counters := rfl
@[simp] theorem setPort_library (s : State) (x : Port) : (s.setPort x).library = s.library := rfl
@[simp] theorem setPort_player (s : State) (x : Port) : (s.setPort x).player = s.player := rfl
@[simp] theorem setPort_drive (s : State) (x : Port) : (s.setPort x).drive = s.drive := rfl
@[simp] theorem setPort_converter (s : State) (x : Port) : (s.setPort x).converter = s.converter := rfl
@[simp] theorem setPort_scanner (s : State) (x : Port) : (s.setPort x).scanner = s.scanner := rfl
@[simp] theorem setPort_bindings (s : State) (x : Port) : (s.setPort x).bindings = s.bindings := rfl
@[simp] theorem setPort_inputs (s : State) (x : Port) : (s.setPort x).inputs = s.inputs := rfl
@[simp] theorem setPort_keys (s : State) (x : Port) : (s.setPort x).keys = s.keys := rfl
@[simp] theorem setPort_supply (s : State) (x : Port) : (s.setPort x).supply = s.supply := rfl
@[simp] theorem setPort_startup (s : State) (x : Port) : (s.setPort x).startup = s.startup := rfl
@[simp] theorem setPort_port (s : State) (x : Port) : (s.setPort x).port = x := rfl

end Sys2Proof.Machine.State
end

