-- ==== Sys2Proof/Laws/Reports.lean ====
section
/-! SUPPORT. What each report and each claim on the cue table leaves as it was. Each lemma reads block by block. -/

namespace Sys2Proof.Machine

@[simp] theorem markAttn_frame (s : State) :
    (markAttn s).pending = s.pending ∧ (markAttn s).pins = s.pins ∧ (markAttn s).beat = s.beat
    ∧ (markAttn s).line = s.line ∧ (markAttn s).loop = s.loop ∧ (markAttn s).queue = s.queue
    ∧ (markAttn s).table = s.table ∧ (markAttn s).roster = s.roster ∧ (markAttn s).faults = s.faults
    ∧ (markAttn s).counters = s.counters ∧ (markAttn s).library = s.library ∧ (markAttn s).player = s.player
    ∧ (markAttn s).drive = s.drive ∧ (markAttn s).converter = s.converter ∧ (markAttn s).scanner = s.scanner
    ∧ (markAttn s).bindings = s.bindings ∧ (markAttn s).inputs = s.inputs ∧ (markAttn s).keys = s.keys
    ∧ (markAttn s).supply = s.supply ∧ (markAttn s).startup = s.startup := by
  unfold markAttn; simp

@[simp] theorem setFault_frame (f : FaultName) (s : State) :
    (setFault f s).pending = s.pending ∧ (setFault f s).pins = s.pins ∧ (setFault f s).beat = s.beat
    ∧ (setFault f s).line = s.line ∧ (setFault f s).loop = s.loop ∧ (setFault f s).queue = s.queue
    ∧ (setFault f s).table = s.table ∧ (setFault f s).roster = s.roster ∧ (setFault f s).counters = s.counters
    ∧ (setFault f s).library = s.library ∧ (setFault f s).player = s.player ∧ (setFault f s).drive = s.drive
    ∧ (setFault f s).converter = s.converter ∧ (setFault f s).scanner = s.scanner
    ∧ (setFault f s).bindings = s.bindings ∧ (setFault f s).inputs = s.inputs ∧ (setFault f s).keys = s.keys
    ∧ (setFault f s).supply = s.supply ∧ (setFault f s).startup = s.startup := by
  unfold setFault; (repeat' split) <;> simp

@[simp] theorem clearFault_frame (f : FaultName) (s : State) :
    (clearFault f s).pending = s.pending ∧ (clearFault f s).pins = s.pins ∧ (clearFault f s).beat = s.beat
    ∧ (clearFault f s).line = s.line ∧ (clearFault f s).loop = s.loop ∧ (clearFault f s).queue = s.queue
    ∧ (clearFault f s).table = s.table ∧ (clearFault f s).roster = s.roster
    ∧ (clearFault f s).counters = s.counters ∧ (clearFault f s).library = s.library
    ∧ (clearFault f s).player = s.player ∧ (clearFault f s).drive = s.drive
    ∧ (clearFault f s).converter = s.converter ∧ (clearFault f s).scanner = s.scanner
    ∧ (clearFault f s).bindings = s.bindings ∧ (clearFault f s).inputs = s.inputs ∧ (clearFault f s).keys = s.keys
    ∧ (clearFault f s).supply = s.supply ∧ (clearFault f s).startup = s.startup := by
  unfold clearFault; (repeat' split) <;> simp

@[simp] theorem bump_frame (n : CounterName) (s : State) :
    (bump n s).pending = s.pending ∧ (bump n s).pins = s.pins ∧ (bump n s).beat = s.beat
    ∧ (bump n s).line = s.line ∧ (bump n s).loop = s.loop ∧ (bump n s).queue = s.queue
    ∧ (bump n s).table = s.table ∧ (bump n s).roster = s.roster ∧ (bump n s).faults = s.faults
    ∧ (bump n s).library = s.library ∧ (bump n s).player = s.player ∧ (bump n s).drive = s.drive
    ∧ (bump n s).converter = s.converter ∧ (bump n s).scanner = s.scanner ∧ (bump n s).bindings = s.bindings
    ∧ (bump n s).inputs = s.inputs ∧ (bump n s).keys = s.keys ∧ (bump n s).supply = s.supply
    ∧ (bump n s).startup = s.startup := by
  unfold bump; dsimp only; (repeat' split) <;> simp

@[simp] theorem bumpTimes_frame (n : CounterName) (k : Nat) (s : State) :
    (bumpTimes n k s).pending = s.pending ∧ (bumpTimes n k s).pins = s.pins ∧ (bumpTimes n k s).beat = s.beat
    ∧ (bumpTimes n k s).line = s.line ∧ (bumpTimes n k s).loop = s.loop ∧ (bumpTimes n k s).queue = s.queue
    ∧ (bumpTimes n k s).table = s.table ∧ (bumpTimes n k s).roster = s.roster
    ∧ (bumpTimes n k s).faults = s.faults ∧ (bumpTimes n k s).library = s.library
    ∧ (bumpTimes n k s).player = s.player ∧ (bumpTimes n k s).drive = s.drive
    ∧ (bumpTimes n k s).converter = s.converter ∧ (bumpTimes n k s).scanner = s.scanner
    ∧ (bumpTimes n k s).bindings = s.bindings ∧ (bumpTimes n k s).inputs = s.inputs
    ∧ (bumpTimes n k s).keys = s.keys ∧ (bumpTimes n k s).supply = s.supply
    ∧ (bumpTimes n k s).startup = s.startup := by
  induction k generalizing s with
  | zero => simp [bumpTimes]
  | succ k ih => simp [bumpTimes, ih]

@[simp] theorem enqueue_frame (n : News) (s : State) :
    (enqueue n s).pending = s.pending ∧ (enqueue n s).pins = s.pins ∧ (enqueue n s).beat = s.beat
    ∧ (enqueue n s).line = s.line ∧ (enqueue n s).loop = s.loop ∧ (enqueue n s).table = s.table
    ∧ (enqueue n s).roster = s.roster ∧ (enqueue n s).faults = s.faults ∧ (enqueue n s).library = s.library
    ∧ (enqueue n s).player = s.player ∧ (enqueue n s).drive = s.drive ∧ (enqueue n s).converter = s.converter
    ∧ (enqueue n s).scanner = s.scanner ∧ (enqueue n s).bindings = s.bindings ∧ (enqueue n s).inputs = s.inputs
    ∧ (enqueue n s).keys = s.keys ∧ (enqueue n s).supply = s.supply ∧ (enqueue n s).startup = s.startup := by
  unfold enqueue; dsimp only; (repeat' split) <;> simp

@[simp] theorem ageQueue_frame (s : State) :
    (ageQueue s).pending = s.pending ∧ (ageQueue s).pins = s.pins ∧ (ageQueue s).beat = s.beat
    ∧ (ageQueue s).line = s.line ∧ (ageQueue s).loop = s.loop ∧ (ageQueue s).table = s.table
    ∧ (ageQueue s).roster = s.roster ∧ (ageQueue s).faults = s.faults ∧ (ageQueue s).library = s.library
    ∧ (ageQueue s).player = s.player ∧ (ageQueue s).drive = s.drive ∧ (ageQueue s).converter = s.converter
    ∧ (ageQueue s).scanner = s.scanner ∧ (ageQueue s).bindings = s.bindings ∧ (ageQueue s).inputs = s.inputs
    ∧ (ageQueue s).keys = s.keys ∧ (ageQueue s).supply = s.supply ∧ (ageQueue s).startup = s.startup := by
  unfold ageQueue; simp

@[simp] theorem playerMark_frame (s : State) :
    (playerMark s).pending = s.pending ∧ (playerMark s).pins = s.pins ∧ (playerMark s).beat = s.beat
    ∧ (playerMark s).line = s.line ∧ (playerMark s).loop = s.loop ∧ (playerMark s).queue = s.queue
    ∧ (playerMark s).table = s.table ∧ (playerMark s).roster = s.roster ∧ (playerMark s).faults = s.faults
    ∧ (playerMark s).counters = s.counters ∧ (playerMark s).library = s.library
    ∧ (playerMark s).converter = s.converter ∧ (playerMark s).scanner = s.scanner
    ∧ (playerMark s).bindings = s.bindings ∧ (playerMark s).inputs = s.inputs ∧ (playerMark s).keys = s.keys
    ∧ (playerMark s).supply = s.supply ∧ (playerMark s).startup = s.startup ∧ (playerMark s).port = s.port := by
  unfold playerMark State.setPlaying; simp

@[simp] theorem playerBeat_frame (s : State) :
    (playerBeat s).pending = s.pending ∧ (playerBeat s).pins = s.pins ∧ (playerBeat s).beat = s.beat
    ∧ (playerBeat s).line = s.line ∧ (playerBeat s).loop = s.loop ∧ (playerBeat s).queue = s.queue
    ∧ (playerBeat s).table = s.table ∧ (playerBeat s).roster = s.roster ∧ (playerBeat s).faults = s.faults
    ∧ (playerBeat s).counters = s.counters ∧ (playerBeat s).library = s.library
    ∧ (playerBeat s).converter = s.converter ∧ (playerBeat s).scanner = s.scanner
    ∧ (playerBeat s).bindings = s.bindings ∧ (playerBeat s).inputs = s.inputs ∧ (playerBeat s).keys = s.keys
    ∧ (playerBeat s).supply = s.supply ∧ (playerBeat s).startup = s.startup ∧ (playerBeat s).port = s.port := by
  unfold playerBeat State.setPlaying; simp

@[simp] theorem handHead_frame (before : List Entry) (s : State) :
    (handHead before s).pending = s.pending ∧ (handHead before s).pins = s.pins
    ∧ (handHead before s).beat = s.beat ∧ (handHead before s).line = s.line ∧ (handHead before s).loop = s.loop
    ∧ (handHead before s).queue = s.queue ∧ (handHead before s).table = s.table
    ∧ (handHead before s).roster = s.roster ∧ (handHead before s).faults = s.faults
    ∧ (handHead before s).counters = s.counters ∧ (handHead before s).library = s.library
    ∧ (handHead before s).converter = s.converter ∧ (handHead before s).scanner = s.scanner
    ∧ (handHead before s).bindings = s.bindings ∧ (handHead before s).inputs = s.inputs
    ∧ (handHead before s).keys = s.keys ∧ (handHead before s).supply = s.supply
    ∧ (handHead before s).startup = s.startup := by
  unfold handHead State.setPlaying; (repeat' split) <;> simp

@[simp] theorem handSound_frame (s : State) :
    (handSound s).pending = s.pending ∧ (handSound s).pins = s.pins ∧ (handSound s).beat = s.beat
    ∧ (handSound s).line = s.line ∧ (handSound s).loop = s.loop ∧ (handSound s).queue = s.queue
    ∧ (handSound s).table = s.table ∧ (handSound s).roster = s.roster ∧ (handSound s).faults = s.faults
    ∧ (handSound s).counters = s.counters ∧ (handSound s).library = s.library
    ∧ (handSound s).converter = s.converter ∧ (handSound s).scanner = s.scanner
    ∧ (handSound s).bindings = s.bindings ∧ (handSound s).inputs = s.inputs ∧ (handSound s).keys = s.keys
    ∧ (handSound s).supply = s.supply ∧ (handSound s).startup = s.startup ∧ (handSound s).port = s.port := by
  unfold handSound State.setPlaying; (repeat' split) <;> simp

@[simp] theorem takeClaim_frame (after : List Entry) (s : State) :
    (takeClaim after s).pending = s.pending ∧ (takeClaim after s).pins = s.pins
    ∧ (takeClaim after s).beat = s.beat ∧ (takeClaim after s).line = s.line ∧ (takeClaim after s).loop = s.loop
    ∧ (takeClaim after s).queue = s.queue ∧ (takeClaim after s).roster = s.roster
    ∧ (takeClaim after s).faults = s.faults ∧ (takeClaim after s).counters = s.counters
    ∧ (takeClaim after s).library = s.library ∧ (takeClaim after s).converter = s.converter
    ∧ (takeClaim after s).scanner = s.scanner ∧ (takeClaim after s).bindings = s.bindings
    ∧ (takeClaim after s).inputs = s.inputs ∧ (takeClaim after s).keys = s.keys
    ∧ (takeClaim after s).supply = s.supply ∧ (takeClaim after s).startup = s.startup := by
  unfold takeClaim; simp

@[simp] theorem countOverflow_frame (n : Nat) (s : State) :
    (countOverflow n s).pending = s.pending ∧ (countOverflow n s).pins = s.pins
    ∧ (countOverflow n s).beat = s.beat ∧ (countOverflow n s).line = s.line ∧ (countOverflow n s).loop = s.loop
    ∧ (countOverflow n s).queue = s.queue ∧ (countOverflow n s).table = s.table
    ∧ (countOverflow n s).roster = s.roster ∧ (countOverflow n s).library = s.library
    ∧ (countOverflow n s).player = s.player ∧ (countOverflow n s).drive = s.drive
    ∧ (countOverflow n s).converter = s.converter ∧ (countOverflow n s).scanner = s.scanner
    ∧ (countOverflow n s).bindings = s.bindings ∧ (countOverflow n s).inputs = s.inputs
    ∧ (countOverflow n s).keys = s.keys ∧ (countOverflow n s).supply = s.supply
    ∧ (countOverflow n s).startup = s.startup := by
  unfold countOverflow; (repeat' split) <;> simp

@[simp] theorem localRaise_frame (i : Nat) (r : Request) (s : State) :
    (localRaise i r s).pending = s.pending ∧ (localRaise i r s).pins = s.pins ∧ (localRaise i r s).beat = s.beat
    ∧ (localRaise i r s).line = s.line ∧ (localRaise i r s).loop = s.loop ∧ (localRaise i r s).roster = s.roster
    ∧ (localRaise i r s).library = s.library ∧ (localRaise i r s).converter = s.converter
    ∧ (localRaise i r s).scanner = s.scanner ∧ (localRaise i r s).bindings = s.bindings
    ∧ (localRaise i r s).inputs = s.inputs ∧ (localRaise i r s).keys = s.keys
    ∧ (localRaise i r s).supply = s.supply ∧ (localRaise i r s).startup = s.startup := by
  unfold localRaise; simp

@[simp] theorem localWithdraw_frame (i : Nat) (s : State) :
    (localWithdraw i s).pending = s.pending ∧ (localWithdraw i s).pins = s.pins
    ∧ (localWithdraw i s).beat = s.beat ∧ (localWithdraw i s).line = s.line ∧ (localWithdraw i s).loop = s.loop
    ∧ (localWithdraw i s).roster = s.roster ∧ (localWithdraw i s).faults = s.faults
    ∧ (localWithdraw i s).library = s.library ∧ (localWithdraw i s).converter = s.converter
    ∧ (localWithdraw i s).scanner = s.scanner ∧ (localWithdraw i s).bindings = s.bindings
    ∧ (localWithdraw i s).inputs = s.inputs ∧ (localWithdraw i s).keys = s.keys
    ∧ (localWithdraw i s).supply = s.supply ∧ (localWithdraw i s).startup = s.startup := by
  unfold localWithdraw; (repeat' split) <;> simp

@[simp] theorem applySilence_frame (s : State) :
    (applySilence s).pending = s.pending ∧ (applySilence s).pins = s.pins ∧ (applySilence s).beat = s.beat
    ∧ (applySilence s).line = s.line ∧ (applySilence s).loop = s.loop ∧ (applySilence s).queue = s.queue
    ∧ (applySilence s).roster = s.roster ∧ (applySilence s).faults = s.faults
    ∧ (applySilence s).counters = s.counters ∧ (applySilence s).library = s.library
    ∧ (applySilence s).converter = s.converter ∧ (applySilence s).scanner = s.scanner
    ∧ (applySilence s).bindings = s.bindings ∧ (applySilence s).inputs = s.inputs ∧ (applySilence s).keys = s.keys
    ∧ (applySilence s).supply = s.supply ∧ (applySilence s).startup = s.startup := by
  unfold applySilence; simp

@[simp] theorem originateSilence_frame (s : State) :
    (originateSilence s).pending = s.pending ∧ (originateSilence s).pins = s.pins
    ∧ (originateSilence s).beat = s.beat ∧ (originateSilence s).line = s.line ∧ (originateSilence s).loop = s.loop
    ∧ (originateSilence s).roster = s.roster ∧ (originateSilence s).faults = s.faults
    ∧ (originateSilence s).library = s.library ∧ (originateSilence s).converter = s.converter
    ∧ (originateSilence s).scanner = s.scanner ∧ (originateSilence s).bindings = s.bindings
    ∧ (originateSilence s).inputs = s.inputs ∧ (originateSilence s).keys = s.keys
    ∧ (originateSilence s).supply = s.supply ∧ (originateSilence s).startup = s.startup := by
  unfold originateSilence; simp

@[simp] theorem missReport_frame (o : Nat) (p : PeerState) (s : State) :
    (missReport o p s).pending = s.pending ∧ (missReport o p s).pins = s.pins ∧ (missReport o p s).beat = s.beat
    ∧ (missReport o p s).line = s.line ∧ (missReport o p s).loop = s.loop ∧ (missReport o p s).queue = s.queue
    ∧ (missReport o p s).roster = s.roster ∧ (missReport o p s).faults = s.faults
    ∧ (missReport o p s).counters = s.counters ∧ (missReport o p s).library = s.library
    ∧ (missReport o p s).converter = s.converter ∧ (missReport o p s).scanner = s.scanner
    ∧ (missReport o p s).bindings = s.bindings ∧ (missReport o p s).inputs = s.inputs
    ∧ (missReport o p s).keys = s.keys ∧ (missReport o p s).supply = s.supply
    ∧ (missReport o p s).startup = s.startup := by
  unfold missReport; simp

@[simp] theorem applyRaise_frame (o : Nat) (st : Stamp) (is : List Item) (s : State) :
    (applyRaise o st is s).pending = s.pending ∧ (applyRaise o st is s).pins = s.pins
    ∧ (applyRaise o st is s).beat = s.beat ∧ (applyRaise o st is s).line = s.line
    ∧ (applyRaise o st is s).loop = s.loop ∧ (applyRaise o st is s).queue = s.queue
    ∧ (applyRaise o st is s).roster = s.roster ∧ (applyRaise o st is s).library = s.library
    ∧ (applyRaise o st is s).converter = s.converter ∧ (applyRaise o st is s).scanner = s.scanner
    ∧ (applyRaise o st is s).bindings = s.bindings ∧ (applyRaise o st is s).inputs = s.inputs
    ∧ (applyRaise o st is s).keys = s.keys ∧ (applyRaise o st is s).supply = s.supply
    ∧ (applyRaise o st is s).startup = s.startup := by
  unfold applyRaise; simp

@[simp] theorem applyClear_frame (o : Nat) (is : List Item) (s : State) :
    (applyClear o is s).pending = s.pending ∧ (applyClear o is s).pins = s.pins
    ∧ (applyClear o is s).beat = s.beat ∧ (applyClear o is s).line = s.line ∧ (applyClear o is s).loop = s.loop
    ∧ (applyClear o is s).queue = s.queue ∧ (applyClear o is s).roster = s.roster
    ∧ (applyClear o is s).faults = s.faults ∧ (applyClear o is s).counters = s.counters
    ∧ (applyClear o is s).library = s.library ∧ (applyClear o is s).converter = s.converter
    ∧ (applyClear o is s).scanner = s.scanner ∧ (applyClear o is s).bindings = s.bindings
    ∧ (applyClear o is s).inputs = s.inputs ∧ (applyClear o is s).keys = s.keys
    ∧ (applyClear o is s).supply = s.supply ∧ (applyClear o is s).startup = s.startup := by
  unfold applyClear; simp

@[simp] theorem applyStatus_frame (o : Nat) (st : Stamp) (is : List Item) (s : State) :
    (applyStatus o st is s).pending = s.pending ∧ (applyStatus o st is s).pins = s.pins
    ∧ (applyStatus o st is s).beat = s.beat ∧ (applyStatus o st is s).line = s.line
    ∧ (applyStatus o st is s).loop = s.loop ∧ (applyStatus o st is s).queue = s.queue
    ∧ (applyStatus o st is s).roster = s.roster ∧ (applyStatus o st is s).library = s.library
    ∧ (applyStatus o st is s).converter = s.converter ∧ (applyStatus o st is s).scanner = s.scanner
    ∧ (applyStatus o st is s).bindings = s.bindings ∧ (applyStatus o st is s).inputs = s.inputs
    ∧ (applyStatus o st is s).keys = s.keys ∧ (applyStatus o st is s).supply = s.supply
    ∧ (applyStatus o st is s).startup = s.startup := by
  unfold applyStatus; simp

end Sys2Proof.Machine
end

