-- ==== Sys2Proof/Laws/Shared.lean ====
section
/-! SUPPORT. What the operations that chapters share leave as it was. Each lemma reads block by block. -/

namespace Sys2Proof.Machine

@[simp] theorem moveRoster_frame (r : List RosterEntry) (s : State) :
    (moveRoster r s).pending = s.pending ∧ (moveRoster r s).pins = s.pins ∧ (moveRoster r s).beat = s.beat
    ∧ (moveRoster r s).line = s.line ∧ (moveRoster r s).loop = s.loop ∧ (moveRoster r s).queue = s.queue
    ∧ (moveRoster r s).table = s.table ∧ (moveRoster r s).counters = s.counters
    ∧ (moveRoster r s).library = s.library ∧ (moveRoster r s).player = s.player ∧ (moveRoster r s).drive = s.drive
    ∧ (moveRoster r s).converter = s.converter ∧ (moveRoster r s).scanner = s.scanner
    ∧ (moveRoster r s).bindings = s.bindings ∧ (moveRoster r s).inputs = s.inputs ∧ (moveRoster r s).keys = s.keys
    ∧ (moveRoster r s).supply = s.supply ∧ (moveRoster r s).startup = s.startup := by
  unfold moveRoster; dsimp only; (repeat' split) <;> simp

@[simp] theorem passOther_frame (o : Nat) (h : Option OwnerStatus) (s : State) :
    (passOther o h s).pending = s.pending ∧ (passOther o h s).pins = s.pins ∧ (passOther o h s).beat = s.beat
    ∧ (passOther o h s).line = s.line ∧ (passOther o h s).loop = s.loop ∧ (passOther o h s).queue = s.queue
    ∧ (passOther o h s).counters = s.counters ∧ (passOther o h s).library = s.library
    ∧ (passOther o h s).converter = s.converter ∧ (passOther o h s).scanner = s.scanner
    ∧ (passOther o h s).bindings = s.bindings ∧ (passOther o h s).inputs = s.inputs
    ∧ (passOther o h s).keys = s.keys ∧ (passOther o h s).supply = s.supply
    ∧ (passOther o h s).startup = s.startup := by
  unfold passOther; (repeat' split) <;> simp

@[simp] theorem passSelf_frame (c : Bool) (s : State) :
    (passSelf c s).pending = s.pending ∧ (passSelf c s).pins = s.pins ∧ (passSelf c s).beat = s.beat
    ∧ (passSelf c s).line = s.line ∧ (passSelf c s).loop = s.loop ∧ (passSelf c s).queue = s.queue
    ∧ (passSelf c s).table = s.table ∧ (passSelf c s).counters = s.counters ∧ (passSelf c s).library = s.library
    ∧ (passSelf c s).player = s.player ∧ (passSelf c s).drive = s.drive ∧ (passSelf c s).converter = s.converter
    ∧ (passSelf c s).scanner = s.scanner ∧ (passSelf c s).bindings = s.bindings ∧ (passSelf c s).inputs = s.inputs
    ∧ (passSelf c s).keys = s.keys ∧ (passSelf c s).supply = s.supply ∧ (passSelf c s).startup = s.startup := by
  unfold passSelf; dsimp only; (repeat' split) <;> simp

@[simp] theorem storeFlags_frame (o : Nat) (l a : Bool) (s : State) :
    (storeFlags o l a s).pending = s.pending ∧ (storeFlags o l a s).pins = s.pins
    ∧ (storeFlags o l a s).beat = s.beat ∧ (storeFlags o l a s).line = s.line ∧ (storeFlags o l a s).loop = s.loop
    ∧ (storeFlags o l a s).queue = s.queue ∧ (storeFlags o l a s).table = s.table
    ∧ (storeFlags o l a s).faults = s.faults ∧ (storeFlags o l a s).counters = s.counters
    ∧ (storeFlags o l a s).library = s.library ∧ (storeFlags o l a s).player = s.player
    ∧ (storeFlags o l a s).drive = s.drive ∧ (storeFlags o l a s).converter = s.converter
    ∧ (storeFlags o l a s).scanner = s.scanner ∧ (storeFlags o l a s).bindings = s.bindings
    ∧ (storeFlags o l a s).inputs = s.inputs ∧ (storeFlags o l a s).keys = s.keys
    ∧ (storeFlags o l a s).supply = s.supply ∧ (storeFlags o l a s).startup = s.startup
    ∧ (storeFlags o l a s).port = s.port := by
  unfold storeFlags; simp

@[simp] theorem modifyInput_frame (i : Nat) (f : Input → Input) (s : State) :
    (modifyInput i f s).pending = s.pending ∧ (modifyInput i f s).pins = s.pins
    ∧ (modifyInput i f s).beat = s.beat ∧ (modifyInput i f s).line = s.line ∧ (modifyInput i f s).loop = s.loop
    ∧ (modifyInput i f s).queue = s.queue ∧ (modifyInput i f s).table = s.table
    ∧ (modifyInput i f s).roster = s.roster ∧ (modifyInput i f s).faults = s.faults
    ∧ (modifyInput i f s).counters = s.counters ∧ (modifyInput i f s).library = s.library
    ∧ (modifyInput i f s).player = s.player ∧ (modifyInput i f s).drive = s.drive
    ∧ (modifyInput i f s).converter = s.converter ∧ (modifyInput i f s).scanner = s.scanner
    ∧ (modifyInput i f s).bindings = s.bindings ∧ (modifyInput i f s).keys = s.keys
    ∧ (modifyInput i f s).supply = s.supply ∧ (modifyInput i f s).startup = s.startup
    ∧ (modifyInput i f s).port = s.port := by
  unfold modifyInput; simp

@[simp] theorem applyRestore_frame (s : State) :
    (applyRestore s).pending = s.pending ∧ (applyRestore s).pins = s.pins ∧ (applyRestore s).beat = s.beat
    ∧ (applyRestore s).line = s.line ∧ (applyRestore s).loop = s.loop ∧ (applyRestore s).counters = s.counters
    ∧ (applyRestore s).library = s.library ∧ (applyRestore s).converter = s.converter
    ∧ (applyRestore s).scanner = s.scanner ∧ (applyRestore s).bindings = s.bindings
    ∧ (applyRestore s).keys = s.keys ∧ (applyRestore s).supply = s.supply ∧ (applyRestore s).startup = s.startup := by
  unfold applyRestore; simp

@[simp] theorem originateRestore_frame (s : State) :
    (originateRestore s).pending = s.pending ∧ (originateRestore s).pins = s.pins
    ∧ (originateRestore s).beat = s.beat ∧ (originateRestore s).line = s.line ∧ (originateRestore s).loop = s.loop
    ∧ (originateRestore s).library = s.library ∧ (originateRestore s).converter = s.converter
    ∧ (originateRestore s).scanner = s.scanner ∧ (originateRestore s).bindings = s.bindings
    ∧ (originateRestore s).keys = s.keys ∧ (originateRestore s).supply = s.supply
    ∧ (originateRestore s).startup = s.startup := by
  unfold originateRestore; simp

@[simp] theorem requestSupply_frame (s : State) :
    (requestSupply s).pending = s.pending ∧ (requestSupply s).pins = s.pins ∧ (requestSupply s).beat = s.beat
    ∧ (requestSupply s).line = s.line ∧ (requestSupply s).loop = s.loop ∧ (requestSupply s).queue = s.queue
    ∧ (requestSupply s).table = s.table ∧ (requestSupply s).roster = s.roster
    ∧ (requestSupply s).faults = s.faults ∧ (requestSupply s).counters = s.counters
    ∧ (requestSupply s).library = s.library ∧ (requestSupply s).player = s.player
    ∧ (requestSupply s).drive = s.drive ∧ (requestSupply s).scanner = s.scanner
    ∧ (requestSupply s).bindings = s.bindings ∧ (requestSupply s).inputs = s.inputs
    ∧ (requestSupply s).keys = s.keys ∧ (requestSupply s).supply = s.supply
    ∧ (requestSupply s).startup = s.startup ∧ (requestSupply s).port = s.port := by
  unfold requestSupply; simp

@[simp] theorem requestScan_frame (s : State) :
    (requestScan s).pending = s.pending ∧ (requestScan s).pins = s.pins ∧ (requestScan s).beat = s.beat
    ∧ (requestScan s).line = s.line ∧ (requestScan s).loop = s.loop ∧ (requestScan s).queue = s.queue
    ∧ (requestScan s).table = s.table ∧ (requestScan s).roster = s.roster ∧ (requestScan s).faults = s.faults
    ∧ (requestScan s).counters = s.counters ∧ (requestScan s).library = s.library
    ∧ (requestScan s).player = s.player ∧ (requestScan s).drive = s.drive ∧ (requestScan s).scanner = s.scanner
    ∧ (requestScan s).bindings = s.bindings ∧ (requestScan s).inputs = s.inputs ∧ (requestScan s).keys = s.keys
    ∧ (requestScan s).supply = s.supply ∧ (requestScan s).startup = s.startup ∧ (requestScan s).port = s.port := by
  unfold requestScan; (repeat' split) <;> simp

@[simp] theorem requestChirp_frame (s : State) :
    (requestChirp s).pending = s.pending ∧ (requestChirp s).pins = s.pins ∧ (requestChirp s).beat = s.beat
    ∧ (requestChirp s).line = s.line ∧ (requestChirp s).loop = s.loop ∧ (requestChirp s).queue = s.queue
    ∧ (requestChirp s).table = s.table ∧ (requestChirp s).roster = s.roster ∧ (requestChirp s).faults = s.faults
    ∧ (requestChirp s).counters = s.counters ∧ (requestChirp s).library = s.library
    ∧ (requestChirp s).player = s.player ∧ (requestChirp s).converter = s.converter
    ∧ (requestChirp s).scanner = s.scanner ∧ (requestChirp s).bindings = s.bindings
    ∧ (requestChirp s).inputs = s.inputs ∧ (requestChirp s).keys = s.keys ∧ (requestChirp s).supply = s.supply
    ∧ (requestChirp s).startup = s.startup ∧ (requestChirp s).port = s.port := by
  unfold requestChirp; simp

@[simp] theorem setKeyState_frame (k : KeyState) (s : State) :
    (setKeyState k s).pending = s.pending ∧ (setKeyState k s).pins = s.pins ∧ (setKeyState k s).beat = s.beat
    ∧ (setKeyState k s).line = s.line ∧ (setKeyState k s).loop = s.loop ∧ (setKeyState k s).queue = s.queue
    ∧ (setKeyState k s).table = s.table ∧ (setKeyState k s).roster = s.roster
    ∧ (setKeyState k s).faults = s.faults ∧ (setKeyState k s).counters = s.counters
    ∧ (setKeyState k s).library = s.library ∧ (setKeyState k s).player = s.player
    ∧ (setKeyState k s).drive = s.drive ∧ (setKeyState k s).converter = s.converter
    ∧ (setKeyState k s).scanner = s.scanner ∧ (setKeyState k s).bindings = s.bindings
    ∧ (setKeyState k s).inputs = s.inputs ∧ (setKeyState k s).supply = s.supply
    ∧ (setKeyState k s).startup = s.startup ∧ (setKeyState k s).port = s.port := by
  unfold setKeyState; simp

@[simp] theorem restoreAction_frame (s : State) :
    (restoreAction s).pending = s.pending ∧ (restoreAction s).pins = s.pins ∧ (restoreAction s).beat = s.beat
    ∧ (restoreAction s).line = s.line ∧ (restoreAction s).loop = s.loop ∧ (restoreAction s).library = s.library
    ∧ (restoreAction s).converter = s.converter ∧ (restoreAction s).scanner = s.scanner
    ∧ (restoreAction s).bindings = s.bindings ∧ (restoreAction s).supply = s.supply
    ∧ (restoreAction s).startup = s.startup := by
  unfold restoreAction; simp

@[simp] theorem keyMark_frame (s : State) :
    (keyMark s).pending = s.pending ∧ (keyMark s).pins = s.pins ∧ (keyMark s).beat = s.beat
    ∧ (keyMark s).line = s.line ∧ (keyMark s).loop = s.loop ∧ (keyMark s).library = s.library
    ∧ (keyMark s).converter = s.converter ∧ (keyMark s).scanner = s.scanner ∧ (keyMark s).bindings = s.bindings
    ∧ (keyMark s).supply = s.supply ∧ (keyMark s).startup = s.startup := by
  unfold keyMark; (repeat' split) <;> simp

@[simp] theorem abandonTx_frame (s : State) :
    (abandonTx s).pending = s.pending ∧ (abandonTx s).pins = s.pins ∧ (abandonTx s).beat = s.beat
    ∧ (abandonTx s).line = s.line ∧ (abandonTx s).table = s.table ∧ (abandonTx s).roster = s.roster
    ∧ (abandonTx s).faults = s.faults ∧ (abandonTx s).counters = s.counters ∧ (abandonTx s).library = s.library
    ∧ (abandonTx s).player = s.player ∧ (abandonTx s).drive = s.drive ∧ (abandonTx s).converter = s.converter
    ∧ (abandonTx s).scanner = s.scanner ∧ (abandonTx s).bindings = s.bindings ∧ (abandonTx s).inputs = s.inputs
    ∧ (abandonTx s).keys = s.keys ∧ (abandonTx s).supply = s.supply ∧ (abandonTx s).startup = s.startup
    ∧ (abandonTx s).port = s.port := by
  unfold abandonTx; (repeat' split) <;> simp

@[simp] theorem setStation_frame (st : StationState) (s : State) :
    (setStation st s).pending = s.pending ∧ (setStation st s).pins = s.pins ∧ (setStation st s).beat = s.beat
    ∧ (setStation st s).line = s.line ∧ (setStation st s).loop = s.loop ∧ (setStation st s).queue = s.queue
    ∧ (setStation st s).table = s.table ∧ (setStation st s).roster = s.roster
    ∧ (setStation st s).faults = s.faults ∧ (setStation st s).counters = s.counters
    ∧ (setStation st s).library = s.library ∧ (setStation st s).player = s.player
    ∧ (setStation st s).drive = s.drive ∧ (setStation st s).converter = s.converter
    ∧ (setStation st s).scanner = s.scanner ∧ (setStation st s).bindings = s.bindings
    ∧ (setStation st s).inputs = s.inputs ∧ (setStation st s).keys = s.keys ∧ (setStation st s).supply = s.supply := by
  unfold setStation; simp

@[simp] theorem indexZeroReport_frame (s : State) :
    (indexZeroReport s).pending = s.pending ∧ (indexZeroReport s).pins = s.pins
    ∧ (indexZeroReport s).beat = s.beat ∧ (indexZeroReport s).line = s.line ∧ (indexZeroReport s).loop = s.loop
    ∧ (indexZeroReport s).queue = s.queue ∧ (indexZeroReport s).table = s.table
    ∧ (indexZeroReport s).roster = s.roster ∧ (indexZeroReport s).faults = s.faults
    ∧ (indexZeroReport s).counters = s.counters ∧ (indexZeroReport s).library = s.library
    ∧ (indexZeroReport s).player = s.player ∧ (indexZeroReport s).drive = s.drive
    ∧ (indexZeroReport s).converter = s.converter ∧ (indexZeroReport s).scanner = s.scanner
    ∧ (indexZeroReport s).bindings = s.bindings ∧ (indexZeroReport s).inputs = s.inputs
    ∧ (indexZeroReport s).keys = s.keys ∧ (indexZeroReport s).supply = s.supply := by
  unfold indexZeroReport; dsimp only; (repeat' split) <;> simp

@[simp] theorem lockedReport_frame (s : State) :
    (lockedReport s).pending = s.pending ∧ (lockedReport s).pins = s.pins ∧ (lockedReport s).beat = s.beat
    ∧ (lockedReport s).line = s.line ∧ (lockedReport s).loop = s.loop ∧ (lockedReport s).queue = s.queue
    ∧ (lockedReport s).table = s.table ∧ (lockedReport s).roster = s.roster ∧ (lockedReport s).faults = s.faults
    ∧ (lockedReport s).counters = s.counters ∧ (lockedReport s).library = s.library
    ∧ (lockedReport s).player = s.player ∧ (lockedReport s).drive = s.drive
    ∧ (lockedReport s).converter = s.converter ∧ (lockedReport s).scanner = s.scanner
    ∧ (lockedReport s).bindings = s.bindings ∧ (lockedReport s).inputs = s.inputs ∧ (lockedReport s).keys = s.keys
    ∧ (lockedReport s).supply = s.supply ∧ (lockedReport s).port = s.port := by
  unfold lockedReport; simp

@[simp] theorem freeReport_frame (s : State) :
    (freeReport s).pending = s.pending ∧ (freeReport s).pins = s.pins ∧ (freeReport s).beat = s.beat
    ∧ (freeReport s).line = s.line ∧ (freeReport s).table = s.table ∧ (freeReport s).roster = s.roster
    ∧ (freeReport s).faults = s.faults ∧ (freeReport s).counters = s.counters ∧ (freeReport s).library = s.library
    ∧ (freeReport s).player = s.player ∧ (freeReport s).drive = s.drive ∧ (freeReport s).converter = s.converter
    ∧ (freeReport s).scanner = s.scanner ∧ (freeReport s).bindings = s.bindings ∧ (freeReport s).inputs = s.inputs
    ∧ (freeReport s).keys = s.keys ∧ (freeReport s).supply = s.supply := by
  unfold freeReport; dsimp only; (repeat' split) <;> simp

end Sys2Proof.Machine
end

