-- ==== Sys2Proof/Laws/Loop.lean ====
section
/-! SUPPORT. What the slot operations leave as they were. Each lemma reads block by block. -/

namespace Sys2Proof.Machine

@[simp] theorem endReception_frame (s : State) :
    (endReception s).pending = s.pending ∧ (endReception s).pins = s.pins ∧ (endReception s).beat = s.beat
    ∧ (endReception s).queue = s.queue ∧ (endReception s).table = s.table ∧ (endReception s).roster = s.roster
    ∧ (endReception s).faults = s.faults ∧ (endReception s).library = s.library
    ∧ (endReception s).player = s.player ∧ (endReception s).drive = s.drive
    ∧ (endReception s).converter = s.converter ∧ (endReception s).scanner = s.scanner
    ∧ (endReception s).bindings = s.bindings ∧ (endReception s).inputs = s.inputs ∧ (endReception s).keys = s.keys
    ∧ (endReception s).supply = s.supply ∧ (endReception s).startup = s.startup := by
  unfold endReception; (repeat' split) <;> simp

@[simp] theorem clearSlot_frame (p : Part) (s : State) :
    (clearSlot p s).pending = s.pending ∧ (clearSlot p s).pins = s.pins ∧ (clearSlot p s).beat = s.beat
    ∧ (clearSlot p s).line = s.line ∧ (clearSlot p s).table = s.table ∧ (clearSlot p s).roster = s.roster
    ∧ (clearSlot p s).faults = s.faults ∧ (clearSlot p s).counters = s.counters
    ∧ (clearSlot p s).library = s.library ∧ (clearSlot p s).player = s.player ∧ (clearSlot p s).drive = s.drive
    ∧ (clearSlot p s).converter = s.converter ∧ (clearSlot p s).scanner = s.scanner
    ∧ (clearSlot p s).bindings = s.bindings ∧ (clearSlot p s).inputs = s.inputs ∧ (clearSlot p s).keys = s.keys
    ∧ (clearSlot p s).supply = s.supply ∧ (clearSlot p s).startup = s.startup ∧ (clearSlot p s).port = s.port := by
  unfold clearSlot; simp

@[simp] theorem restartSlotTimer_frame (s : State) :
    (restartSlotTimer s).pending = s.pending ∧ (restartSlotTimer s).pins = s.pins
    ∧ (restartSlotTimer s).beat = s.beat ∧ (restartSlotTimer s).queue = s.queue
    ∧ (restartSlotTimer s).table = s.table ∧ (restartSlotTimer s).roster = s.roster
    ∧ (restartSlotTimer s).faults = s.faults ∧ (restartSlotTimer s).counters = s.counters
    ∧ (restartSlotTimer s).library = s.library ∧ (restartSlotTimer s).player = s.player
    ∧ (restartSlotTimer s).drive = s.drive ∧ (restartSlotTimer s).converter = s.converter
    ∧ (restartSlotTimer s).scanner = s.scanner ∧ (restartSlotTimer s).bindings = s.bindings
    ∧ (restartSlotTimer s).inputs = s.inputs ∧ (restartSlotTimer s).keys = s.keys
    ∧ (restartSlotTimer s).supply = s.supply ∧ (restartSlotTimer s).startup = s.startup
    ∧ (restartSlotTimer s).port = s.port := by
  unfold restartSlotTimer; simp

@[simp] theorem restartSlots_frame (s : State) :
    (restartSlots s).pending = s.pending ∧ (restartSlots s).pins = s.pins ∧ (restartSlots s).beat = s.beat
    ∧ (restartSlots s).table = s.table ∧ (restartSlots s).roster = s.roster ∧ (restartSlots s).faults = s.faults
    ∧ (restartSlots s).library = s.library ∧ (restartSlots s).player = s.player ∧ (restartSlots s).drive = s.drive
    ∧ (restartSlots s).converter = s.converter ∧ (restartSlots s).scanner = s.scanner
    ∧ (restartSlots s).bindings = s.bindings ∧ (restartSlots s).inputs = s.inputs ∧ (restartSlots s).keys = s.keys
    ∧ (restartSlots s).supply = s.supply ∧ (restartSlots s).startup = s.startup := by
  unfold restartSlots; simp

@[simp] theorem startTx_frame (sl : Slot) (f : Frame) (m : Nat) (b : Bool) (s : State) :
    (startTx sl f m b s).pending = s.pending ∧ (startTx sl f m b s).pins = s.pins
    ∧ (startTx sl f m b s).beat = s.beat ∧ (startTx sl f m b s).line = s.line
    ∧ (startTx sl f m b s).queue = s.queue ∧ (startTx sl f m b s).table = s.table
    ∧ (startTx sl f m b s).roster = s.roster ∧ (startTx sl f m b s).faults = s.faults
    ∧ (startTx sl f m b s).counters = s.counters ∧ (startTx sl f m b s).library = s.library
    ∧ (startTx sl f m b s).player = s.player ∧ (startTx sl f m b s).drive = s.drive
    ∧ (startTx sl f m b s).converter = s.converter ∧ (startTx sl f m b s).scanner = s.scanner
    ∧ (startTx sl f m b s).bindings = s.bindings ∧ (startTx sl f m b s).inputs = s.inputs
    ∧ (startTx sl f m b s).keys = s.keys ∧ (startTx sl f m b s).supply = s.supply
    ∧ (startTx sl f m b s).startup = s.startup ∧ (startTx sl f m b s).port = s.port := by
  unfold startTx; simp

@[simp] theorem sendStatus_frame (sl : Slot) (s : State) :
    (sendStatus sl s).pending = s.pending ∧ (sendStatus sl s).pins = s.pins ∧ (sendStatus sl s).beat = s.beat
    ∧ (sendStatus sl s).line = s.line ∧ (sendStatus sl s).queue = s.queue ∧ (sendStatus sl s).table = s.table
    ∧ (sendStatus sl s).roster = s.roster ∧ (sendStatus sl s).faults = s.faults
    ∧ (sendStatus sl s).counters = s.counters ∧ (sendStatus sl s).library = s.library
    ∧ (sendStatus sl s).player = s.player ∧ (sendStatus sl s).drive = s.drive
    ∧ (sendStatus sl s).converter = s.converter ∧ (sendStatus sl s).scanner = s.scanner
    ∧ (sendStatus sl s).bindings = s.bindings ∧ (sendStatus sl s).inputs = s.inputs
    ∧ (sendStatus sl s).keys = s.keys ∧ (sendStatus sl s).supply = s.supply
    ∧ (sendStatus sl s).startup = s.startup ∧ (sendStatus sl s).port = s.port := by
  unfold sendStatus; (repeat' split) <;> simp

@[simp] theorem offerHead_frame (m : Nat) (b : Bool) (s : State) :
    (offerHead m b s).pending = s.pending ∧ (offerHead m b s).pins = s.pins ∧ (offerHead m b s).beat = s.beat
    ∧ (offerHead m b s).line = s.line ∧ (offerHead m b s).table = s.table ∧ (offerHead m b s).roster = s.roster
    ∧ (offerHead m b s).faults = s.faults ∧ (offerHead m b s).counters = s.counters
    ∧ (offerHead m b s).library = s.library ∧ (offerHead m b s).player = s.player
    ∧ (offerHead m b s).drive = s.drive ∧ (offerHead m b s).converter = s.converter
    ∧ (offerHead m b s).scanner = s.scanner ∧ (offerHead m b s).bindings = s.bindings
    ∧ (offerHead m b s).inputs = s.inputs ∧ (offerHead m b s).keys = s.keys ∧ (offerHead m b s).supply = s.supply
    ∧ (offerHead m b s).startup = s.startup ∧ (offerHead m b s).port = s.port := by
  unfold offerHead; (repeat' split) <;> simp

@[simp] theorem slotBegin_frame (s : State) :
    (slotBegin s).pending = s.pending ∧ (slotBegin s).pins = s.pins ∧ (slotBegin s).beat = s.beat
    ∧ (slotBegin s).line = s.line ∧ (slotBegin s).queue = s.queue ∧ (slotBegin s).table = s.table
    ∧ (slotBegin s).roster = s.roster ∧ (slotBegin s).faults = s.faults ∧ (slotBegin s).counters = s.counters
    ∧ (slotBegin s).library = s.library ∧ (slotBegin s).player = s.player ∧ (slotBegin s).drive = s.drive
    ∧ (slotBegin s).converter = s.converter ∧ (slotBegin s).scanner = s.scanner
    ∧ (slotBegin s).bindings = s.bindings ∧ (slotBegin s).inputs = s.inputs ∧ (slotBegin s).keys = s.keys
    ∧ (slotBegin s).supply = s.supply ∧ (slotBegin s).startup = s.startup ∧ (slotBegin s).port = s.port := by
  unfold slotBegin; (repeat' split) <;> simp

@[simp] theorem openSlotAttempt_frame (s : State) :
    (openSlotAttempt s).pending = s.pending ∧ (openSlotAttempt s).pins = s.pins
    ∧ (openSlotAttempt s).beat = s.beat ∧ (openSlotAttempt s).line = s.line ∧ (openSlotAttempt s).table = s.table
    ∧ (openSlotAttempt s).roster = s.roster ∧ (openSlotAttempt s).faults = s.faults
    ∧ (openSlotAttempt s).counters = s.counters ∧ (openSlotAttempt s).library = s.library
    ∧ (openSlotAttempt s).player = s.player ∧ (openSlotAttempt s).drive = s.drive
    ∧ (openSlotAttempt s).converter = s.converter ∧ (openSlotAttempt s).scanner = s.scanner
    ∧ (openSlotAttempt s).bindings = s.bindings ∧ (openSlotAttempt s).inputs = s.inputs
    ∧ (openSlotAttempt s).keys = s.keys ∧ (openSlotAttempt s).supply = s.supply
    ∧ (openSlotAttempt s).startup = s.startup ∧ (openSlotAttempt s).port = s.port := by
  unfold openSlotAttempt; dsimp only; (repeat' split) <;> simp

@[simp] theorem passReport_frame (o : Nat) (s : State) :
    (passReport o s).pending = s.pending ∧ (passReport o s).pins = s.pins ∧ (passReport o s).beat = s.beat
    ∧ (passReport o s).line = s.line ∧ (passReport o s).loop = s.loop ∧ (passReport o s).queue = s.queue
    ∧ (passReport o s).counters = s.counters ∧ (passReport o s).library = s.library
    ∧ (passReport o s).converter = s.converter ∧ (passReport o s).scanner = s.scanner
    ∧ (passReport o s).bindings = s.bindings ∧ (passReport o s).inputs = s.inputs ∧ (passReport o s).keys = s.keys
    ∧ (passReport o s).supply = s.supply ∧ (passReport o s).startup = s.startup := by
  unfold passReport; (repeat' split) <;> simp

@[simp] theorem slotEnd_frame (s : State) :
    (slotEnd s).pending = s.pending ∧ (slotEnd s).pins = s.pins ∧ (slotEnd s).beat = s.beat
    ∧ (slotEnd s).library = s.library ∧ (slotEnd s).converter = s.converter ∧ (slotEnd s).scanner = s.scanner
    ∧ (slotEnd s).bindings = s.bindings ∧ (slotEnd s).inputs = s.inputs ∧ (slotEnd s).keys = s.keys
    ∧ (slotEnd s).supply = s.supply ∧ (slotEnd s).startup = s.startup := by
  unfold slotEnd; dsimp only; (repeat' split) <;> simp

end Sys2Proof.Machine
end

