-- ==== Sys2Proof/Laws/Beat.lean ====
section
/-! SUPPORT. What the beat unit's operations leave as they were. Each lemma reads block by block. -/

namespace Sys2Proof.Machine

@[simp] theorem modifyBeat_frame (f : BeatUnit → BeatUnit) (s : State) :
    (modifyBeat f s).pending = s.pending ∧ (modifyBeat f s).pins = s.pins ∧ (modifyBeat f s).line = s.line
    ∧ (modifyBeat f s).loop = s.loop ∧ (modifyBeat f s).queue = s.queue ∧ (modifyBeat f s).table = s.table
    ∧ (modifyBeat f s).roster = s.roster ∧ (modifyBeat f s).faults = s.faults
    ∧ (modifyBeat f s).counters = s.counters ∧ (modifyBeat f s).library = s.library
    ∧ (modifyBeat f s).player = s.player ∧ (modifyBeat f s).drive = s.drive
    ∧ (modifyBeat f s).converter = s.converter ∧ (modifyBeat f s).scanner = s.scanner
    ∧ (modifyBeat f s).bindings = s.bindings ∧ (modifyBeat f s).inputs = s.inputs ∧ (modifyBeat f s).keys = s.keys
    ∧ (modifyBeat f s).supply = s.supply ∧ (modifyBeat f s).startup = s.startup ∧ (modifyBeat f s).port = s.port := by
  unfold modifyBeat; simp

@[simp] theorem becomeZero_frame (s : State) :
    (becomeZero s).pending = s.pending ∧ (becomeZero s).pins = s.pins ∧ (becomeZero s).line = s.line
    ∧ (becomeZero s).loop = s.loop ∧ (becomeZero s).queue = s.queue ∧ (becomeZero s).table = s.table
    ∧ (becomeZero s).roster = s.roster ∧ (becomeZero s).faults = s.faults ∧ (becomeZero s).counters = s.counters
    ∧ (becomeZero s).library = s.library ∧ (becomeZero s).player = s.player ∧ (becomeZero s).drive = s.drive
    ∧ (becomeZero s).converter = s.converter ∧ (becomeZero s).scanner = s.scanner
    ∧ (becomeZero s).bindings = s.bindings ∧ (becomeZero s).inputs = s.inputs ∧ (becomeZero s).keys = s.keys
    ∧ (becomeZero s).supply = s.supply := by
  unfold becomeZero; dsimp only; (repeat' split) <;> simp

@[simp] theorem startBeat_frame (k : BeatKind) (s : State) :
    (startBeat k s).pending = s.pending ∧ (startBeat k s).pins = s.pins ∧ (startBeat k s).line = s.line
    ∧ (startBeat k s).loop = s.loop ∧ (startBeat k s).queue = s.queue ∧ (startBeat k s).table = s.table
    ∧ (startBeat k s).roster = s.roster ∧ (startBeat k s).faults = s.faults
    ∧ (startBeat k s).counters = s.counters ∧ (startBeat k s).library = s.library
    ∧ (startBeat k s).player = s.player ∧ (startBeat k s).drive = s.drive
    ∧ (startBeat k s).converter = s.converter ∧ (startBeat k s).scanner = s.scanner
    ∧ (startBeat k s).bindings = s.bindings ∧ (startBeat k s).inputs = s.inputs ∧ (startBeat k s).keys = s.keys
    ∧ (startBeat k s).supply = s.supply := by
  unfold startBeat; dsimp only; (repeat' split) <;> simp

@[simp] theorem holdMark_frame (s : State) :
    (holdMark s).pending = s.pending ∧ (holdMark s).line = s.line ∧ (holdMark s).loop = s.loop
    ∧ (holdMark s).queue = s.queue ∧ (holdMark s).table = s.table ∧ (holdMark s).roster = s.roster
    ∧ (holdMark s).faults = s.faults ∧ (holdMark s).counters = s.counters ∧ (holdMark s).library = s.library
    ∧ (holdMark s).player = s.player ∧ (holdMark s).drive = s.drive ∧ (holdMark s).converter = s.converter
    ∧ (holdMark s).scanner = s.scanner ∧ (holdMark s).bindings = s.bindings ∧ (holdMark s).inputs = s.inputs
    ∧ (holdMark s).keys = s.keys ∧ (holdMark s).supply = s.supply ∧ (holdMark s).startup = s.startup
    ∧ (holdMark s).port = s.port := by
  unfold holdMark; simp

@[simp] theorem enterLocked_frame (s : State) :
    (enterLocked s).pending = s.pending ∧ (enterLocked s).pins = s.pins ∧ (enterLocked s).line = s.line
    ∧ (enterLocked s).loop = s.loop ∧ (enterLocked s).queue = s.queue ∧ (enterLocked s).table = s.table
    ∧ (enterLocked s).roster = s.roster ∧ (enterLocked s).faults = s.faults
    ∧ (enterLocked s).counters = s.counters ∧ (enterLocked s).library = s.library
    ∧ (enterLocked s).player = s.player ∧ (enterLocked s).drive = s.drive
    ∧ (enterLocked s).converter = s.converter ∧ (enterLocked s).scanner = s.scanner
    ∧ (enterLocked s).bindings = s.bindings ∧ (enterLocked s).inputs = s.inputs ∧ (enterLocked s).keys = s.keys
    ∧ (enterLocked s).supply = s.supply ∧ (enterLocked s).port = s.port := by
  unfold enterLocked; simp

@[simp] theorem enterFree_frame (s : State) :
    (enterFree s).pending = s.pending ∧ (enterFree s).pins = s.pins ∧ (enterFree s).line = s.line
    ∧ (enterFree s).table = s.table ∧ (enterFree s).roster = s.roster ∧ (enterFree s).faults = s.faults
    ∧ (enterFree s).counters = s.counters ∧ (enterFree s).library = s.library ∧ (enterFree s).player = s.player
    ∧ (enterFree s).drive = s.drive ∧ (enterFree s).converter = s.converter ∧ (enterFree s).scanner = s.scanner
    ∧ (enterFree s).bindings = s.bindings ∧ (enterFree s).inputs = s.inputs ∧ (enterFree s).keys = s.keys
    ∧ (enterFree s).supply = s.supply := by
  unfold enterFree; simp

@[simp] theorem settleTo_frame (n : Nat) (s : State) :
    (settleTo n s).pending = s.pending ∧ (settleTo n s).pins = s.pins ∧ (settleTo n s).line = s.line
    ∧ (settleTo n s).loop = s.loop ∧ (settleTo n s).queue = s.queue ∧ (settleTo n s).table = s.table
    ∧ (settleTo n s).roster = s.roster ∧ (settleTo n s).faults = s.faults ∧ (settleTo n s).counters = s.counters
    ∧ (settleTo n s).library = s.library ∧ (settleTo n s).player = s.player ∧ (settleTo n s).drive = s.drive
    ∧ (settleTo n s).converter = s.converter ∧ (settleTo n s).scanner = s.scanner
    ∧ (settleTo n s).bindings = s.bindings ∧ (settleTo n s).inputs = s.inputs ∧ (settleTo n s).keys = s.keys
    ∧ (settleTo n s).supply = s.supply ∧ (settleTo n s).port = s.port := by
  unfold settleTo; (repeat' split) <;> simp

@[simp] theorem sameBeat_frame (s : State) :
    (sameBeat s).pending = s.pending ∧ (sameBeat s).queue = s.queue ∧ (sameBeat s).table = s.table
    ∧ (sameBeat s).roster = s.roster ∧ (sameBeat s).faults = s.faults ∧ (sameBeat s).counters = s.counters
    ∧ (sameBeat s).library = s.library ∧ (sameBeat s).player = s.player ∧ (sameBeat s).drive = s.drive
    ∧ (sameBeat s).converter = s.converter ∧ (sameBeat s).scanner = s.scanner ∧ (sameBeat s).bindings = s.bindings
    ∧ (sameBeat s).inputs = s.inputs ∧ (sameBeat s).keys = s.keys ∧ (sameBeat s).supply = s.supply
    ∧ (sameBeat s).startup = s.startup ∧ (sameBeat s).port = s.port := by
  unfold sameBeat; simp

@[simp] theorem stray_frame (s : State) :
    (stray s).pending = s.pending ∧ (stray s).pins = s.pins ∧ (stray s).line = s.line ∧ (stray s).table = s.table
    ∧ (stray s).roster = s.roster ∧ (stray s).faults = s.faults ∧ (stray s).library = s.library
    ∧ (stray s).player = s.player ∧ (stray s).drive = s.drive ∧ (stray s).converter = s.converter
    ∧ (stray s).scanner = s.scanner ∧ (stray s).bindings = s.bindings ∧ (stray s).inputs = s.inputs
    ∧ (stray s).keys = s.keys ∧ (stray s).supply = s.supply := by
  unfold stray; dsimp only; (repeat' split) <;> simp

@[simp] theorem markRelease_frame (s : State) :
    (markRelease s).pending = s.pending ∧ (markRelease s).pins = s.pins ∧ (markRelease s).line = s.line
    ∧ (markRelease s).loop = s.loop ∧ (markRelease s).queue = s.queue ∧ (markRelease s).table = s.table
    ∧ (markRelease s).roster = s.roster ∧ (markRelease s).faults = s.faults
    ∧ (markRelease s).counters = s.counters ∧ (markRelease s).library = s.library
    ∧ (markRelease s).player = s.player ∧ (markRelease s).drive = s.drive
    ∧ (markRelease s).converter = s.converter ∧ (markRelease s).scanner = s.scanner
    ∧ (markRelease s).bindings = s.bindings ∧ (markRelease s).inputs = s.inputs ∧ (markRelease s).keys = s.keys
    ∧ (markRelease s).supply = s.supply ∧ (markRelease s).startup = s.startup ∧ (markRelease s).port = s.port := by
  unfold markRelease; (repeat' split) <;> simp

@[simp] theorem recogniseBarMark_frame (s : State) :
    (recogniseBarMark s).pending = s.pending ∧ (recogniseBarMark s).pins = s.pins
    ∧ (recogniseBarMark s).line = s.line ∧ (recogniseBarMark s).loop = s.loop
    ∧ (recogniseBarMark s).queue = s.queue ∧ (recogniseBarMark s).table = s.table
    ∧ (recogniseBarMark s).roster = s.roster ∧ (recogniseBarMark s).faults = s.faults
    ∧ (recogniseBarMark s).counters = s.counters ∧ (recogniseBarMark s).library = s.library
    ∧ (recogniseBarMark s).player = s.player ∧ (recogniseBarMark s).drive = s.drive
    ∧ (recogniseBarMark s).converter = s.converter ∧ (recogniseBarMark s).scanner = s.scanner
    ∧ (recogniseBarMark s).bindings = s.bindings ∧ (recogniseBarMark s).inputs = s.inputs
    ∧ (recogniseBarMark s).keys = s.keys ∧ (recogniseBarMark s).supply = s.supply := by
  unfold recogniseBarMark; dsimp only; (repeat' split) <;> simp

@[simp] theorem barMark_frame (s : State) :
    (barMark s).pending = s.pending ∧ (barMark s).pins = s.pins ∧ (barMark s).line = s.line
    ∧ (barMark s).loop = s.loop ∧ (barMark s).queue = s.queue ∧ (barMark s).table = s.table
    ∧ (barMark s).roster = s.roster ∧ (barMark s).faults = s.faults ∧ (barMark s).counters = s.counters
    ∧ (barMark s).library = s.library ∧ (barMark s).player = s.player ∧ (barMark s).drive = s.drive
    ∧ (barMark s).converter = s.converter ∧ (barMark s).scanner = s.scanner ∧ (barMark s).bindings = s.bindings
    ∧ (barMark s).inputs = s.inputs ∧ (barMark s).keys = s.keys ∧ (barMark s).supply = s.supply := by
  unfold barMark; (repeat' split) <;> simp

@[simp] theorem beatRise_frame (s : State) :
    (beatRise s).pending = s.pending ∧ (beatRise s).line = s.line ∧ (beatRise s).loop = s.loop
    ∧ (beatRise s).queue = s.queue ∧ (beatRise s).table = s.table ∧ (beatRise s).roster = s.roster
    ∧ (beatRise s).counters = s.counters ∧ (beatRise s).library = s.library ∧ (beatRise s).player = s.player
    ∧ (beatRise s).drive = s.drive ∧ (beatRise s).converter = s.converter ∧ (beatRise s).scanner = s.scanner
    ∧ (beatRise s).bindings = s.bindings ∧ (beatRise s).inputs = s.inputs ∧ (beatRise s).keys = s.keys
    ∧ (beatRise s).supply = s.supply := by
  unfold beatRise; dsimp only; (repeat' split) <;> simp

@[simp] theorem beatStuck_frame (s : State) :
    (beatStuck s).pending = s.pending ∧ (beatStuck s).pins = s.pins ∧ (beatStuck s).line = s.line
    ∧ (beatStuck s).table = s.table ∧ (beatStuck s).roster = s.roster ∧ (beatStuck s).counters = s.counters
    ∧ (beatStuck s).library = s.library ∧ (beatStuck s).player = s.player ∧ (beatStuck s).drive = s.drive
    ∧ (beatStuck s).converter = s.converter ∧ (beatStuck s).scanner = s.scanner
    ∧ (beatStuck s).bindings = s.bindings ∧ (beatStuck s).inputs = s.inputs ∧ (beatStuck s).keys = s.keys
    ∧ (beatStuck s).supply = s.supply := by
  unfold beatStuck; dsimp only; (repeat' split) <;> simp

@[simp] theorem adopt_frame (o : Nat) (b : Byte) (i : BitVec 4) (s : State) :
    (adopt o b i s).pending = s.pending ∧ (adopt o b i s).pins = s.pins ∧ (adopt o b i s).line = s.line
    ∧ (adopt o b i s).loop = s.loop ∧ (adopt o b i s).queue = s.queue ∧ (adopt o b i s).table = s.table
    ∧ (adopt o b i s).roster = s.roster ∧ (adopt o b i s).faults = s.faults
    ∧ (adopt o b i s).counters = s.counters ∧ (adopt o b i s).library = s.library
    ∧ (adopt o b i s).player = s.player ∧ (adopt o b i s).drive = s.drive
    ∧ (adopt o b i s).converter = s.converter ∧ (adopt o b i s).scanner = s.scanner
    ∧ (adopt o b i s).bindings = s.bindings ∧ (adopt o b i s).inputs = s.inputs ∧ (adopt o b i s).keys = s.keys
    ∧ (adopt o b i s).supply = s.supply ∧ (adopt o b i s).startup = s.startup ∧ (adopt o b i s).port = s.port := by
  unfold adopt; (repeat' split) <;> simp

@[simp] theorem handBeat_frame (s : State) :
    (handBeat s).pending = s.pending ∧ (handBeat s).pins = s.pins ∧ (handBeat s).beat = s.beat
    ∧ (handBeat s).library = s.library ∧ (handBeat s).scanner = s.scanner ∧ (handBeat s).bindings = s.bindings
    ∧ (handBeat s).supply = s.supply ∧ (handBeat s).startup = s.startup := by
  unfold handBeat handMark; (repeat' split) <;> simp

@[simp] theorem beatFall_frame (s : State) :
    (beatFall s).pending = s.pending ∧ (beatFall s).library = s.library ∧ (beatFall s).scanner = s.scanner
    ∧ (beatFall s).bindings = s.bindings ∧ (beatFall s).supply = s.supply := by
  unfold beatFall takeFall settlingBeat lockedBeat; dsimp only; (repeat' split) <;> simp

@[simp] theorem beatTimerExpiry_frame (s : State) :
    (beatTimerExpiry s).pending = s.pending ∧ (beatTimerExpiry s).library = s.library
    ∧ (beatTimerExpiry s).scanner = s.scanner ∧ (beatTimerExpiry s).bindings = s.bindings
    ∧ (beatTimerExpiry s).supply = s.supply := by
  unfold beatTimerExpiry settlingBeat lockedBeat internalBeat; dsimp only; (repeat' split) <;> simp

@[simp] theorem eighthMark_frame (s : State) :
    (eighthMark s).pending = s.pending ∧ (eighthMark s).pins = s.pins ∧ (eighthMark s).line = s.line
    ∧ (eighthMark s).loop = s.loop ∧ (eighthMark s).library = s.library ∧ (eighthMark s).converter = s.converter
    ∧ (eighthMark s).scanner = s.scanner ∧ (eighthMark s).bindings = s.bindings ∧ (eighthMark s).supply = s.supply
    ∧ (eighthMark s).startup = s.startup := by
  unfold eighthMark handMark; (repeat' split) <;> simp

end Sys2Proof.Machine
end

