-- ==== Sys2Proof/Laws/Line.lean ====
section
/-! SUPPORT. What the line operations leave as they were. Each lemma reads block by block. -/

namespace Sys2Proof.Machine

@[simp] theorem modifyLine_frame (f : Line → Line) (s : State) :
    (modifyLine f s).pending = s.pending ∧ (modifyLine f s).pins = s.pins ∧ (modifyLine f s).beat = s.beat
    ∧ (modifyLine f s).loop = s.loop ∧ (modifyLine f s).queue = s.queue ∧ (modifyLine f s).table = s.table
    ∧ (modifyLine f s).roster = s.roster ∧ (modifyLine f s).faults = s.faults
    ∧ (modifyLine f s).counters = s.counters ∧ (modifyLine f s).library = s.library
    ∧ (modifyLine f s).player = s.player ∧ (modifyLine f s).drive = s.drive
    ∧ (modifyLine f s).converter = s.converter ∧ (modifyLine f s).scanner = s.scanner
    ∧ (modifyLine f s).bindings = s.bindings ∧ (modifyLine f s).inputs = s.inputs ∧ (modifyLine f s).keys = s.keys
    ∧ (modifyLine f s).supply = s.supply ∧ (modifyLine f s).startup = s.startup ∧ (modifyLine f s).port = s.port := by
  unfold modifyLine; simp

@[simp] theorem modifyTx_frame (f : TxRecord → TxRecord) (s : State) :
    (modifyTx f s).pending = s.pending ∧ (modifyTx f s).pins = s.pins ∧ (modifyTx f s).beat = s.beat
    ∧ (modifyTx f s).line = s.line ∧ (modifyTx f s).queue = s.queue ∧ (modifyTx f s).table = s.table
    ∧ (modifyTx f s).roster = s.roster ∧ (modifyTx f s).faults = s.faults ∧ (modifyTx f s).counters = s.counters
    ∧ (modifyTx f s).library = s.library ∧ (modifyTx f s).player = s.player ∧ (modifyTx f s).drive = s.drive
    ∧ (modifyTx f s).converter = s.converter ∧ (modifyTx f s).scanner = s.scanner
    ∧ (modifyTx f s).bindings = s.bindings ∧ (modifyTx f s).inputs = s.inputs ∧ (modifyTx f s).keys = s.keys
    ∧ (modifyTx f s).supply = s.supply ∧ (modifyTx f s).startup = s.startup ∧ (modifyTx f s).port = s.port := by
  unfold modifyTx; simp

@[simp] theorem conflictBy_frame (sl : Slot) (f : Frame) (s : State) :
    (conflictBy sl f s).pending = s.pending ∧ (conflictBy sl f s).pins = s.pins
    ∧ (conflictBy sl f s).beat = s.beat ∧ (conflictBy sl f s).line = s.line ∧ (conflictBy sl f s).queue = s.queue
    ∧ (conflictBy sl f s).table = s.table ∧ (conflictBy sl f s).roster = s.roster
    ∧ (conflictBy sl f s).counters = s.counters ∧ (conflictBy sl f s).library = s.library
    ∧ (conflictBy sl f s).player = s.player ∧ (conflictBy sl f s).drive = s.drive
    ∧ (conflictBy sl f s).converter = s.converter ∧ (conflictBy sl f s).scanner = s.scanner
    ∧ (conflictBy sl f s).bindings = s.bindings ∧ (conflictBy sl f s).inputs = s.inputs
    ∧ (conflictBy sl f s).keys = s.keys ∧ (conflictBy sl f s).supply = s.supply
    ∧ (conflictBy sl f s).startup = s.startup := by
  unfold conflictBy; (repeat' split) <;> simp

@[simp] theorem flagsBy_frame (f : Frame) (s : State) :
    (flagsBy f s).pending = s.pending ∧ (flagsBy f s).pins = s.pins ∧ (flagsBy f s).beat = s.beat
    ∧ (flagsBy f s).line = s.line ∧ (flagsBy f s).loop = s.loop ∧ (flagsBy f s).queue = s.queue
    ∧ (flagsBy f s).table = s.table ∧ (flagsBy f s).faults = s.faults ∧ (flagsBy f s).counters = s.counters
    ∧ (flagsBy f s).library = s.library ∧ (flagsBy f s).player = s.player ∧ (flagsBy f s).drive = s.drive
    ∧ (flagsBy f s).converter = s.converter ∧ (flagsBy f s).scanner = s.scanner
    ∧ (flagsBy f s).bindings = s.bindings ∧ (flagsBy f s).inputs = s.inputs ∧ (flagsBy f s).keys = s.keys
    ∧ (flagsBy f s).supply = s.supply ∧ (flagsBy f s).startup = s.startup ∧ (flagsBy f s).port = s.port := by
  unfold flagsBy; (repeat' split) <;> simp

@[simp] theorem noteOwner_frame (f : Frame) (s : State) :
    (noteOwner f s).pending = s.pending ∧ (noteOwner f s).pins = s.pins ∧ (noteOwner f s).beat = s.beat
    ∧ (noteOwner f s).line = s.line ∧ (noteOwner f s).queue = s.queue ∧ (noteOwner f s).table = s.table
    ∧ (noteOwner f s).roster = s.roster ∧ (noteOwner f s).faults = s.faults ∧ (noteOwner f s).library = s.library
    ∧ (noteOwner f s).player = s.player ∧ (noteOwner f s).drive = s.drive
    ∧ (noteOwner f s).converter = s.converter ∧ (noteOwner f s).scanner = s.scanner
    ∧ (noteOwner f s).bindings = s.bindings ∧ (noteOwner f s).inputs = s.inputs ∧ (noteOwner f s).keys = s.keys
    ∧ (noteOwner f s).supply = s.supply ∧ (noteOwner f s).startup = s.startup := by
  unfold noteOwner; (repeat' split) <;> simp

@[simp] theorem endRaise_frame (sl : Slot) (f : Frame) (s : State) :
    (endRaise sl f s).pending = s.pending ∧ (endRaise sl f s).pins = s.pins ∧ (endRaise sl f s).beat = s.beat
    ∧ (endRaise sl f s).line = s.line ∧ (endRaise sl f s).queue = s.queue ∧ (endRaise sl f s).library = s.library
    ∧ (endRaise sl f s).converter = s.converter ∧ (endRaise sl f s).scanner = s.scanner
    ∧ (endRaise sl f s).bindings = s.bindings ∧ (endRaise sl f s).inputs = s.inputs
    ∧ (endRaise sl f s).keys = s.keys ∧ (endRaise sl f s).supply = s.supply
    ∧ (endRaise sl f s).startup = s.startup := by
  unfold endRaise; dsimp only; (repeat' split) <;> simp

@[simp] theorem endClear_frame (sl : Slot) (f : Frame) (s : State) :
    (endClear sl f s).pending = s.pending ∧ (endClear sl f s).pins = s.pins ∧ (endClear sl f s).beat = s.beat
    ∧ (endClear sl f s).line = s.line ∧ (endClear sl f s).queue = s.queue ∧ (endClear sl f s).library = s.library
    ∧ (endClear sl f s).converter = s.converter ∧ (endClear sl f s).scanner = s.scanner
    ∧ (endClear sl f s).bindings = s.bindings ∧ (endClear sl f s).inputs = s.inputs
    ∧ (endClear sl f s).keys = s.keys ∧ (endClear sl f s).supply = s.supply
    ∧ (endClear sl f s).startup = s.startup := by
  unfold endClear; dsimp only; (repeat' split) <;> simp

@[simp] theorem endSilence_frame (sl : Slot) (f : Frame) (s : State) :
    (endSilence sl f s).pending = s.pending ∧ (endSilence sl f s).pins = s.pins
    ∧ (endSilence sl f s).beat = s.beat ∧ (endSilence sl f s).line = s.line ∧ (endSilence sl f s).queue = s.queue
    ∧ (endSilence sl f s).library = s.library ∧ (endSilence sl f s).converter = s.converter
    ∧ (endSilence sl f s).scanner = s.scanner ∧ (endSilence sl f s).bindings = s.bindings
    ∧ (endSilence sl f s).inputs = s.inputs ∧ (endSilence sl f s).keys = s.keys
    ∧ (endSilence sl f s).supply = s.supply ∧ (endSilence sl f s).startup = s.startup := by
  unfold endSilence; dsimp only; (repeat' split) <;> simp

@[simp] theorem endRestore_frame (sl : Slot) (f : Frame) (s : State) :
    (endRestore sl f s).pending = s.pending ∧ (endRestore sl f s).pins = s.pins
    ∧ (endRestore sl f s).beat = s.beat ∧ (endRestore sl f s).line = s.line
    ∧ (endRestore sl f s).library = s.library ∧ (endRestore sl f s).converter = s.converter
    ∧ (endRestore sl f s).scanner = s.scanner ∧ (endRestore sl f s).bindings = s.bindings
    ∧ (endRestore sl f s).keys = s.keys ∧ (endRestore sl f s).supply = s.supply
    ∧ (endRestore sl f s).startup = s.startup := by
  unfold endRestore; (repeat' split) <;> simp

@[simp] theorem endStatus_frame (sl : Slot) (f : Frame) (s : State) :
    (endStatus sl f s).pending = s.pending ∧ (endStatus sl f s).pins = s.pins ∧ (endStatus sl f s).line = s.line
    ∧ (endStatus sl f s).queue = s.queue ∧ (endStatus sl f s).library = s.library
    ∧ (endStatus sl f s).converter = s.converter ∧ (endStatus sl f s).scanner = s.scanner
    ∧ (endStatus sl f s).bindings = s.bindings ∧ (endStatus sl f s).inputs = s.inputs
    ∧ (endStatus sl f s).keys = s.keys ∧ (endStatus sl f s).supply = s.supply
    ∧ (endStatus sl f s).startup = s.startup := by
  unfold endStatus; dsimp only; (repeat' split) <;> simp

@[simp] theorem handOn_frame (sl : Slot) (f : Frame) (s : State) :
    (handOn sl f s).pending = s.pending ∧ (handOn sl f s).pins = s.pins ∧ (handOn sl f s).line = s.line
    ∧ (handOn sl f s).library = s.library ∧ (handOn sl f s).converter = s.converter
    ∧ (handOn sl f s).scanner = s.scanner ∧ (handOn sl f s).bindings = s.bindings ∧ (handOn sl f s).keys = s.keys
    ∧ (handOn sl f s).supply = s.supply ∧ (handOn sl f s).startup = s.startup := by
  unfold handOn; (repeat' split) <;> simp

@[simp] theorem judgeFrame_frame (r : Reception) (s : State) :
    (judgeFrame r s).pending = s.pending ∧ (judgeFrame r s).pins = s.pins ∧ (judgeFrame r s).line = s.line
    ∧ (judgeFrame r s).library = s.library ∧ (judgeFrame r s).converter = s.converter
    ∧ (judgeFrame r s).scanner = s.scanner ∧ (judgeFrame r s).bindings = s.bindings
    ∧ (judgeFrame r s).keys = s.keys ∧ (judgeFrame r s).supply = s.supply ∧ (judgeFrame r s).startup = s.startup := by
  unfold judgeFrame; (repeat' split) <;> simp

@[simp] theorem countMismatch_frame (r : TxRecord) (s : State) :
    (countMismatch r s).pending = s.pending ∧ (countMismatch r s).pins = s.pins
    ∧ (countMismatch r s).beat = s.beat ∧ (countMismatch r s).line = s.line ∧ (countMismatch r s).loop = s.loop
    ∧ (countMismatch r s).queue = s.queue ∧ (countMismatch r s).table = s.table
    ∧ (countMismatch r s).roster = s.roster ∧ (countMismatch r s).library = s.library
    ∧ (countMismatch r s).player = s.player ∧ (countMismatch r s).drive = s.drive
    ∧ (countMismatch r s).converter = s.converter ∧ (countMismatch r s).scanner = s.scanner
    ∧ (countMismatch r s).bindings = s.bindings ∧ (countMismatch r s).inputs = s.inputs
    ∧ (countMismatch r s).keys = s.keys ∧ (countMismatch r s).supply = s.supply
    ∧ (countMismatch r s).startup = s.startup := by
  unfold countMismatch; (repeat' split) <;> simp

@[simp] theorem completeTx_frame (r : TxRecord) (s : State) :
    (completeTx r s).pending = s.pending ∧ (completeTx r s).pins = s.pins ∧ (completeTx r s).beat = s.beat
    ∧ (completeTx r s).line = s.line ∧ (completeTx r s).table = s.table ∧ (completeTx r s).roster = s.roster
    ∧ (completeTx r s).counters = s.counters ∧ (completeTx r s).library = s.library
    ∧ (completeTx r s).player = s.player ∧ (completeTx r s).drive = s.drive
    ∧ (completeTx r s).converter = s.converter ∧ (completeTx r s).scanner = s.scanner
    ∧ (completeTx r s).bindings = s.bindings ∧ (completeTx r s).inputs = s.inputs ∧ (completeTx r s).keys = s.keys
    ∧ (completeTx r s).supply = s.supply ∧ (completeTx r s).startup = s.startup := by
  unfold completeTx; dsimp only; (repeat' split) <;> simp

@[simp] theorem readBack_frame (s : State) :
    (readBack s).pending = s.pending ∧ (readBack s).pins = s.pins ∧ (readBack s).beat = s.beat
    ∧ (readBack s).line = s.line ∧ (readBack s).table = s.table ∧ (readBack s).roster = s.roster
    ∧ (readBack s).library = s.library ∧ (readBack s).player = s.player ∧ (readBack s).drive = s.drive
    ∧ (readBack s).converter = s.converter ∧ (readBack s).scanner = s.scanner ∧ (readBack s).bindings = s.bindings
    ∧ (readBack s).inputs = s.inputs ∧ (readBack s).keys = s.keys ∧ (readBack s).supply = s.supply
    ∧ (readBack s).startup = s.startup := by
  unfold readBack; (repeat' split) <;> simp

@[simp] theorem bitTimeEnd_frame (s : State) :
    (bitTimeEnd s).pending = s.pending ∧ (bitTimeEnd s).pins = s.pins ∧ (bitTimeEnd s).beat = s.beat
    ∧ (bitTimeEnd s).line = s.line ∧ (bitTimeEnd s).queue = s.queue ∧ (bitTimeEnd s).table = s.table
    ∧ (bitTimeEnd s).roster = s.roster ∧ (bitTimeEnd s).faults = s.faults ∧ (bitTimeEnd s).counters = s.counters
    ∧ (bitTimeEnd s).library = s.library ∧ (bitTimeEnd s).player = s.player ∧ (bitTimeEnd s).drive = s.drive
    ∧ (bitTimeEnd s).converter = s.converter ∧ (bitTimeEnd s).scanner = s.scanner
    ∧ (bitTimeEnd s).bindings = s.bindings ∧ (bitTimeEnd s).inputs = s.inputs ∧ (bitTimeEnd s).keys = s.keys
    ∧ (bitTimeEnd s).supply = s.supply ∧ (bitTimeEnd s).startup = s.startup ∧ (bitTimeEnd s).port = s.port := by
  unfold bitTimeEnd; (repeat' split) <;> simp

@[simp] theorem resynchronise_frame (s : State) :
    (resynchronise s).pending = s.pending ∧ (resynchronise s).pins = s.pins ∧ (resynchronise s).beat = s.beat
    ∧ (resynchronise s).line = s.line ∧ (resynchronise s).queue = s.queue ∧ (resynchronise s).table = s.table
    ∧ (resynchronise s).roster = s.roster ∧ (resynchronise s).faults = s.faults
    ∧ (resynchronise s).counters = s.counters ∧ (resynchronise s).library = s.library
    ∧ (resynchronise s).player = s.player ∧ (resynchronise s).drive = s.drive
    ∧ (resynchronise s).converter = s.converter ∧ (resynchronise s).scanner = s.scanner
    ∧ (resynchronise s).bindings = s.bindings ∧ (resynchronise s).inputs = s.inputs
    ∧ (resynchronise s).keys = s.keys ∧ (resynchronise s).supply = s.supply
    ∧ (resynchronise s).startup = s.startup ∧ (resynchronise s).port = s.port := by
  unfold resynchronise; (repeat' split) <;> simp

@[simp] theorem dataFall_frame (s : State) :
    (dataFall s).pending = s.pending ∧ (dataFall s).beat = s.beat ∧ (dataFall s).queue = s.queue
    ∧ (dataFall s).table = s.table ∧ (dataFall s).roster = s.roster ∧ (dataFall s).faults = s.faults
    ∧ (dataFall s).counters = s.counters ∧ (dataFall s).library = s.library ∧ (dataFall s).player = s.player
    ∧ (dataFall s).drive = s.drive ∧ (dataFall s).converter = s.converter ∧ (dataFall s).scanner = s.scanner
    ∧ (dataFall s).bindings = s.bindings ∧ (dataFall s).inputs = s.inputs ∧ (dataFall s).keys = s.keys
    ∧ (dataFall s).supply = s.supply ∧ (dataFall s).startup = s.startup ∧ (dataFall s).port = s.port := by
  unfold dataFall; dsimp only; (repeat' split) <;> simp

@[simp] theorem dataRise_frame (s : State) :
    (dataRise s).pending = s.pending ∧ (dataRise s).beat = s.beat ∧ (dataRise s).loop = s.loop
    ∧ (dataRise s).queue = s.queue ∧ (dataRise s).table = s.table ∧ (dataRise s).roster = s.roster
    ∧ (dataRise s).faults = s.faults ∧ (dataRise s).counters = s.counters ∧ (dataRise s).library = s.library
    ∧ (dataRise s).player = s.player ∧ (dataRise s).drive = s.drive ∧ (dataRise s).converter = s.converter
    ∧ (dataRise s).scanner = s.scanner ∧ (dataRise s).bindings = s.bindings ∧ (dataRise s).inputs = s.inputs
    ∧ (dataRise s).keys = s.keys ∧ (dataRise s).supply = s.supply ∧ (dataRise s).startup = s.startup
    ∧ (dataRise s).port = s.port := by
  unfold dataRise; dsimp only; (repeat' split) <;> simp

@[simp] theorem dataStuck_frame (s : State) :
    (dataStuck s).pending = s.pending ∧ (dataStuck s).pins = s.pins ∧ (dataStuck s).beat = s.beat
    ∧ (dataStuck s).loop = s.loop ∧ (dataStuck s).queue = s.queue ∧ (dataStuck s).table = s.table
    ∧ (dataStuck s).roster = s.roster ∧ (dataStuck s).counters = s.counters ∧ (dataStuck s).library = s.library
    ∧ (dataStuck s).player = s.player ∧ (dataStuck s).drive = s.drive ∧ (dataStuck s).converter = s.converter
    ∧ (dataStuck s).scanner = s.scanner ∧ (dataStuck s).bindings = s.bindings ∧ (dataStuck s).inputs = s.inputs
    ∧ (dataStuck s).keys = s.keys ∧ (dataStuck s).supply = s.supply ∧ (dataStuck s).startup = s.startup := by
  unfold dataStuck; (repeat' split) <;> simp

@[simp] theorem beginFrame_frame (s : State) :
    (beginFrame s).pending = s.pending ∧ (beginFrame s).pins = s.pins ∧ (beginFrame s).beat = s.beat
    ∧ (beginFrame s).line = s.line ∧ (beginFrame s).table = s.table ∧ (beginFrame s).roster = s.roster
    ∧ (beginFrame s).faults = s.faults ∧ (beginFrame s).counters = s.counters ∧ (beginFrame s).library = s.library
    ∧ (beginFrame s).player = s.player ∧ (beginFrame s).drive = s.drive ∧ (beginFrame s).converter = s.converter
    ∧ (beginFrame s).scanner = s.scanner ∧ (beginFrame s).bindings = s.bindings ∧ (beginFrame s).inputs = s.inputs
    ∧ (beginFrame s).keys = s.keys ∧ (beginFrame s).supply = s.supply ∧ (beginFrame s).startup = s.startup
    ∧ (beginFrame s).port = s.port := by
  unfold beginFrame; dsimp only; (repeat' split) <;> simp

@[simp] theorem sampleStart_frame (s : State) :
    (sampleStart s).pending = s.pending ∧ (sampleStart s).pins = s.pins ∧ (sampleStart s).beat = s.beat
    ∧ (sampleStart s).table = s.table ∧ (sampleStart s).roster = s.roster ∧ (sampleStart s).faults = s.faults
    ∧ (sampleStart s).counters = s.counters ∧ (sampleStart s).library = s.library
    ∧ (sampleStart s).player = s.player ∧ (sampleStart s).drive = s.drive
    ∧ (sampleStart s).converter = s.converter ∧ (sampleStart s).scanner = s.scanner
    ∧ (sampleStart s).bindings = s.bindings ∧ (sampleStart s).inputs = s.inputs ∧ (sampleStart s).keys = s.keys
    ∧ (sampleStart s).supply = s.supply ∧ (sampleStart s).startup = s.startup ∧ (sampleStart s).port = s.port := by
  unfold sampleStart; dsimp only; (repeat' split) <;> simp

@[simp] theorem sampleData_frame (s : State) :
    (sampleData s).pending = s.pending ∧ (sampleData s).pins = s.pins ∧ (sampleData s).beat = s.beat
    ∧ (sampleData s).loop = s.loop ∧ (sampleData s).queue = s.queue ∧ (sampleData s).table = s.table
    ∧ (sampleData s).roster = s.roster ∧ (sampleData s).faults = s.faults ∧ (sampleData s).counters = s.counters
    ∧ (sampleData s).library = s.library ∧ (sampleData s).player = s.player ∧ (sampleData s).drive = s.drive
    ∧ (sampleData s).converter = s.converter ∧ (sampleData s).scanner = s.scanner
    ∧ (sampleData s).bindings = s.bindings ∧ (sampleData s).inputs = s.inputs ∧ (sampleData s).keys = s.keys
    ∧ (sampleData s).supply = s.supply ∧ (sampleData s).startup = s.startup ∧ (sampleData s).port = s.port := by
  unfold sampleData; simp

@[simp] theorem sampleStop_frame (s : State) :
    (sampleStop s).pending = s.pending ∧ (sampleStop s).pins = s.pins ∧ (sampleStop s).library = s.library
    ∧ (sampleStop s).converter = s.converter ∧ (sampleStop s).scanner = s.scanner
    ∧ (sampleStop s).bindings = s.bindings ∧ (sampleStop s).keys = s.keys ∧ (sampleStop s).supply = s.supply
    ∧ (sampleStop s).startup = s.startup := by
  unfold sampleStop; dsimp only; (repeat' split) <;> simp

@[simp] theorem receiverSample_frame (s : State) :
    (receiverSample s).pending = s.pending ∧ (receiverSample s).pins = s.pins
    ∧ (receiverSample s).library = s.library ∧ (receiverSample s).converter = s.converter
    ∧ (receiverSample s).scanner = s.scanner ∧ (receiverSample s).bindings = s.bindings
    ∧ (receiverSample s).keys = s.keys ∧ (receiverSample s).supply = s.supply
    ∧ (receiverSample s).startup = s.startup := by
  unfold receiverSample; (repeat' split) <;> simp

@[simp] theorem bitSample_frame (s : State) :
    (bitSample s).pending = s.pending ∧ (bitSample s).pins = s.pins ∧ (bitSample s).library = s.library
    ∧ (bitSample s).converter = s.converter ∧ (bitSample s).scanner = s.scanner
    ∧ (bitSample s).bindings = s.bindings ∧ (bitSample s).keys = s.keys ∧ (bitSample s).supply = s.supply
    ∧ (bitSample s).startup = s.startup := by
  unfold bitSample; simp

@[simp] theorem gapTimeout_frame (s : State) :
    (gapTimeout s).pending = s.pending ∧ (gapTimeout s).pins = s.pins ∧ (gapTimeout s).beat = s.beat
    ∧ (gapTimeout s).queue = s.queue ∧ (gapTimeout s).table = s.table ∧ (gapTimeout s).roster = s.roster
    ∧ (gapTimeout s).faults = s.faults ∧ (gapTimeout s).library = s.library ∧ (gapTimeout s).player = s.player
    ∧ (gapTimeout s).drive = s.drive ∧ (gapTimeout s).converter = s.converter ∧ (gapTimeout s).scanner = s.scanner
    ∧ (gapTimeout s).bindings = s.bindings ∧ (gapTimeout s).inputs = s.inputs ∧ (gapTimeout s).keys = s.keys
    ∧ (gapTimeout s).supply = s.supply ∧ (gapTimeout s).startup = s.startup := by
  unfold gapTimeout; dsimp only; (repeat' split) <;> simp

end Sys2Proof.Machine
end

