-- ==== Sys2Proof/Laws/Sensing.lean ====
section
/-! SUPPORT. What the operations of inputs, keys and supply leave as they were. Each lemma reads block by block. -/

namespace Sys2Proof.Machine

@[simp] theorem setInput_frame (i : Nat) (x : Input) (s : State) :
    (setInput i x s).pending = s.pending ∧ (setInput i x s).pins = s.pins ∧ (setInput i x s).beat = s.beat
    ∧ (setInput i x s).line = s.line ∧ (setInput i x s).loop = s.loop ∧ (setInput i x s).queue = s.queue
    ∧ (setInput i x s).table = s.table ∧ (setInput i x s).roster = s.roster
    ∧ (setInput i x s).counters = s.counters ∧ (setInput i x s).library = s.library
    ∧ (setInput i x s).player = s.player ∧ (setInput i x s).drive = s.drive
    ∧ (setInput i x s).converter = s.converter ∧ (setInput i x s).scanner = s.scanner
    ∧ (setInput i x s).bindings = s.bindings ∧ (setInput i x s).keys = s.keys ∧ (setInput i x s).supply = s.supply
    ∧ (setInput i x s).startup = s.startup := by
  unfold setInput; dsimp only; (repeat' split) <;> simp

@[simp] theorem qualifyActive_frame (i : Nat) (x : Input) (s : State) :
    (qualifyActive i x s).pending = s.pending ∧ (qualifyActive i x s).pins = s.pins
    ∧ (qualifyActive i x s).beat = s.beat ∧ (qualifyActive i x s).line = s.line
    ∧ (qualifyActive i x s).loop = s.loop ∧ (qualifyActive i x s).roster = s.roster
    ∧ (qualifyActive i x s).library = s.library ∧ (qualifyActive i x s).converter = s.converter
    ∧ (qualifyActive i x s).scanner = s.scanner ∧ (qualifyActive i x s).bindings = s.bindings
    ∧ (qualifyActive i x s).keys = s.keys ∧ (qualifyActive i x s).supply = s.supply
    ∧ (qualifyActive i x s).startup = s.startup := by
  unfold qualifyActive; (repeat' split) <;> simp

@[simp] theorem qualifyNormal_frame (i : Nat) (x : Input) (s : State) :
    (qualifyNormal i x s).pending = s.pending ∧ (qualifyNormal i x s).pins = s.pins
    ∧ (qualifyNormal i x s).beat = s.beat ∧ (qualifyNormal i x s).line = s.line
    ∧ (qualifyNormal i x s).loop = s.loop ∧ (qualifyNormal i x s).roster = s.roster
    ∧ (qualifyNormal i x s).library = s.library ∧ (qualifyNormal i x s).converter = s.converter
    ∧ (qualifyNormal i x s).scanner = s.scanner ∧ (qualifyNormal i x s).bindings = s.bindings
    ∧ (qualifyNormal i x s).keys = s.keys ∧ (qualifyNormal i x s).supply = s.supply
    ∧ (qualifyNormal i x s).startup = s.startup := by
  unfold qualifyNormal; (repeat' split) <;> simp

@[simp] theorem qualification_frame (i : Nat) (s : State) :
    (qualification i s).pending = s.pending ∧ (qualification i s).pins = s.pins
    ∧ (qualification i s).beat = s.beat ∧ (qualification i s).line = s.line ∧ (qualification i s).loop = s.loop
    ∧ (qualification i s).roster = s.roster ∧ (qualification i s).library = s.library
    ∧ (qualification i s).converter = s.converter ∧ (qualification i s).scanner = s.scanner
    ∧ (qualification i s).bindings = s.bindings ∧ (qualification i s).keys = s.keys
    ∧ (qualification i s).supply = s.supply ∧ (qualification i s).startup = s.startup := by
  unfold qualification; dsimp only; (repeat' split) <;> simp

@[simp] theorem withdrawRequest_frame (i : Nat) (s : State) :
    (withdrawRequest i s).pending = s.pending ∧ (withdrawRequest i s).pins = s.pins
    ∧ (withdrawRequest i s).beat = s.beat ∧ (withdrawRequest i s).line = s.line
    ∧ (withdrawRequest i s).loop = s.loop ∧ (withdrawRequest i s).roster = s.roster
    ∧ (withdrawRequest i s).library = s.library ∧ (withdrawRequest i s).converter = s.converter
    ∧ (withdrawRequest i s).scanner = s.scanner ∧ (withdrawRequest i s).bindings = s.bindings
    ∧ (withdrawRequest i s).keys = s.keys ∧ (withdrawRequest i s).supply = s.supply
    ∧ (withdrawRequest i s).startup = s.startup := by
  unfold withdrawRequest; (repeat' split) <;> simp

/-- The reading of a pin at a voltage (R196). -/
@[simp] theorem readingOf_toNat (v : Nat) : (readingOf v).toNat = min 255 (v * 256 / 2500000) := by
  simp only [readingOf, BitVec.toNat_ofNat]; omega

@[simp] theorem scanSample_frame (i : Nat) (b : Byte) (s : State) :
    (scanSample i b s).pending = s.pending ∧ (scanSample i b s).pins = s.pins ∧ (scanSample i b s).beat = s.beat
    ∧ (scanSample i b s).line = s.line ∧ (scanSample i b s).loop = s.loop ∧ (scanSample i b s).queue = s.queue
    ∧ (scanSample i b s).table = s.table ∧ (scanSample i b s).roster = s.roster
    ∧ (scanSample i b s).faults = s.faults ∧ (scanSample i b s).counters = s.counters
    ∧ (scanSample i b s).library = s.library ∧ (scanSample i b s).player = s.player
    ∧ (scanSample i b s).drive = s.drive ∧ (scanSample i b s).converter = s.converter
    ∧ (scanSample i b s).scanner = s.scanner ∧ (scanSample i b s).bindings = s.bindings
    ∧ (scanSample i b s).keys = s.keys ∧ (scanSample i b s).supply = s.supply
    ∧ (scanSample i b s).startup = s.startup ∧ (scanSample i b s).port = s.port := by
  unfold scanSample; (repeat' split) <;> simp

@[simp] theorem scanNext_frame (s : State) :
    (scanNext s).pending = s.pending ∧ (scanNext s).pins = s.pins ∧ (scanNext s).beat = s.beat
    ∧ (scanNext s).line = s.line ∧ (scanNext s).loop = s.loop ∧ (scanNext s).queue = s.queue
    ∧ (scanNext s).table = s.table ∧ (scanNext s).roster = s.roster ∧ (scanNext s).faults = s.faults
    ∧ (scanNext s).counters = s.counters ∧ (scanNext s).library = s.library ∧ (scanNext s).player = s.player
    ∧ (scanNext s).drive = s.drive ∧ (scanNext s).bindings = s.bindings ∧ (scanNext s).inputs = s.inputs
    ∧ (scanNext s).keys = s.keys ∧ (scanNext s).supply = s.supply ∧ (scanNext s).startup = s.startup
    ∧ (scanNext s).port = s.port := by
  unfold scanNext; (repeat' split) <;> simp

@[simp] theorem supplyOwnTimer_frame (s : State) :
    (supplyOwnTimer s).pending = s.pending ∧ (supplyOwnTimer s).pins = s.pins ∧ (supplyOwnTimer s).beat = s.beat
    ∧ (supplyOwnTimer s).line = s.line ∧ (supplyOwnTimer s).loop = s.loop ∧ (supplyOwnTimer s).queue = s.queue
    ∧ (supplyOwnTimer s).table = s.table ∧ (supplyOwnTimer s).roster = s.roster
    ∧ (supplyOwnTimer s).faults = s.faults ∧ (supplyOwnTimer s).counters = s.counters
    ∧ (supplyOwnTimer s).library = s.library ∧ (supplyOwnTimer s).player = s.player
    ∧ (supplyOwnTimer s).drive = s.drive ∧ (supplyOwnTimer s).scanner = s.scanner
    ∧ (supplyOwnTimer s).bindings = s.bindings ∧ (supplyOwnTimer s).inputs = s.inputs
    ∧ (supplyOwnTimer s).keys = s.keys ∧ (supplyOwnTimer s).startup = s.startup ∧ (supplyOwnTimer s).port = s.port := by
  unfold supplyOwnTimer; (repeat' split) <;> simp

@[simp] theorem setCondition_frame (c : Condition) (s : State) :
    (setCondition c s).pending = s.pending ∧ (setCondition c s).pins = s.pins ∧ (setCondition c s).beat = s.beat
    ∧ (setCondition c s).line = s.line ∧ (setCondition c s).loop = s.loop ∧ (setCondition c s).queue = s.queue
    ∧ (setCondition c s).table = s.table ∧ (setCondition c s).roster = s.roster
    ∧ (setCondition c s).faults = s.faults ∧ (setCondition c s).counters = s.counters
    ∧ (setCondition c s).library = s.library ∧ (setCondition c s).player = s.player
    ∧ (setCondition c s).converter = s.converter ∧ (setCondition c s).scanner = s.scanner
    ∧ (setCondition c s).bindings = s.bindings ∧ (setCondition c s).inputs = s.inputs
    ∧ (setCondition c s).keys = s.keys ∧ (setCondition c s).startup = s.startup ∧ (setCondition c s).port = s.port := by
  unfold setCondition; simp

@[simp] theorem keyLevelChange_frame (k : Key) (b : Bool) (s : State) :
    (keyLevelChange k b s).pending = s.pending ∧ (keyLevelChange k b s).pins = s.pins
    ∧ (keyLevelChange k b s).beat = s.beat ∧ (keyLevelChange k b s).line = s.line
    ∧ (keyLevelChange k b s).loop = s.loop ∧ (keyLevelChange k b s).queue = s.queue
    ∧ (keyLevelChange k b s).table = s.table ∧ (keyLevelChange k b s).roster = s.roster
    ∧ (keyLevelChange k b s).faults = s.faults ∧ (keyLevelChange k b s).counters = s.counters
    ∧ (keyLevelChange k b s).library = s.library ∧ (keyLevelChange k b s).player = s.player
    ∧ (keyLevelChange k b s).drive = s.drive ∧ (keyLevelChange k b s).converter = s.converter
    ∧ (keyLevelChange k b s).scanner = s.scanner ∧ (keyLevelChange k b s).bindings = s.bindings
    ∧ (keyLevelChange k b s).inputs = s.inputs ∧ (keyLevelChange k b s).supply = s.supply
    ∧ (keyLevelChange k b s).startup = s.startup ∧ (keyLevelChange k b s).port = s.port := by
  unfold keyLevelChange; simp

@[simp] theorem ackAction_frame (s : State) :
    (ackAction s).pending = s.pending ∧ (ackAction s).pins = s.pins ∧ (ackAction s).beat = s.beat
    ∧ (ackAction s).line = s.line ∧ (ackAction s).loop = s.loop ∧ (ackAction s).roster = s.roster
    ∧ (ackAction s).faults = s.faults ∧ (ackAction s).library = s.library ∧ (ackAction s).converter = s.converter
    ∧ (ackAction s).scanner = s.scanner ∧ (ackAction s).bindings = s.bindings ∧ (ackAction s).inputs = s.inputs
    ∧ (ackAction s).supply = s.supply ∧ (ackAction s).startup = s.startup := by
  unfold ackAction; simp

@[simp] theorem testAction_frame (s : State) :
    (testAction s).pending = s.pending ∧ (testAction s).pins = s.pins ∧ (testAction s).beat = s.beat
    ∧ (testAction s).line = s.line ∧ (testAction s).loop = s.loop ∧ (testAction s).queue = s.queue
    ∧ (testAction s).table = s.table ∧ (testAction s).roster = s.roster ∧ (testAction s).faults = s.faults
    ∧ (testAction s).counters = s.counters ∧ (testAction s).library = s.library
    ∧ (testAction s).converter = s.converter ∧ (testAction s).scanner = s.scanner
    ∧ (testAction s).bindings = s.bindings ∧ (testAction s).inputs = s.inputs ∧ (testAction s).supply = s.supply
    ∧ (testAction s).startup = s.startup ∧ (testAction s).port = s.port := by
  unfold testAction requestTest; dsimp only; (repeat' split) <;> simp

@[simp] theorem keyEvent_frame (k : Key) (b : Bool) (s : State) :
    (keyEvent k b s).pending = s.pending ∧ (keyEvent k b s).pins = s.pins ∧ (keyEvent k b s).beat = s.beat
    ∧ (keyEvent k b s).line = s.line ∧ (keyEvent k b s).loop = s.loop ∧ (keyEvent k b s).roster = s.roster
    ∧ (keyEvent k b s).faults = s.faults ∧ (keyEvent k b s).library = s.library
    ∧ (keyEvent k b s).converter = s.converter ∧ (keyEvent k b s).scanner = s.scanner
    ∧ (keyEvent k b s).bindings = s.bindings ∧ (keyEvent k b s).inputs = s.inputs
    ∧ (keyEvent k b s).supply = s.supply ∧ (keyEvent k b s).startup = s.startup := by
  unfold keyEvent beginChord; (repeat' split) <;> simp

@[simp] theorem debounceExpiry_frame (k : Key) (s : State) :
    (debounceExpiry k s).pending = s.pending ∧ (debounceExpiry k s).pins = s.pins
    ∧ (debounceExpiry k s).beat = s.beat ∧ (debounceExpiry k s).line = s.line ∧ (debounceExpiry k s).loop = s.loop
    ∧ (debounceExpiry k s).roster = s.roster ∧ (debounceExpiry k s).faults = s.faults
    ∧ (debounceExpiry k s).library = s.library ∧ (debounceExpiry k s).converter = s.converter
    ∧ (debounceExpiry k s).scanner = s.scanner ∧ (debounceExpiry k s).bindings = s.bindings
    ∧ (debounceExpiry k s).inputs = s.inputs ∧ (debounceExpiry k s).supply = s.supply
    ∧ (debounceExpiry k s).startup = s.startup := by
  unfold debounceExpiry; dsimp only; (repeat' split) <;> simp

/-- When a period of a wave starts (R135, R139). -/
theorem atPeriodStart_iff (hz phase : Nat) :
    atPeriodStart hz phase = true ↔ wholePeriod ≤ phase ∧ phase % wholePeriod < hz := by
  simp [atPeriodStart]

/-- What the start of a period of SND can do (R135, R145). -/
theorem periodStart_snd_cases (d : Drive) :
    d.periodStart .snd = d ∨
      (d.sounding = true ∧ atPeriodStart (toneHz d.tone) d.sndPhase = true ∧
        d.periodStart .snd = { d with level := d.capped d.envelopeLevel, sndPhase := d.sndPhase % wholePeriod }) := by
  by_cases h : (d.sounding && atPeriodStart (toneHz d.tone) d.sndPhase) = true
  · exact .inr ⟨(Bool.and_eq_true_iff.mp h).1, (Bool.and_eq_true_iff.mp h).2, by simp [Drive.periodStart, h]⟩
  · exact .inl (by simp [Drive.periodStart, h])

/-- What the start of a period of BCN can do (R139, R145). -/
theorem periodStart_bcn_cases (d : Drive) :
    d.periodStart .bcn = d ∨
      (d.beaconLevel ≠ 0 ∧ atPeriodStart beaconHz d.bcnPhase = true ∧
        d.periodStart .bcn = { d with beaconLevel := d.capped d.intensity, bcnPhase := d.bcnPhase % wholePeriod }) := by
  by_cases h : (d.beaconLevel != 0 && atPeriodStart beaconHz d.bcnPhase) = true
  · exact .inr ⟨bne_iff_ne.mp (Bool.and_eq_true_iff.mp h).1, (Bool.and_eq_true_iff.mp h).2,
      by simp [Drive.periodStart, h]⟩
  · exact .inl (by simp [Drive.periodStart, h])

end Sys2Proof.Machine
end

