-- ==== Sys2Proof/Laws/Effects.lean ====
section
/-! SUPPORT. What each shared operation does, said once: reports and counters, the cue table and its order, the
transmit queue, claims, the sounder, and the checks of a frame. -/

namespace Sys2Proof.Machine

/-! ### Reports and counters -/

theorem faults_or_mask (f : FaultName) (b : Byte) (h : hasFault b f = true) : b ||| f.mask = b := by
  revert b; cases f <;> decide

theorem faults_and_mask (f : FaultName) (b : Byte) (h : hasFault b f = false) : b &&& ~~~f.mask = b := by
  revert b; cases f <;> decide

theorem hasFault_or (f g : FaultName) (b : Byte) :
    hasFault (b ||| f.mask) g = (hasFault b g || decide (f = g)) := by
  revert b; cases f <;> cases g <;> decide

theorem hasFault_and (f g : FaultName) (b : Byte) :
    hasFault (b &&& ~~~f.mask) g = (hasFault b g && !decide (f = g)) := by
  revert b; cases f <;> cases g <;> decide

/-- A report that sets a fault gives the fault set with it, and marks ATTN when that is a change (R104). -/
theorem setFault_eq (f : FaultName) (s : State) : setFault f s = s.withFault f := by
  unfold setFault State.withFault
  cases h : hasFault s.faults f
  · simp [markAttn, State.setPort, State.setFaults]
  · simp [faults_or_mask f _ h]

/-- A report that clears a fault gives the fault set without it, and marks ATTN when that is a change (R104). -/
theorem clearFault_eq (f : FaultName) (s : State) : clearFault f s = s.withoutFault f := by
  unfold clearFault State.withoutFault
  cases h : hasFault s.faults f
  · simp [faults_and_mask f _ h]
  · simp [markAttn, State.setPort, State.setFaults]

@[simp] theorem counters_get_put (c : Counters) (n m : CounterName) (k : Nat) :
    (c.put n k).get m = if n = m then k else c.get m := by
  cases n <;> cases m <;> rfl

@[simp] theorem counters_put_get (c : Counters) (n : CounterName) : c.put n (c.get n) = c := by
  cases n <;> rfl

@[simp] theorem counters_put_put (c : Counters) (n : CounterName) (j k : Nat) : (c.put n j).put n k = c.put n k := by
  cases n <;> rfl

/-- A counter in its range takes one more count and holds at 255 (R220). -/
theorem bump_eq (n : CounterName) (s : State) (h : s.counters.get n ≤ 255) : bump n s = s.counted n := by
  unfold bump State.counted
  by_cases h1 : 255 ≤ s.counters.get n
  · have e : s.counters.get n = 255 := by omega
    simp [e, show s.counters.put n 255 = s.counters by rw [← e, counters_put_get]]
  · have e : min 255 (s.counters.get n + 1) = s.counters.get n + 1 := by omega
    by_cases h2 : s.counters.get n = 254
    · simp [h2, markAttn, State.setPort, State.setCounters]
    · have hb : (s.counters.get n == 254) = false := by simpa using h2
      simp [h1, h2, hb, e, State.setCounters]

/-- Every count leaves every counter in its range (R220). -/
theorem bump_counters_ok (n : CounterName) (s : State) (h : s.counters.Ok) : (bump n s).counters.Ok := by
  unfold bump; dsimp only
  split
  · exact h
  · split <;> (cases n <;> simp_all [Counters.Ok, Counters.put, Counters.get, markAttn])

theorem bumpTimes_counters_ok (n : CounterName) (k : Nat) (s : State) (h : s.counters.Ok) :
    (bumpTimes n k s).counters.Ok := by
  induction k generalizing s with
  | zero => exact h
  | succ k ih => exact ih _ (bump_counters_ok n s h)

/-! ### Rank and the table -/

/-- Rank is a strict order: nothing ranks before itself. -/
theorem before_irrefl (a : Entry) : a.before a = false := by
  simp [Entry.before]

theorem before_trans (a b c : Entry) (h : a.before b = true) (k : b.before c = true) : a.before c = true := by
  unfold Entry.before at *
  split_ifs at * <;> simp_all <;> omega

/-- Of two entries with different keys one ranks before the other (R27). -/
theorem before_total (a b : Entry) (h : a.otherKey b) : a.before b = true ∨ b.before a = true := by
  unfold Entry.otherKey at h; unfold Entry.before
  split_ifs <;> simp_all

/-- An entry is placed beside the others, which all stay (R27). -/
theorem placeEntry_perm (e : Entry) (l : List Entry) : (placeEntry e l).Perm (e :: l) := by
  induction l with
  | nil => exact List.Perm.refl _
  | cons x xs ih =>
    unfold placeEntry; split
    · exact List.Perm.refl _
    · exact (List.Perm.cons x ih).trans (List.Perm.swap e x xs)

/-- A table in rank order stays in rank order when an entry of another key is placed in it (R26, R27). -/
theorem placeEntry_ok (e : Entry) (l : List Entry) (h : l.Pairwise fun a b => a.before b = true ∧ a.otherKey b)
    (hk : ∀ x ∈ l, e.otherKey x) :
    (placeEntry e l).Pairwise fun a b => a.before b = true ∧ a.otherKey b := by
  induction l with
  | nil => simp [placeEntry]
  | cons x xs ih =>
    obtain ⟨hx, hxs⟩ := List.pairwise_cons.1 h
    unfold placeEntry; split
    · next hb =>
      refine List.pairwise_cons.2 ⟨fun y hy => ⟨?_, hk y hy⟩, h⟩
      rcases List.mem_cons.1 hy with rfl | hy
      · exact hb
      · exact before_trans _ _ _ hb (hx y hy).1
    · next hb =>
      refine List.pairwise_cons.2 ⟨fun y hy => ?_, ih hxs fun y hy => hk y (List.mem_cons_of_mem _ hy)⟩
      rcases List.mem_cons.1 ((placeEntry_perm e xs).mem_iff.1 hy) with rfl | hy
      · have o := hk x List.mem_cons_self
        refine ⟨(before_total _ _ o).resolve_left hb, fun k => o ⟨k.1.symm, k.2.symm⟩⟩
      · exact hx y hy

theorem withoutKey_mem (o i : Nat) (l : List Entry) (x : Entry) :
    x ∈ withoutKey o i l ↔ x ∈ l ∧ ¬ (x.origin = o ∧ x.input = i) := by
  simp only [withoutKey, Entry.hasKey, List.mem_filter, Bool.not_eq_true', Bool.and_eq_false_iff, beq_eq_false_iff_ne]
  tauto

/-- What is left of a table in order is in order. -/
theorem filter_tableOk (p : Entry → Bool) (l : List Entry) (h : TableOk l) : TableOk (l.filter p) :=
  ⟨(List.length_filter_le _ _).trans h.1, h.2.sublist List.filter_sublist⟩

/-! ### The transmit queue -/

theorem placeMessage_perm (m : Message) (l : List Message) : (placeMessage m l).Perm (m :: l) := by
  induction l with
  | nil => exact List.Perm.refl _
  | cons x xs ih =>
    unfold placeMessage; split
    · exact (List.Perm.cons x ih).trans (List.Perm.swap m x xs)
    · exact List.Perm.refl _

/-- A message that finds room joins, and nothing is discarded (R83). -/
theorem admit_room (n : News) (q : TxQueue) (h : q.messages.length < 6) :
    q.takeIn n = (⟨placeMessage ⟨n, q.nextJoin, 0, false⟩ q.messages, q.nextJoin + 1⟩, false) := by
  simp [TxQueue.takeIn, queueCapacity, h]

/-- A message takes its place behind those of a lead byte as low and before those of a higher one (R78). -/
theorem placeMessage_eq (m : Message) (l : List Message) (h : l.Pairwise fun a b => a.news.lead ≤ b.news.lead) :
    placeMessage m l = l.filter (fun x => decide (x.news.lead ≤ m.news.lead)) ++ [m]
      ++ l.filter (fun x => decide (m.news.lead < x.news.lead)) := by
  induction l with
  | nil => rfl
  | cons x xs ih =>
    obtain ⟨hx, hs⟩ := List.pairwise_cons.1 h
    unfold placeMessage; split
    · next c => simp [ih hs, c, Nat.not_lt.2 c]
    · next c =>
      have none : xs.filter (fun y => decide (y.news.lead ≤ m.news.lead)) = [] :=
        List.filter_eq_nil_iff.2 fun y hy => by have := hx y hy; simp; omega
      have all : xs.filter (fun y => decide (m.news.lead < y.news.lead)) = xs :=
        List.filter_eq_self.2 fun y hy => by have := hx y hy; simp; omega
      simp [none, all, c, Nat.lt_of_not_le c]

/-- The capacity rule (R83), said of the messages and of whether one was discarded. -/
theorem takeIn_eq (n : News) (q : TxQueue) (h : q.inOrder) :
    ((q.takeIn n).1.messages, (q.takeIn n).2) =
      (let placed (l : List Message) := l.filter (fun m => decide (m.news.lead ≤ n.lead)) ++ [⟨n, q.nextJoin, 0, false⟩]
        ++ l.filter (fun m => decide (n.lead < m.news.lead))
      if q.messages.length < 6 then (placed q.messages, false)
      else if q.messages.getLast?.any fun m => decide (n.lead < m.news.lead) then (placed q.messages.dropLast, true)
      else (q.messages, true)) := by
  simp only [TxQueue.takeIn, queueCapacity]
  split
  · rw [placeMessage_eq _ _ h]
  · next c =>
    cases e : q.messages.getLast? with
    | none => simp [List.getLast?_eq_none_iff.1 e] at c
    | some last =>
      simp only [Option.any_some, decide_eq_true_eq]
      split
      · rw [placeMessage_eq _ _ (h.sublist (List.dropLast_sublist _))]
      · rfl

/-- All that a message's joining does to an ordered queue: the merges of R80 to R82, then the capacity rule of R83. -/
theorem join_eq_joinedBy (n : News) (q : TxQueue) (h : q.inOrder) :
    ((q.join n).1.messages, (q.join n).2) = q.joinedBy n := by
  have kept (p : Message → Bool) : (q.without p).inOrder := h.sublist List.filter_sublist
  cases n with
  | raise i r => exact takeIn_eq _ _ (kept _)
  | clear i r =>
    simp only [TxQueue.join, TxQueue.joinedBy]
    cases e : q.messages.find? fun m => m.news.isRaiseOf i with
    | none =>
      have all : (q.messages.filter fun m => !m.news.isRaiseOf i) = q.messages :=
        List.filter_eq_self.2 fun m hm => by simpa using List.find?_eq_none.1 e m hm
      simpa [all] using takeIn_eq (.clear i r) q h
    | some m =>
      cases l : m.onLine with
      | true =>
        simp only [l, Option.any_some, Bool.not_true, Bool.false_eq_true, if_true, if_false]
        exact takeIn_eq (.clear i r) _ (kept fun x => x.news.isRaiseOf i)
      | false => simp [l, TxQueue.without]
  | silence =>
    simp only [TxQueue.join, TxQueue.joinedBy]
    split
    · simp
    · simpa using takeIn_eq .silence q h
  | restore =>
    simp only [TxQueue.join, TxQueue.joinedBy]
    split
    · simp
    · simpa using takeIn_eq .restore q h

/-! ### Claims -/

/-- A claim makes the table what it says. -/
@[simp] theorem takeClaim_table (after : List Entry) (s : State) : (takeClaim after s).table = after := by
  simp [takeClaim]

/-- After a claim the player's sound indication is the table's (R29). -/
theorem takeClaim_sound (after : List Entry) (s : State) :
    (takeClaim after s).player.sound = unsilencedPresent after := by
  unfold takeClaim handSound
  split
  · next h => rw [← h]; simp
  · simp [State.setPlaying, Playing.soundChange]

/-- A claim leaves the wanted pattern that of the head, where it was so before (R28, R120). -/
theorem takeClaim_wanted (after : List Entry) (s : State)
    (h : s.player.wanted = (headCue s.table).map s.library.patternOf) :
    (takeClaim after s).player.wanted = (headCue after).map s.library.patternOf := by
  have key : (handHead s.table (s.setTable after)).player.wanted = (headCue after).map s.library.patternOf := by
    unfold handHead
    split
    · next e =>
      have c : headCue s.table = headCue after := by
        simp only [State.setTable_table, headOf] at e
        unfold headCue
        cases h1 : s.table.head? <;> cases h2 : after.head? <;> simp_all
      simpa [← c] using h
    · simp only [State.setTable_table, State.setTable_library, markAttn_frame, State.setPlaying, State.setDrive_player,
        State.setPlayer_player]
      unfold Playing.headChange
      cases headCue after <;> simp
      split <;> rfl
  unfold takeClaim handSound
  split
  · exact key
  · simpa [State.setPlaying, Playing.soundChange, State.playing] using key

/-- The head handed on: all that `handHead` does to the player and the drives (R28, R120, R131, R219). -/
theorem handHead_effect (before : List Entry) (s : State) :
    let p := s.player
    let t := handHead before s
    t.player.sound = p.sound ∧ t.player.current = p.current ∧ t.player.introCount = p.introCount
      ∧ t.player.stepOffset = p.stepOffset ∧ t.player.testBeats = p.testBeats
      ∧ (p.mode = .intro ∨ p.mode = .cycle → t.player.mode = p.mode ∧ t.drive = s.drive)
      ∧ (if headOf before = headOf s.table then t = s
        else
          t.port.attn = true
            ∧ (s.table = [] → t.player.wanted = none ∧ t.player.restart = false ∧ t.player.testDue = p.testDue
                ∧ t.player.mode = p.mode)
            ∧ ∀ e rest, s.table = e :: rest →
                t.player.wanted = some (s.library.patternOf e.cue) ∧ t.player.restart = (p.restart || before.isEmpty)
                ∧ t.player.testDue = false ∧ t.player.mode = (if p.mode = .test then .silent else p.mode)
                ∧ (p.mode = .test → s.drive.quiescent = false → t.drive.intensity = 0 ∧ t.drive.beaconLevel = 0)
                ∧ (p.mode = .test → s.drive.source = .test → t.drive.source = .none ∧ t.drive.level = 0)) := by
  unfold handHead
  split
  · simp_all
  · cases h : s.table with
    | nil => simp [headCue, Playing.headChange, State.playing, State.setPlaying, markAttn]
    | cons e rest =>
      cases hm : s.player.mode <;> cases hs : s.drive.source <;>
        simp_all [headCue, Playing.headChange, State.playing, State.setPlaying, markAttn, Drive.withdrawTest,
          Drive.handIntensity, Drive.hush, Drive.capped] <;> (split <;> simp_all)

/-- The sound indication handed on: all that `handSound` does (R29, R127). -/
theorem handSound_effect (s : State) :
    (handSound s).player = { s.player with sound := unsilencedPresent s.table }
      ∧ (handSound s).drive =
        (if s.player.sound && !unsilencedPresent s.table && (s.player.mode == .intro || s.player.mode == .cycle) then
          s.drive.withdrawPattern else s.drive)
      ∧ (handSound s).port = s.port := by
  unfold handSound
  split
  · next h => simp [h]
  · next h =>
    refine ⟨by simp [State.setPlaying, Playing.soundChange, State.playing], ?_,
      by simp [State.setPlaying]⟩
    simp only [State.setPlaying, Playing.soundChange, State.playing, State.setDrive_drive]
    cases h1 : unsilencedPresent s.table <;> cases h2 : s.player.sound <;> simp_all

/-- A claim hands on the head and the sound indication, and nothing else of the player changes (R28, R29, R120, R127,
R131, R219). -/
theorem takeClaim_handsOn (after : List Entry) (s : State) : s.handsOn (takeClaim after s) := by
  obtain ⟨h1, h2, h3, h4, h5, h6, h7⟩ := handHead_effect s.table (s.setTable after)
  obtain ⟨k1, k2, k3⟩ := handSound_effect (handHead s.table (s.setTable after))
  have hu : (handHead s.table (s.setTable after)).table = after := by simp
  have ht : (takeClaim after s).table = after := takeClaim_table after s
  have hdef : takeClaim after s = handSound (handHead s.table (s.setTable after)) := rfl
  unfold State.handsOn
  rw [ht, hdef, k1, k2, k3, hu]
  simp only [State.setTable_player, State.setTable_drive, State.setTable_table, State.setTable_library] at h1 h2 h3 h4 h5 h6 h7
  have hq : headOf s.table = headOf after ↔
      (s.table.head?.map fun e => (e.origin, e.input, e.cue, e.priority))
        = after.head?.map fun e => (e.origin, e.input, e.cue, e.priority) := Iff.rfl
  simp only [← hq]
  generalize handHead s.table (s.setTable after) = u at *
  refine ⟨?_, rfl, ?_, h2, h3, h4, h5⟩
  · by_cases e : headOf s.table = headOf after
    · simp only [e, if_true] at h7 ⊢
      simp [h7]
    · simp only [e, if_false] at h7 ⊢
      obtain ⟨c1, c2, c3⟩ := h7
      refine ⟨c1, c2, fun x rest hx => ?_⟩
      obtain ⟨d1, d2, d3, d4, d5, d6⟩ := c3 x rest hx
      have hd : s.player.mode = .test → (u.player.mode == .intro || u.player.mode == .cycle) = false := by
        intro m; rw [d4.trans (if_pos m)]; rfl
      refine ⟨d1, d2, d3, d4, fun m => ?_, fun m => ?_⟩
      · simpa [hd m] using d5 m
      · simpa [hd m] using d6 m
  · intro g1 g2 g3 g4
    obtain ⟨m1, m2⟩ := h6 g3
    have : (u.player.mode == .intro || u.player.mode == .cycle) = true := by
      rw [m1]; rcases g3 with m | m <;> rw [m] <;> rfl
    simp [h1, g1, g2, this, m2, Drive.withdrawPattern, g4, Drive.hush]

/-- The roster is replaced whole, and PEER_MISSING follows it where it did before (R105). -/
theorem moveRoster_effect (r : List RosterEntry) (s : State) :
    (moveRoster r s).roster = r
      ∧ (hasFault s.faults .peerMissing = anyMissing s.roster →
        hasFault (moveRoster r s).faults .peerMissing = anyMissing r) := by
  unfold moveRoster; dsimp only
  cases h1 : anyMissing r <;> cases h2 : anyMissing s.roster <;>
    simp [setFault_eq, clearFault_eq, State.withFault, State.withoutFault, hasFault_or, hasFault_and]

/-! ### The slots -/

/-- A beat event begins the partition anew (R56, R65). -/
theorem restartSlots_loop (s : State) :
    (restartSlots s).loop = ⟨0, .mark, none, false, false, .ahead, none, none, none⟩ := by
  have h : ∀ p t, (clearSlot p t).loop =
      { (abandonTx t).loop with
        part := p, owner := none, placed := false, conflictSeen := false, attempt := .ahead, heard := none
        tx := none } := fun p t => by simp [clearSlot]
  have hrx : (abandonTx (endReception s)).loop.rx = none := by
    have e : (endReception s).loop.rx = none := by
      unfold endReception; split
      · next h => exact h
      · simp
    unfold abandonTx
    split
    · exact e
    · split
      · simpa using e
      · exact e
  simp [restartSlots, restartSlotTimer, h, hrx]

/-! ### The sounder -/

/-- A withdrawal of pattern tone (R141). -/
theorem withdrawPattern_eq (d : Drive) : d.withdrawPattern = patternWithdrawn d := by
  unfold Drive.withdrawPattern patternWithdrawn; cases d.source <;> rfl

/-- A chirp request (R142). -/
theorem chirpRequest_asks (d : Drive) : chirpAsked d d.chirpRequest := by
  cases h : d.source <;>
    simp [h, chirpAsked, Drive.chirpRequest, Drive.producing, Drive.sounding, Drive.setTone, Drive.heldStep, chirpTone,
      envelopeLevelOf, Drive.capped] <;> grind

/-! ### The checks of a frame -/

theorem crc8Byte_self (r : Byte) : crc8Byte r r = 0#8 := by
  simp only [crc8Byte, BitVec.xor_self]; decide

/-- A sequence followed by its own check byte has check 0 (R62). -/
theorem crc8_append_check (bs : List Byte) : crc8 (bs ++ [crc8 bs]) = 0#8 := by
  simp [crc8, List.foldl_append, crc8Byte_self]

/-- Eight steps of the register keep apart 0 and every other value. -/
theorem crc8_steps_eq_zero (r : Byte) : Nat.iterate crc8Step 8 r = 0#8 ↔ r = 0#8 := by
  revert r; decide +kernel

/-- Only its own check byte brings a sequence to check 0 (R62). -/
theorem crc8_append_eq_zero (bs : List Byte) (check : Byte) : crc8 (bs ++ [check]) = 0#8 ↔ check = crc8 bs := by
  simp only [crc8, List.foldl_append, List.foldl_cons, List.foldl_nil, crc8Byte, crc8_steps_eq_zero]
  exact ⟨fun h => (BitVec.xor_eq_zero_iff.mp h).symm, fun h => by rw [h, BitVec.xor_self]⟩

end Sys2Proof.Machine
end

