-- ==== Sys2Proof/WellFormed.lean ====
section
/-! DEFINITION. Which operands a command may carry, where its types do not say so already. -/

namespace Sys2Proof

/-- A whole image after its seven header bytes: 208 to 1232 bytes in all, and four bytes to a step
(section 10.3). -/
def restLengthOk (n : Nat) : Bool :=
  decide (208 ≤ n + 7) && decide (n + 7 ≤ 1232) && decide ((n + 7) % 4 = 0)

/-- The operand checks: the header is seven bytes (R186), the rest of the image has a length an image can
have (section 10.3), the station sends four bytes that can miss an acknowledge (R186), and a qualification
names a field line (R155). Every other operand has a type that holds only legal values. -/
def Instr.wellFormed : Instr → Bool
  | .headerReadComplete _ header => decide (header.length = 7)
  | .missingAcknowledge _ sent => decide (sent < 4)
  | .imageReadComplete _ rest => restLengthOk rest.length
  | .qualification _ input => decide (input < 8)
  | .powerOn .. | .rstFall .. | .resetPin .. | .rstRise .. | .settlingWaitEnd .. | .loadComplete ..
  | .beatFall .. | .thirdStray .. | .beatTimerExpiry .. | .enterLocked .. | .markRelease .. | .barMark ..
  | .beatRise .. | .beatStuck .. | .eighthMark .. | .introEnd .. | .testEnd .. | .messageExpiry ..
  | .slotBegin .. | .openSlotAttempt .. | .slotEnd .. | .frameStart .. | .raiseFrame .. | .clearFrame ..
  | .statusFrame .. | .silenceFrame .. | .restoreFrame .. | .gapTimeout .. | .readBackMismatch ..
  | .frameComplete .. | .dataStuck .. | .scanRequest .. | .supplyOwnTimer .. | .conversionComplete ..
  | .lowCondition .. | .normalCondition .. | .cutoff .. | .recoveryEvent .. | .membership ..
  | .keyLevelChange .. | .debounceExpiry .. | .restoreAction .. | .chirpEnd .. | .transactionOpen ..
  | .noCommand .. | .unknownCommand .. | .readSummary .. | .readTable .. | .readRoster .. | .readInputs ..
  | .readCounters .. | .post .. | .withdraw .. | .silence .. | .restore .. | .test .. | .clearCounters ..
  | .dataFall .. | .dataRise .. | .bitSample .. | .bitTimeEnd .. | .badCheck .. | .psckRise ..
  | .psckFall .. | .periodStart .. => true

end Sys2Proof
end

