-- ==== Sys2Proof/Laws/PerInstr.lean ====
section
/-! SUPPORT. One lemma for each command: the wait it carries can be read and replaced, and neither touches what the
command is or whether it is well-formed. -/

namespace Sys2Proof.Laws.Clocked

/-- The wait a command carries. -/
def waitOf : Instr → Nat
  | .powerOn after .. => after
  | .rstFall after => after
  | .resetPin after => after
  | .rstRise after => after
  | .settlingWaitEnd after .. => after
  | .headerReadComplete after .. => after
  | .missingAcknowledge after .. => after
  | .imageReadComplete after .. => after
  | .loadComplete after => after
  | .beatFall after => after
  | .thirdStray after => after
  | .beatTimerExpiry after => after
  | .enterLocked after .. => after
  | .markRelease after => after
  | .barMark after => after
  | .beatRise after => after
  | .beatStuck after => after
  | .eighthMark after => after
  | .introEnd after .. => after
  | .testEnd after .. => after
  | .messageExpiry after .. => after
  | .slotBegin after => after
  | .openSlotAttempt after => after
  | .slotEnd after => after
  | .frameStart after => after
  | .raiseFrame after => after
  | .clearFrame after => after
  | .statusFrame after => after
  | .silenceFrame after => after
  | .restoreFrame after => after
  | .gapTimeout after => after
  | .readBackMismatch after => after
  | .frameComplete after => after
  | .dataStuck after => after
  | .scanRequest after => after
  | .supplyOwnTimer after => after
  | .conversionComplete after .. => after
  | .qualification after .. => after
  | .lowCondition after .. => after
  | .normalCondition after .. => after
  | .cutoff after .. => after
  | .recoveryEvent after .. => after
  | .membership after .. => after
  | .keyLevelChange after .. => after
  | .debounceExpiry after .. => after
  | .restoreAction after .. => after
  | .chirpEnd after => after
  | .transactionOpen after => after
  | .noCommand after => after
  | .unknownCommand after => after
  | .readSummary after => after
  | .readTable after => after
  | .readRoster after => after
  | .readInputs after => after
  | .readCounters after => after
  | .post after => after
  | .withdraw after => after
  | .silence after => after
  | .restore after => after
  | .test after => after
  | .clearCounters after => after
  | .dataFall after => after
  | .dataRise after => after
  | .bitSample after => after
  | .bitTimeEnd after => after
  | .badCheck after => after
  | .psckRise after .. => after
  | .psckFall after => after
  | .periodStart after .. => after

/-- The same command with another wait. -/
def retimed (w : Nat) : Instr → Instr
  | .powerOn _ rstLow => .powerOn w rstLow
  | .rstFall _ => .rstFall w
  | .resetPin _ => .resetPin w
  | .rstRise _ => .rstRise w
  | .settlingWaitEnd _ straps => .settlingWaitEnd w straps
  | .headerReadComplete _ header => .headerReadComplete w header
  | .missingAcknowledge _ sent => .missingAcknowledge w sent
  | .imageReadComplete _ rest => .imageReadComplete w rest
  | .loadComplete _ => .loadComplete w
  | .beatFall _ => .beatFall w
  | .thirdStray _ => .thirdStray w
  | .beatTimerExpiry _ => .beatTimerExpiry w
  | .enterLocked _ cause => .enterLocked w cause
  | .markRelease _ => .markRelease w
  | .barMark _ => .barMark w
  | .beatRise _ => .beatRise w
  | .beatStuck _ => .beatStuck w
  | .eighthMark _ => .eighthMark w
  | .introEnd _ cause => .introEnd w cause
  | .testEnd _ cause => .testEnd w cause
  | .messageExpiry _ cause => .messageExpiry w cause
  | .slotBegin _ => .slotBegin w
  | .openSlotAttempt _ => .openSlotAttempt w
  | .slotEnd _ => .slotEnd w
  | .frameStart _ => .frameStart w
  | .raiseFrame _ => .raiseFrame w
  | .clearFrame _ => .clearFrame w
  | .statusFrame _ => .statusFrame w
  | .silenceFrame _ => .silenceFrame w
  | .restoreFrame _ => .restoreFrame w
  | .gapTimeout _ => .gapTimeout w
  | .readBackMismatch _ => .readBackMismatch w
  | .frameComplete _ => .frameComplete w
  | .dataStuck _ => .dataStuck w
  | .scanRequest _ => .scanRequest w
  | .supplyOwnTimer _ => .supplyOwnTimer w
  | .conversionComplete _ microvolts => .conversionComplete w microvolts
  | .qualification _ input => .qualification w input
  | .lowCondition _ microvolts => .lowCondition w microvolts
  | .normalCondition _ microvolts => .normalCondition w microvolts
  | .cutoff _ microvolts => .cutoff w microvolts
  | .recoveryEvent _ microvolts => .recoveryEvent w microvolts
  | .membership _ cause => .membership w cause
  | .keyLevelChange _ key pressed => .keyLevelChange w key pressed
  | .debounceExpiry _ key => .debounceExpiry w key
  | .restoreAction _ cause => .restoreAction w cause
  | .chirpEnd _ => .chirpEnd w
  | .transactionOpen _ => .transactionOpen w
  | .noCommand _ => .noCommand w
  | .unknownCommand _ => .unknownCommand w
  | .readSummary _ => .readSummary w
  | .readTable _ => .readTable w
  | .readRoster _ => .readRoster w
  | .readInputs _ => .readInputs w
  | .readCounters _ => .readCounters w
  | .post _ => .post w
  | .withdraw _ => .withdraw w
  | .silence _ => .silence w
  | .restore _ => .restore w
  | .test _ => .test w
  | .clearCounters _ => .clearCounters w
  | .dataFall _ => .dataFall w
  | .dataRise _ => .dataRise w
  | .bitSample _ => .bitSample w
  | .bitTimeEnd _ => .bitTimeEnd w
  | .badCheck _ => .badCheck w
  | .psckRise _ psi => .psckRise w psi
  | .psckFall _ => .psckFall w
  | .periodStart _ output => .periodStart w output

/-- A command's wait can be replaced: the wait is then the new one, well-formedness is as before, and putting the old
wait back gives the command. -/
def Statement (i : Instr) : Prop :=
  ∀ w, waitOf (retimed w i) = w ∧ (retimed w i).wellFormed = i.wellFormed ∧ retimed (waitOf i) (retimed w i) = i

theorem powerOn (after : Nat) (rstLow : Bool) : Statement (.powerOn after rstLow) :=
  fun _ => ⟨rfl, rfl, rfl⟩

theorem rstFall (after : Nat) : Statement (.rstFall after) :=
  fun _ => ⟨rfl, rfl, rfl⟩

theorem resetPin (after : Nat) : Statement (.resetPin after) :=
  fun _ => ⟨rfl, rfl, rfl⟩

theorem rstRise (after : Nat) : Statement (.rstRise after) :=
  fun _ => ⟨rfl, rfl, rfl⟩

theorem settlingWaitEnd (after : Nat) (straps : BitVec 5) : Statement (.settlingWaitEnd after straps) :=
  fun _ => ⟨rfl, rfl, rfl⟩

theorem headerReadComplete (after : Nat) (header : List Byte) : Statement (.headerReadComplete after header) :=
  fun _ => ⟨rfl, rfl, rfl⟩

theorem missingAcknowledge (after : Nat) (sent : Nat) : Statement (.missingAcknowledge after sent) :=
  fun _ => ⟨rfl, rfl, rfl⟩

theorem imageReadComplete (after : Nat) (rest : List Byte) : Statement (.imageReadComplete after rest) :=
  fun _ => ⟨rfl, rfl, rfl⟩

theorem loadComplete (after : Nat) : Statement (.loadComplete after) :=
  fun _ => ⟨rfl, rfl, rfl⟩

theorem beatFall (after : Nat) : Statement (.beatFall after) :=
  fun _ => ⟨rfl, rfl, rfl⟩

theorem thirdStray (after : Nat) : Statement (.thirdStray after) :=
  fun _ => ⟨rfl, rfl, rfl⟩

theorem beatTimerExpiry (after : Nat) : Statement (.beatTimerExpiry after) :=
  fun _ => ⟨rfl, rfl, rfl⟩

theorem enterLocked (after : Nat) (cause : BeatCause) : Statement (.enterLocked after cause) :=
  fun _ => ⟨rfl, rfl, rfl⟩

theorem markRelease (after : Nat) : Statement (.markRelease after) :=
  fun _ => ⟨rfl, rfl, rfl⟩

theorem barMark (after : Nat) : Statement (.barMark after) :=
  fun _ => ⟨rfl, rfl, rfl⟩

theorem beatRise (after : Nat) : Statement (.beatRise after) :=
  fun _ => ⟨rfl, rfl, rfl⟩

theorem beatStuck (after : Nat) : Statement (.beatStuck after) :=
  fun _ => ⟨rfl, rfl, rfl⟩

theorem eighthMark (after : Nat) : Statement (.eighthMark after) :=
  fun _ => ⟨rfl, rfl, rfl⟩

theorem introEnd (after : Nat) (cause : EighthCause) : Statement (.introEnd after cause) :=
  fun _ => ⟨rfl, rfl, rfl⟩

theorem testEnd (after : Nat) (cause : BeatCause) : Statement (.testEnd after cause) :=
  fun _ => ⟨rfl, rfl, rfl⟩

theorem messageExpiry (after : Nat) (cause : BeatCause) : Statement (.messageExpiry after cause) :=
  fun _ => ⟨rfl, rfl, rfl⟩

theorem slotBegin (after : Nat) : Statement (.slotBegin after) :=
  fun _ => ⟨rfl, rfl, rfl⟩

theorem openSlotAttempt (after : Nat) : Statement (.openSlotAttempt after) :=
  fun _ => ⟨rfl, rfl, rfl⟩

theorem slotEnd (after : Nat) : Statement (.slotEnd after) :=
  fun _ => ⟨rfl, rfl, rfl⟩

theorem frameStart (after : Nat) : Statement (.frameStart after) :=
  fun _ => ⟨rfl, rfl, rfl⟩

theorem raiseFrame (after : Nat) : Statement (.raiseFrame after) :=
  fun _ => ⟨rfl, rfl, rfl⟩

theorem clearFrame (after : Nat) : Statement (.clearFrame after) :=
  fun _ => ⟨rfl, rfl, rfl⟩

theorem statusFrame (after : Nat) : Statement (.statusFrame after) :=
  fun _ => ⟨rfl, rfl, rfl⟩

theorem silenceFrame (after : Nat) : Statement (.silenceFrame after) :=
  fun _ => ⟨rfl, rfl, rfl⟩

theorem restoreFrame (after : Nat) : Statement (.restoreFrame after) :=
  fun _ => ⟨rfl, rfl, rfl⟩

theorem gapTimeout (after : Nat) : Statement (.gapTimeout after) :=
  fun _ => ⟨rfl, rfl, rfl⟩

theorem readBackMismatch (after : Nat) : Statement (.readBackMismatch after) :=
  fun _ => ⟨rfl, rfl, rfl⟩

theorem frameComplete (after : Nat) : Statement (.frameComplete after) :=
  fun _ => ⟨rfl, rfl, rfl⟩

theorem dataStuck (after : Nat) : Statement (.dataStuck after) :=
  fun _ => ⟨rfl, rfl, rfl⟩

theorem scanRequest (after : Nat) : Statement (.scanRequest after) :=
  fun _ => ⟨rfl, rfl, rfl⟩

theorem supplyOwnTimer (after : Nat) : Statement (.supplyOwnTimer after) :=
  fun _ => ⟨rfl, rfl, rfl⟩

theorem conversionComplete (after : Nat) (microvolts : Nat) : Statement (.conversionComplete after microvolts) :=
  fun _ => ⟨rfl, rfl, rfl⟩

theorem qualification (after : Nat) (input : Nat) : Statement (.qualification after input) :=
  fun _ => ⟨rfl, rfl, rfl⟩

theorem lowCondition (after : Nat) (microvolts : Nat) : Statement (.lowCondition after microvolts) :=
  fun _ => ⟨rfl, rfl, rfl⟩

theorem normalCondition (after : Nat) (microvolts : Nat) : Statement (.normalCondition after microvolts) :=
  fun _ => ⟨rfl, rfl, rfl⟩

theorem cutoff (after : Nat) (microvolts : Nat) : Statement (.cutoff after microvolts) :=
  fun _ => ⟨rfl, rfl, rfl⟩

theorem recoveryEvent (after : Nat) (microvolts : Nat) : Statement (.recoveryEvent after microvolts) :=
  fun _ => ⟨rfl, rfl, rfl⟩

theorem membership (after : Nat) (cause : ZeroCause) : Statement (.membership after cause) :=
  fun _ => ⟨rfl, rfl, rfl⟩

theorem keyLevelChange (after : Nat) (key : Key) (pressed : Bool) : Statement (.keyLevelChange after key pressed) :=
  fun _ => ⟨rfl, rfl, rfl⟩

theorem debounceExpiry (after : Nat) (key : Key) : Statement (.debounceExpiry after key) :=
  fun _ => ⟨rfl, rfl, rfl⟩

theorem restoreAction (after : Nat) (cause : EighthCause) : Statement (.restoreAction after cause) :=
  fun _ => ⟨rfl, rfl, rfl⟩

theorem chirpEnd (after : Nat) : Statement (.chirpEnd after) :=
  fun _ => ⟨rfl, rfl, rfl⟩

theorem transactionOpen (after : Nat) : Statement (.transactionOpen after) :=
  fun _ => ⟨rfl, rfl, rfl⟩

theorem noCommand (after : Nat) : Statement (.noCommand after) :=
  fun _ => ⟨rfl, rfl, rfl⟩

theorem unknownCommand (after : Nat) : Statement (.unknownCommand after) :=
  fun _ => ⟨rfl, rfl, rfl⟩

theorem readSummary (after : Nat) : Statement (.readSummary after) :=
  fun _ => ⟨rfl, rfl, rfl⟩

theorem readTable (after : Nat) : Statement (.readTable after) :=
  fun _ => ⟨rfl, rfl, rfl⟩

theorem readRoster (after : Nat) : Statement (.readRoster after) :=
  fun _ => ⟨rfl, rfl, rfl⟩

theorem readInputs (after : Nat) : Statement (.readInputs after) :=
  fun _ => ⟨rfl, rfl, rfl⟩

theorem readCounters (after : Nat) : Statement (.readCounters after) :=
  fun _ => ⟨rfl, rfl, rfl⟩

theorem post (after : Nat) : Statement (.post after) :=
  fun _ => ⟨rfl, rfl, rfl⟩

theorem withdraw (after : Nat) : Statement (.withdraw after) :=
  fun _ => ⟨rfl, rfl, rfl⟩

theorem silence (after : Nat) : Statement (.silence after) :=
  fun _ => ⟨rfl, rfl, rfl⟩

theorem restore (after : Nat) : Statement (.restore after) :=
  fun _ => ⟨rfl, rfl, rfl⟩

theorem test (after : Nat) : Statement (.test after) :=
  fun _ => ⟨rfl, rfl, rfl⟩

theorem clearCounters (after : Nat) : Statement (.clearCounters after) :=
  fun _ => ⟨rfl, rfl, rfl⟩

theorem dataFall (after : Nat) : Statement (.dataFall after) :=
  fun _ => ⟨rfl, rfl, rfl⟩

theorem dataRise (after : Nat) : Statement (.dataRise after) :=
  fun _ => ⟨rfl, rfl, rfl⟩

theorem bitSample (after : Nat) : Statement (.bitSample after) :=
  fun _ => ⟨rfl, rfl, rfl⟩

theorem bitTimeEnd (after : Nat) : Statement (.bitTimeEnd after) :=
  fun _ => ⟨rfl, rfl, rfl⟩

theorem badCheck (after : Nat) : Statement (.badCheck after) :=
  fun _ => ⟨rfl, rfl, rfl⟩

theorem psckRise (after : Nat) (psi : Bool) : Statement (.psckRise after psi) :=
  fun _ => ⟨rfl, rfl, rfl⟩

theorem psckFall (after : Nat) : Statement (.psckFall after) :=
  fun _ => ⟨rfl, rfl, rfl⟩

theorem periodStart (after : Nat) (output : Output) : Statement (.periodStart after output) :=
  fun _ => ⟨rfl, rfl, rfl⟩

end Sys2Proof.Laws.Clocked
end

