-- ==== Sys2Proof/Laws/Timing.lean ====
section
/-! SUPPORT. What the passing of time leaves as it was. -/

namespace Sys2Proof.Machine

@[simp] theorem elapse_frame (dt : Nat) (s : State) :
    (s.elapse dt).pending = s.pending ∧ (s.elapse dt).queue = s.queue ∧ (s.elapse dt).table = s.table ∧
    (s.elapse dt).roster = s.roster ∧ (s.elapse dt).faults = s.faults ∧ (s.elapse dt).counters = s.counters ∧
    (s.elapse dt).library = s.library ∧ (s.elapse dt).player = s.player ∧ (s.elapse dt).bindings = s.bindings ∧
    (s.elapse dt).port = s.port :=
  ⟨rfl, rfl, rfl, rfl, rfl, rfl, rfl, rfl, rfl, rfl⟩

@[simp] theorem elapse_pins (dt : Nat) (s : State) :
    (s.elapse dt).pins.dataLow = s.pins.dataLow ∧ (s.elapse dt).pins.dataHeld = tick filterTime dt s.pins.dataHeld ∧
    (s.elapse dt).pins.rst = s.pins.rst.elapse dt :=
  ⟨rfl, rfl, rfl⟩

/-- How BEAT reads after a wait (R197). -/
theorem elapse_beatLow (dt : Nat) (s : State) :
    (s.elapse dt).pins.beatLow = (s.pins.beatLow || s.beat.mark.any fun m => decide (m.unseen ≤ dt)) := rfl

/-- A station that holds no mark moves no level by waiting (R3, R197). -/
theorem elapse_pins_noMark (dt : Nat) (s : State) (h : s.beat.mark = none) :
    (s.elapse dt).pins.beatLow = s.pins.beatLow ∧
      (s.elapse dt).pins.beatHeld = tick filterTime dt s.pins.beatHeld := by
  simp [State.elapse, Pins.elapse, h]

/-- A wait runs down what is left before the station sees its own mark (R197). -/
theorem unseen_elapse (dt : Nat) (m : Mark) :
    Mark.unseen { m with remaining := m.remaining - dt } = m.unseen - dt := by
  cases m with
  | mk k r => cases k <;> simp only [Mark.unseen, MarkKind.time, shortMarkTime, barMarkTime, filterTime] <;> omega

@[simp] theorem elapse_beat (dt : Nat) (s : State) :
    (s.elapse dt).beat.lock = s.beat.lock ∧ (s.elapse dt).beat.lastKind = s.beat.lastKind ∧
    (s.elapse dt).beat.beatIndex = s.beat.beatIndex ∧ (s.elapse dt).beat.barCount = s.beat.barCount ∧
    (s.elapse dt).beat.eighth = s.beat.eighth ∧ (s.elapse dt).beat.settle = s.beat.settle ∧
    (s.elapse dt).beat.freeBeats = s.beat.freeBeats ∧ (s.elapse dt).beat.strayTally = s.beat.strayTally ∧
    (s.elapse dt).beat.phaseConfirmed = s.beat.phaseConfirmed ∧ (s.elapse dt).beat.stuck = s.beat.stuck ∧
    (s.elapse dt).beat.measuring = s.beat.measuring :=
  ⟨rfl, rfl, rfl, rfl, rfl, rfl, rfl, rfl, rfl, rfl, rfl⟩

@[simp] theorem elapse_line (dt : Nat) (s : State) :
    (s.elapse dt).line.phase = s.line.phase ∧ (s.elapse dt).line.bitCount = s.line.bitCount ∧
    (s.elapse dt).line.shift = s.line.shift ∧ (s.elapse dt).line.fromGap = s.line.fromGap ∧
    (s.elapse dt).line.fallAt = s.line.fallAt ∧ (s.elapse dt).line.stuckTold = s.line.stuckTold :=
  ⟨rfl, rfl, rfl, rfl, rfl, rfl⟩

@[simp] theorem elapse_loop (dt : Nat) (s : State) :
    (s.elapse dt).loop.part = s.loop.part ∧ (s.elapse dt).loop.owner = s.loop.owner ∧
    (s.elapse dt).loop.placed = s.loop.placed ∧ (s.elapse dt).loop.conflictSeen = s.loop.conflictSeen ∧
    (s.elapse dt).loop.attempt = s.loop.attempt ∧ (s.elapse dt).loop.heard = s.loop.heard ∧
    (s.elapse dt).loop.rx = s.loop.rx :=
  ⟨rfl, rfl, rfl, rfl, rfl, rfl, rfl⟩

@[simp] theorem elapse_supply (dt : Nat) (s : State) :
    (s.elapse dt).supply.condition = s.supply.condition ∧ (s.elapse dt).supply.lastBand = s.supply.lastBand ∧
    (s.elapse dt).supply.lowRun = s.supply.lowRun ∧ (s.elapse dt).supply.highRun = s.supply.highRun ∧
    (s.elapse dt).supply.zeroRun = s.supply.zeroRun ∧ (s.elapse dt).supply.recoveryRun = s.supply.recoveryRun :=
  ⟨rfl, rfl, rfl, rfl, rfl, rfl⟩

@[simp] theorem elapse_startup (dt : Nat) (s : State) :
    (s.elapse dt).startup.station = s.startup.station ∧ (s.elapse dt).startup.cause = s.startup.cause ∧
    (s.elapse dt).startup.step = s.startup.step ∧ (s.elapse dt).startup.ownAddr = s.startup.ownAddr ∧
    (s.elapse dt).startup.validity = s.startup.validity ∧ (s.elapse dt).startup.membership = s.startup.membership ∧
    (s.elapse dt).startup.image = s.startup.image ∧ (s.elapse dt).startup.memoryBusy = s.startup.memoryBusy :=
  ⟨rfl, rfl, rfl, rfl, rfl, rfl, rfl, rfl⟩

@[simp] theorem elapse_keys (dt : Nat) (s : State) :
    (s.elapse dt).keys.state = s.keys.state ∧ (s.elapse dt).keys.hold = s.keys.hold ∧
    (s.elapse dt).keys.ack.raw = s.keys.ack.raw ∧ (s.elapse dt).keys.ack.debounced = s.keys.ack.debounced ∧
    (s.elapse dt).keys.test.raw = s.keys.test.raw ∧ (s.elapse dt).keys.test.debounced = s.keys.test.debounced :=
  ⟨rfl, rfl, rfl, rfl, rfl, rfl⟩

@[simp] theorem elapse_drive (dt : Nat) (s : State) :
    (s.elapse dt).drive.source = s.drive.source ∧ (s.elapse dt).drive.tone = s.drive.tone ∧
    (s.elapse dt).drive.volume = s.drive.volume ∧ (s.elapse dt).drive.envelope = s.drive.envelope ∧
    (s.elapse dt).drive.offset = s.drive.offset ∧ (s.elapse dt).drive.envelopeLevel = s.drive.envelopeLevel ∧
    (s.elapse dt).drive.level = s.drive.level ∧ (s.elapse dt).drive.behind = s.drive.behind ∧
    (s.elapse dt).drive.intensity = s.drive.intensity ∧ (s.elapse dt).drive.beaconLevel = s.drive.beaconLevel ∧
    (s.elapse dt).drive.cap = s.drive.cap ∧ (s.elapse dt).drive.quiescent = s.drive.quiescent :=
  ⟨rfl, rfl, rfl, rfl, rfl, rfl, rfl, rfl, rfl, rfl, rfl, rfl⟩

/-- The chirp timer and the two waves under the passing of time (R135, R139, R142). -/
theorem elapse_drive_timers (dt : Nat) (s : State) :
    (s.elapse dt).drive.chirpTimer = s.drive.chirpTimer.map (tick eighthTime dt) ∧
    (s.elapse dt).drive.sndPhase =
      (if s.drive.sounding then s.drive.sndPhase + toneHz s.drive.tone * dt else s.drive.sndPhase) ∧
    (s.elapse dt).drive.bcnPhase =
      (if s.drive.beaconLevel != 0 then s.drive.bcnPhase + beaconHz * dt else s.drive.bcnPhase) :=
  ⟨rfl, rfl, rfl⟩

/-- Time alone begins and ends no wave (R135). -/
@[simp] theorem elapse_sounding (dt : Nat) (s : State) : (s.elapse dt).drive.sounding = s.drive.sounding := rfl

@[simp] theorem elapse_converter (dt : Nat) (s : State) :
    (s.elapse dt).converter.activity = s.converter.activity ∧ (s.elapse dt).converter.discard = s.converter.discard ∧
    (s.elapse dt).converter.pendingSupply = s.converter.pendingSupply ∧
    (s.elapse dt).converter.pendingScan = s.converter.pendingScan :=
  ⟨rfl, rfl, rfl, rfl⟩

@[simp] theorem elapse_scanner (dt : Nat) (s : State) :
    (s.elapse dt).scanner.position = s.scanner.position :=
  rfl

@[simp] theorem elapse_running (dt : Nat) (s : State) : (s.elapse dt).running = s.running := rfl

@[simp] theorem elapse_isMember (dt : Nat) (s : State) : (s.elapse dt).isMember = s.isMember := rfl

/-- A mark is held as long as its release has not come (R3). -/
@[simp] theorem elapse_mark (dt : Nat) (s : State) :
    (s.elapse dt).beat.mark.isSome = s.beat.mark.isSome := by
  simp [State.elapse, BeatUnit.elapse]

/-- Time does not touch what a transmit record says of its frame. -/
theorem elapse_tx (dt : Nat) (s : State) :
    (s.elapse dt).loop.tx = s.loop.tx.map fun r => { r with bitTimer := r.bitTimer + dt } := rfl

@[simp] theorem elapse_input_request (dt : Nat) (s : State) (i : Nat) :
    ((s.elapse dt).inputs.getD i Input.atStart).request = (s.inputs.getD i Input.atStart).request := by
  simp only [State.elapse, List.getD_eq_getElem?_getD, List.getElem?_map]
  cases s.inputs[i]? <;> rfl

/-- Two waits in a row are one wait, for the timers that do not stop at the end of a range. -/
theorem tick_tick (cap a b t : Nat) : tick cap b (tick cap a t) = tick cap (a + b) t := by
  simp only [tick]; omega

end Sys2Proof.Machine
end

