-- ==== Sys2Proof/Laws/Serial.lean ====
section
/-! SUPPORT. The configuration memory's lines keep the rules of R186: each condition is the edge that the rule names and
no other, data changes only while CFG_CLK is low, and every clock period has its rise. -/

namespace Sys2Proof.Machine

/-- The successive pairs of levels that a test picks. -/
def MemoryCondition.edges (p : MemoryLines → MemoryLines → Bool) (c : MemoryCondition) : Nat :=
  ((c.levels.zip c.levels.tail).filter fun x => p x.1 x.2).length

theorem conditions_are_their_edges :
    (∀ c : MemoryCondition, c ≠ .stop → c.edges MemoryLines.isStart = 1 ∧ c.edges MemoryLines.isStop = 0)
      ∧ MemoryCondition.edges MemoryLines.isStop .stop = 1 ∧ MemoryCondition.edges MemoryLines.isStart .stop = 0 := by
  refine ⟨fun c h => ?_, by decide, by decide⟩
  cases c
  · decide
  · decide
  · exact absurd rfl h

theorem memoryClockRise_range : 1 ≤ memoryClockRise ∧ memoryClockRise ≤ 9 := by
  have := Config.memoryClockRise.isLt
  simp only [memoryClockRise]; omega

/-- The lines are released exactly while the station is not reading. -/
theorem released_lines (header : List Byte) (s : State) (h : s.memoryReading = false) :
    s.cfgClk = true ∧ s.memoryByte = none ∧ s.memoryData header = none ∧ s.memorySample = false := by
  simp [State.cfgClk, State.memoryData, State.memoryByte, State.memorySample, h]

/-- Where CFG_CLK is high a microsecond on, the byte, its clock period and the data are those of now (R186). -/
theorem data_changes_while_clock_low (header : List Byte) (s : State) (h : s.memoryReading = true) (c : (s.elapse 1).cfgClk = true) :
    (s.elapse 1).memoryByte = s.memoryByte ∧ (s.elapse 1).memoryData header = s.memoryData header := by
  have st : s.startup.station = .starting := by
    simp only [State.memoryReading, Bool.and_eq_true, beq_iff_eq] at h; exact h.1.1
  have r : (s.elapse 1).memoryReading = true := h
  have t : (s.elapse 1).startup.stepTimer = s.startup.stepTimer + 1 := by
    simp [State.elapse, Startup.elapse, st]
  have b := memoryClockRise_range
  have z : (s.startup.stepTimer + 1) % 10 ≠ 0 := by
    intro z
    simp only [State.cfgClk, r, t, memoryBitTime, z, Bool.not_true, Bool.false_or, decide_eq_true_eq] at c
    omega
  have q : (s.startup.stepTimer + 1) / 90 = s.startup.stepTimer / 90 := by omega
  have p : (s.startup.stepTimer + 1) % 90 / 10 = s.startup.stepTimer % 90 / 10 := by omega
  have m : (s.elapse 1).memoryByte = s.memoryByte := by
    simp only [State.memoryByte, r, h, t, memoryByteTime, q]
    rfl
  refine ⟨m, ?_⟩
  simp only [State.memoryData, m, State.memoryPeriod, t, memoryByteTime, memoryBitTime, p, elapse_startup]
  rfl

/-- In the acknowledge bit of the last header byte the station pulls CFG_DAT low exactly when the header passes its checks
(R186, R187). -/
theorem header_acknowledged (header : List Byte) (s : State) (h : s.memoryReading = true) (e : s.startup.image = [])
    (a : 980 ≤ s.startup.stepTimer) (b : s.startup.stepTimer < 990) :
    s.memoryData header = some (headerAcknowledge header) := by
  have q : s.startup.stepTimer / 90 = 10 := by omega
  have p : s.startup.stepTimer % 90 / 10 = 8 := by omega
  simp [State.memoryData, State.memoryByte, State.memoryPeriod, h, e, memoryByteTime, memoryBitTime, q, p, sentBytes,
    headerLength]

/-- The bit is sampled at the rise of CFG_CLK: the line is high then and was low a microsecond before (R186). -/
theorem sampled_at_the_rise (s : State) (h : s.memoryReading = true) :
    (s.elapse 1).memorySample = true ↔ s.cfgClk = false ∧ (s.elapse 1).cfgClk = true := by
  have st : s.startup.station = .starting := by
    simp only [State.memoryReading, Bool.and_eq_true, beq_iff_eq] at h; exact h.1.1
  have r : (s.elapse 1).memoryReading = true := h
  have t : (s.elapse 1).startup.stepTimer = s.startup.stepTimer + 1 := by
    simp [State.elapse, Startup.elapse, st]
  have b := memoryClockRise_range
  simp [State.memorySample, State.cfgClk, r, h, t, memoryBitTime]
  constructor
  · intro e; exact ⟨decide_eq_false (by omega), by omega⟩
  · intro e; have := of_decide_eq_false e.1; omega

end Sys2Proof.Machine
end

