-- ==== Sys2Proof/Tests/Slice0.lean ====
section
/-! SUPPORT. Tests. First the operand checks, then the manual's own worked examples, then for each statement of the
certificate a state that meets its hypotheses, clause by clause. -/

set_option Elab.async false

namespace Sys2Proof.Tests
open Sys2Proof.Machine

/-! ### The operand checks refuse an ill-formed command -/

theorem test_header_of_six_bytes_refused : (Instr.headerReadComplete 0 [1, 2, 3, 4, 5, 6]).wellFormed = false := by decide +kernel
theorem test_fifth_sent_byte_refused : (Instr.missingAcknowledge 0 4).wellFormed = false := by decide +kernel
theorem test_image_of_207_bytes_refused : (Instr.imageReadComplete 0 (List.replicate 200 0)).wellFormed = false := by decide +kernel
theorem test_image_of_209_bytes_refused : (Instr.imageReadComplete 0 (List.replicate 202 0)).wellFormed = false := by decide +kernel
theorem test_image_of_208_bytes_allowed : (Instr.imageReadComplete 0 (List.replicate 201 0)).wellFormed = true := by decide +kernel
theorem test_ninth_field_line_refused : (Instr.qualification 0 8).wellFormed = false := by decide +kernel

/-! ### States to test on -/

/-- Station 6, MEMBER and LOCKED, at the beat of index 2 of bar 40 (section 12.11). -/
def member : State :=
  { State.reset with
    beat := { State.reset.beat with
      lock := .locked, lastKind := .followed, beatIndex := 2#4, barCount := 40#8, phaseConfirmed := true }
    startup := ⟨.member, .powerOn, .done, 0, 6, .accepted, 2, [], false⟩
    roster := rosterAtStart 6
    supply := ⟨.normal, 4, 0, 4, 0, 4, none⟩
    converter := ⟨.idle, 0, false, false, false, none⟩
    scanner := ⟨0, some 0⟩
    port := { State.reset.port with attn := false } }

/-- The same station with the beat unit changed. -/
def withBeat (f : BeatUnit → BeatUnit) : State :=
  member.setBeat (f member.beat)

/-- The same station with the transceiver and the line changed. -/
def onLine (l : Line → Line) (t : Transceiver → Transceiver) (low : Bool) : State :=
  ((member.setLine (l member.line)).setLoop (t member.loop)).setPins { member.pins with dataLow := low }

/-- The state after a command, for a test that looks at it. -/
def after (c : Instr) (s : State) : State :=
  match exec c s with
  | .next t => t
  | .fault _ => s
  | .refused _ => s

/-- The station with a panel transaction open that has clocked in the given bytes. -/
def clockedIn (bytes : List Byte) : State :=
  member.setPort { member.port with opened := true, buffer := bytes }

/-- An entry of station 10 (section 12.11). -/
def entry10 : Entry :=
  ⟨12, 4, 10, 2, .active, false, false, 0, 40#8, 2#4⟩

/-! ### Worked examples -/

/-- Section 3.4: the check byte of station 6's SILENCE. -/
theorem test_silence_frame_check : crc8 [0x40#8, 0x06#8, 0x28#8, 0x04#8] = 0xFC#8 := by decide +kernel

/-- Section 3.4: the bytes of that frame. -/
theorem test_silence_frame_bytes :
    Frame.bytes ⟨.silence, 6, false, false, 40#8, 4#4, 0#8, []⟩ = [0x40#8, 0x06#8, 0x28#8, 0x04#8, 0xFC#8] := by
  decide +kernel

/-- Section 12.11: the check bytes of READ_SUMMARY and READ_TABLE. -/
theorem test_panel_checks :
    commandFrame 0x01#8 [] = [0x01#8, 0x00#8, 0x15#8] ∧ commandFrame 0x02#8 [] = [0x02#8, 0x00#8, 0x2A#8] := by
  decide +kernel

/-- Section 3.7: a STATUS as station 5 builds it. -/
theorem test_status_as_built :
    (Frame.body ⟨.status, 5, false, true, 61#8, 2#4, 0x01#8, [⟨0, 22, 5, false, true⟩, ⟨9, 3, 2, true, false⟩]⟩)
      = [0x80#8, 0x45#8, 0x3D#8, 0x22#8, 0x01#8, 0x96#8, 0x05#8, 0x43#8, 0x4A#8] := by
  decide +kernel

/-- Section 6.8: positions in a two-bar cycle. -/
theorem test_cycle_positions :
    cyclePosition 2 ⟨40#8, 11#4, 7⟩ = 95 ∧ cyclePosition 2 ⟨41#8, 3#4, 5⟩ = 157 ∧ cyclePosition 2 ⟨42#8, 0#4, 0⟩ = 0 := by
  decide +kernel

/-- Section 2.3: a full table gives up its last foreign entry for one of higher rank, and own entries stay. -/
theorem test_full_table_evicts_a_foreign_entry :
    let own : Entry := ⟨8, 1, 5, 1, .active, false, false, 0, 0, 0⟩
    let last : Entry := ⟨40, 2, 20, 3, .active, false, false, 0, 0, 0⟩
    let high (n : Nat) : Entry := ⟨n, 7, 6, n % 12, .active, false, false, 0, 0, 0⟩
    let table := (List.range 14).map high ++ [last, own]
    insertForeign 5 ⟨41, 2, 17, 0, .active, false, false, 0, 0, 0⟩ table = (table, true)
      ∧ insertForeign 5 ⟨50, 3, 11, 6, .active, false, false, 0, 0, 0⟩ table
        = ((List.range 14).map high ++ [⟨50, 3, 11, 6, .active, false, false, 0, 0, 0⟩, own], true) := by
  decide +kernel

/-- Section 11.7: the start bit of the SILENCE's second byte falls 50 µs after its first stop bit's sample. -/
theorem test_stop_bit_begins_the_gap :
    let s := onLine (fun l => { l with phase := .stop, byteTimer := 950, shift := 0x40#8 })
      (fun t => { t with rx := some ⟨some .openSlot, some 20000, [], true⟩ }) false
    let t := after (.bitSample 0) s
    t.line.phase = .gap ∧ t.line.gapLead = 50 ∧ t.loop.rx = some ⟨some .openSlot, some 20000, [0x40#8], true⟩ := by
  decide +kernel

/-- Section 12.11, transaction 1: the summary of station 6 with one entry of station 10. -/
theorem test_summary_of_the_worked_sequence :
    let s := { clockedIn [0x01#8, 0x00#8, 0x15#8, 0x00#8] with table := [entry10] }
    ((after (.readSummary 0) s).port.held.take 16)
      = [0x00#8, 0x01#8, 13#8, 2#8, 0#8, 6#8, 3#8, 40#8, 2#8, 4#8, 0#8, 12#8, 4#8, 1#8, 0x00#8, 0#8] := by
  decide +kernel

/-- Section 12.11, transaction 2: the table of the same station after the silence, miss 0 and stamp 40/2. -/
theorem test_table_of_the_worked_sequence :
    let s := { clockedIn [0x02#8, 0x00#8, 0x2A#8] with table := [{ entry10 with silenced := true }] }
    ((after (.readTable 0) s).port.held.take 9)
      = [0x00#8, 0x02#8, 6#8, 1#8, 0x8C#8, 0x14#8, 0x0A#8, 0x20#8, 40#8] := by
  decide +kernel

/-- Section 12.11, transaction 4: POST on input 9 is RAISED, and the head stays. -/
theorem test_post_of_the_worked_sequence :
    let s := { clockedIn (commandFrame 0x10#8 [9#8, 3#8, 2#8, 1#8]) with table := [entry10] }
    let t := after (.post 0) s
    t.port.held.take 4 = [0x00#8, 0x10#8, 1#8, 1#8] ∧ headOf t.table = some (10, 2, 12, 4) ∧ t.table.length = 2 := by
  decide +kernel

/-- Section 1.10: a fall 100 ms after an INTERNAL beat is followed, and the unit is SETTLING with count 1. -/
theorem test_fall_after_an_internal_beat :
    let t := after (.beatFall 100000) (withBeat fun b => { b with lock := .free, lastKind := .internal, beatIndex := 8#4 })
    t.beat.lock = .settling ∧ t.beat.settle = 1 ∧ t.beat.beatIndex = 9#4 ∧ t.beat.mark = some ⟨.short, 4000⟩ := by
  decide +kernel

/-! ### States that meet the statements' hypotheses

Each theorem below is named after the statement and the clause of it whose hypotheses its state meets, at the boundary of
its ranges where they have one. -/

/-- A station in a step of a cold start. -/
def startingAt (step : StartStep) (time : Nat) (image : List Byte) : State :=
  { State.reset with
    startup := ⟨.starting, .powerOn, step, time, 6, .notLoaded, 0, image, step == .reading⟩ }

/-- The smallest image before its check: no steps, every binding disabled with cue 1 and priority 1 (section 10.3). -/
def smallBody : List Byte :=
  [0x5E#8, 0x1C#8, 0x00#8, 0xD0#8, 1#8, 0#8, 0#8] ++ (List.replicate 8 [1#8, 1#8]).flatten
    ++ List.replicate 61 0#8 ++ List.replicate 61 0#8 ++ List.replicate 61 0#8

/-- The smallest image. -/
def smallImage : List Byte :=
  smallBody ++ [0xE5#8, 0x51#8]

theorem test_small_image_check_head :
    ([0x5E#8, 0x1C#8, 0x00#8, 0xD0#8, 1#8, 0#8, 0#8] ++ (List.replicate 8 [1#8, 1#8]).flatten).foldl crc16Byte 0xFFFF#16
      = 0x52F1#16 := by
  decide +kernel

theorem test_small_image_check_zeros :
    (List.replicate 61 0#8).foldl crc16Byte 0x52F1#16 = 0xE964#16
      ∧ (List.replicate 61 0#8).foldl crc16Byte 0xE964#16 = 0xC024#16
      ∧ (List.replicate 61 0#8).foldl crc16Byte 0xC024#16 = 0xE551#16 := by
  decide +kernel

theorem test_small_image_check : crc16 smallBody = 0xE551#16 := by
  unfold crc16 smallBody
  rw [List.foldl_append, List.foldl_append, List.foldl_append, test_small_image_check_head,
    test_small_image_check_zeros.1, test_small_image_check_zeros.2.1, test_small_image_check_zeros.2.2]

/-! ### Commands, reset and start -/

theorem test_StepRunsTheFrontCommand_both :
    (member.setPending [.beatFall 5]).pending = [.beatFall 5] ∧ member.pending = [] := by
  decide +kernel

theorem test_HeldResetColdStarts :
    let s := member.setPins ⟨false, false, 2, 2, .timing 999⟩
    s.pins.rst = .timing 999 ∧ 1000 ≤ 999 + 1 := by
  decide +kernel

theorem test_ShortResetPulse_fall :
    member.pins.rst = .high := by
  decide +kernel

theorem test_ShortResetPulse_rise :
    let s := member.setPins ⟨false, false, 2, 2, .timing 0⟩
    s.pins.rst = .timing 0 ∧ 0 + 999 < 1000 ∧ ¬ (s.startup.station = .starting ∧ s.startup.step = .waiting) := by
  decide +kernel

theorem test_ShortResetPulse_waiting :
    let s := (startingAt .waiting 0 []).setPins ⟨false, false, 2, 2, .held⟩
    s.pins.rst = .held ∧ s.startup.station = .starting ∧ s.startup.step = .waiting := by
  decide +kernel

theorem test_ShortResetPulse_quiescent :
    let s := (member.setStartup { member.startup with station := .quiescent }).setPins ⟨false, false, 2, 2, .held⟩
    s.pins.rst = .held ∧ s.startup.station = .quiescent := by
  decide +kernel

theorem test_StrapsGiveTheAddress :
    let s := startingAt .settlingWait 999999 []
    s.startup.station = .starting ∧ s.startup.step = .settlingWait ∧ 1000000 ≤ s.startup.stepTimer + 1 := by
  decide +kernel

theorem test_HeaderOrAcknowledge_good :
    let s := startingAt .reading 0 []
    let header := smallImage.take 7
    s.startup.station = .starting ∧ s.startup.step = .reading ∧ s.startup.memoryBusy = true ∧ s.startup.image = []
      ∧ header.length = 7 ∧ 990 ≤ s.startup.stepTimer + 990
      ∧ wordAt header 0 = 0x5E1C ∧ wordAt header 2 = 208 + 4 * wordAt header 5 ∧ wordAt header 2 ≤ 2048
      ∧ 1 ≤ (byteAt header 4).toNat ∧ (byteAt header 4).toNat ≤ 24 ∧ wordAt header 5 ≤ 256
      ∧ 980 ≤ s.startup.stepTimer + 980 ∧ s.startup.stepTimer + 980 < 990 := by
  decide +kernel

theorem test_HeaderOrAcknowledge_bad :
    let s := startingAt .reading 990 []
    let header := List.replicate 7 0#8
    s.startup.station = .starting ∧ s.startup.step = .reading ∧ s.startup.memoryBusy = true ∧ s.startup.image = []
      ∧ header.length = 7 ∧ 990 ≤ s.startup.stepTimer + 0 ∧ ¬ wordAt header 0 = 0x5E1C
      ∧ 980 ≤ (startingAt .reading 0 []).startup.stepTimer + 989 ∧ (startingAt .reading 0 []).startup.stepTimer + 989 < 990 := by
  decide +kernel

theorem test_HeaderOrAcknowledge_missing :
    let s := startingAt .reading 0 []
    s.startup.station = .starting ∧ s.startup.step = .reading ∧ s.startup.memoryBusy = true ∧ s.startup.image = []
      ∧ 3 < 4 ∧ 90 * (3 + 1) ≤ s.startup.stepTimer + 360 := by
  decide +kernel

theorem test_WholeImage_good :
    let s := startingAt .reading 990 (smallImage.take 7)
    let image := s.startup.image ++ smallImage.drop 7
    s.startup.station = .starting ∧ s.startup.step = .reading ∧ s.startup.memoryBusy = true
      ∧ s.startup.image.length = 7 ∧ image.length = wordAt image 2 ∧ 90 * (4 + image.length) ≤ s.startup.stepTimer + 18090
      ∧ (crc16 (image.take (image.length - 2))).toNat = wordAt image (image.length - 2)
      ∧ ∀ n, n < 8 → 1 ≤ bitsOf (byteAt image (7 + 2 * n)) 0 3 ∧ 1 ≤ bitsOf (byteAt image (8 + 2 * n)) 0 6
        ∧ bitsOf (byteAt image (8 + 2 * n)) 6 2 = 0 := by
  refine ⟨rfl, rfl, rfl, by decide +kernel, by decide +kernel, by decide +kernel, ?_, by decide +kernel⟩
  have e : (smallImage.take 7 ++ smallImage.drop 7).take ((smallImage.take 7 ++ smallImage.drop 7).length - 2) = smallBody := by
    decide +kernel
  have w : wordAt (smallImage.take 7 ++ smallImage.drop 7) ((smallImage.take 7 ++ smallImage.drop 7).length - 2) = 0xE551 := by
    decide +kernel
  show (crc16 _).toNat = _
  rw [show (startingAt .reading 990 (smallImage.take 7)).startup.image = smallImage.take 7 from rfl, e, w,
    test_small_image_check]
  rfl

theorem test_WholeImage_bad :
    let s := startingAt .reading 990 (smallImage.take 7)
    let image := s.startup.image ++ List.replicate 201 0#8
    s.startup.station = .starting ∧ s.startup.step = .reading ∧ s.startup.memoryBusy = true
      ∧ s.startup.image.length = 7 ∧ image.length = wordAt image 2 ∧ 90 * (4 + image.length) ≤ s.startup.stepTimer + 18090
      ∧ ¬ 1 ≤ bitsOf (byteAt image 7) 0 3 := by
  decide +kernel

theorem test_LoadComplete :
    let s := startingAt .checking 0 smallImage
    s.startup.station = .starting ∧ s.startup.step = .checking := by
  decide +kernel

/-- Sections 6.1 and 10.3: an image with a pattern P1 of one step of 128 eighths in a bar and a P2 whose cycle is empty;
cue 1 names P1, cue 2 P2 and cue 3 a pattern that is not there, and every binding is that of `smallImage` but for the first,
which is enabled and latched with cue 9, priority 3 and qualification code 2. -/
def patternImage : List Byte :=
  [0x5E#8, 0x1C#8, 0x00#8, 0xD4#8, 3#8, 0#8, 1#8] ++ [0xB3#8, 9#8] ++ (List.replicate 7 [1#8, 1#8]).flatten
    ++ [1#8, 2#8, 3#8] ++ List.replicate 60 0#8 ++ [0#8, 0#8, 0#8, 0#8, 0#8] ++ [0#8, 0#8, 0#8, 1#8, 1#8]
    ++ [0#8, 0#8, 0#8, 0#8, 1#8] ++ List.replicate 105 0#8 ++ [128#8, 0x7A#8, 2#8, 0#8] ++ [0#8, 0#8]

theorem test_LoadComplete_patterns :
    let t := after (.loadComplete 0) (startingAt .checking 0 patternImage)
    validInImage patternImage 1 1 = true ∧ validInImage patternImage 1 2 = false
      ∧ t.library.rejected = 1 ∧ t.faults = 0x10#8 ∧ (List.range 4).map (fun c => t.library.patternOf (c + 1)) = [1, 0, 0, 0]
      ∧ t.library.intro 1 = [] ∧ t.library.cycle 1 = [⟨128, 7, 2, .swell, 2⟩] ∧ t.library.bars 1 = 1
      ∧ t.binding 0 = ⟨true, false, 2, ⟨9, 3, true⟩⟩ := by
  decide +kernel

/-! ### The beat unit -/

theorem test_FallsOfTheGuardTime_merged :
    let s := member.setPins ⟨true, false, 2, 2, .high⟩
    ¬ s.beatFallSeen 2 := by
  decide +kernel

/-- A line that has been high for 1 µs, and one that the station's own mark, 2 µs old, holds. -/
theorem test_FallsOfTheGuardTime_filtered :
    let s := member.setPins ⟨false, false, 0, 2, .high⟩
    let u := withBeat fun b => { b with mark := some ⟨.short, 4000⟩ }
    ¬ s.beatFallSeen 1 ∧ s.beatFallSeen 2 ∧ u.beatFallSeen 1 ∧ ¬ u.beatFallSeen 2 := by
  decide +kernel

theorem test_FallsOfTheGuardTime_ignored :
    let s := withBeat fun b => { b with lock := .free }
    s.beatFallSeen 19999 ∧ s.beat.timer + 19999 < 20000
      ∧ (s.beat.lock = .free → s.beat.lastKind = .followed ∨ s.beat.lastKind = .own) := by
  decide +kernel

theorem test_FallsOfTheGuardTime_halted :
    State.reset.beatFallSeen 0 ∧ State.reset.beat.lock = .halted := by
  decide +kernel

theorem test_FallsOfTheGuardTime_sameBeat :
    let s := withBeat fun b => { b with lock := .free, lastKind := .internal }
    s.beatFallSeen 19999 ∧ s.beat.lock = .free ∧ s.beat.timer + 19999 < 20000
      ∧ (s.beat.lastKind = .start ∨ s.beat.lastKind = .internal) := by
  decide +kernel

theorem test_StrayIsCounted_first :
    member.beat.lock = .locked ∧ member.beatFallSeen 20000 ∧ member.counters.stray ≤ 255
      ∧ 20000 ≤ member.beat.timer + 20000 ∧ member.beat.timer + 20000 < 230000 ∧ member.beat.strayTally < 2 := by
  decide +kernel

theorem test_StrayIsCounted_third :
    let s := withBeat fun b => { b with strayTally := 2 }
    s.beat.lock = .locked ∧ s.beatFallSeen 229999 ∧ s.counters.stray ≤ 255
      ∧ 20000 ≤ s.beat.timer + 229999 ∧ s.beat.timer + 229999 < 230000 ∧ 2 ≤ s.beat.strayTally := by
  decide +kernel

theorem test_FollowedBeat_locked :
    member.beatFallSeen 230000 ∧ member.beat.lock ≠ .halted ∧ 20000 ≤ member.beat.timer + 230000
      ∧ (member.beat.lock = .locked → 230000 ≤ member.beat.timer + 230000) := by
  decide +kernel

theorem test_FollowedBeat_free :
    let s := withBeat fun b => { b with lock := .free }
    s.beatFallSeen 20000 ∧ s.beat.lock ≠ .halted ∧ 20000 ≤ s.beat.timer + 20000
      ∧ (s.beat.lock = .locked → 230000 ≤ s.beat.timer + 20000) := by
  decide +kernel

theorem test_FollowedBeat_settling :
    let s := withBeat fun b => { b with lock := .settling, settle := 2 }
    s.beatFallSeen 230000 ∧ s.beat.lock = .settling ∧ 20000 ≤ s.beat.timer + 230000
      ∧ (s.beat.lock = .locked → 230000 ≤ s.beat.timer + 230000) := by
  decide +kernel

/-- A frame of each kind that a beat cuts, counted as R65 and R66 say: the placed one in RX_ERR, the other in MISPLACED. -/
theorem test_FollowedBeat_cuts :
    let cut (slot : Option Slot) : State :=
      (member.setLoop { member.loop with rx := some ⟨slot, some 20000, [0x40#8], true⟩ })
    let t (slot : Option Slot) := after (.beatFall 240000) (cut slot)
    (cut none).beatFallSeen 240000 ∧ member.counters = ⟨0, 0, 0, 0, 0, 0, 0⟩
      ∧ (t none).counters = ⟨0, 1, 0, 0, 0, 0, 0⟩ ∧ (t (some .openSlot)).counters = ⟨1, 0, 0, 0, 0, 0, 0⟩
      ∧ (t none).loop.rx = none := by
  decide +kernel

theorem test_OwnAndInternalBeats_own :
    let s := withBeat fun b => { b with lock := .settling, settle := 2 }
    250000 ≤ s.beat.timer + 250000 ∧ (s.beat.lock = .settling ∧ s.beat.settle < 3 ∨ s.beat.lock = .locked) := by
  decide +kernel

theorem test_OwnAndInternalBeats_internal :
    let s := withBeat fun b => { b with lock := .free, freeBeats := 14 }
    250000 ≤ s.beat.timer + 250000 ∧ s.beat.lock = .free ∧ ((s.elapse 250000).pins.beatLow = true ∨ s.beat.freeBeats < 15) := by
  decide +kernel

theorem test_EnterLocked_fall :
    let s := withBeat fun b => { b with lock := .settling, settle := 3 }
    s.beat.lock = .settling ∧ s.beatFallSeen 230000 ∧ 230000 ≤ s.beat.timer + 230000 ∧ 3 ≤ s.beat.settle := by
  decide +kernel

theorem test_EnterLocked_own :
    let s := withBeat fun b => { b with lock := .settling, settle := 3 }
    s.beat.lock = .settling ∧ 250000 ≤ s.beat.timer + 250000 ∧ 3 ≤ s.beat.settle := by
  decide +kernel

theorem test_EnterLocked_alone :
    let s := withBeat fun b => { b with lock := .free, freeBeats := 15 }
    s.beat.lock = .free ∧ (s.elapse 250000).pins.beatLow = false ∧ 250000 ≤ s.beat.timer + 250000 ∧ 15 ≤ s.beat.freeBeats := by
  decide +kernel

/-- A player in the given state. -/
def playing (p : Player) : State :=
  member.setPlayer p

theorem test_beatDue_expiry (s : State) (h : s.beat = member.beat) : s.beatDue .expiry 250000 := by
  simp [State.beatDue, h, member]

theorem test_beatDue_fall : member.beatDue .fall 230000 := by
  unfold State.beatDue; decide +kernel

theorem test_BeatEventAtThePlayer_testDue :
    let s := playing ⟨.silent, none, none, false, 0, 0, true, 0, false⟩
    s.beatDue .expiry 250000 ∧ s.chordGoesOn ∧ s.player.testDue = true :=
  ⟨test_beatDue_expiry _ rfl, by decide +kernel, by decide +kernel⟩

theorem test_BeatEventAtThePlayer_testGoesOn :
    let s := playing ⟨.test, none, none, false, 0, 0, false, 2, false⟩
    s.beatDue .expiry 250000 ∧ s.chordGoesOn ∧ s.player.testDue = false ∧ s.player.mode = .test ∧ s.player.testBeats < 3 :=
  ⟨test_beatDue_expiry _ rfl, by decide +kernel, by decide +kernel⟩

theorem test_BeatEventAtThePlayer_testEnds :
    let s := playing ⟨.test, none, none, false, 0, 0, false, 3, false⟩
    s.beatDue .expiry 250000 ∧ s.chordGoesOn ∧ s.player.testDue = false ∧ s.player.mode = .test ∧ 3 ≤ s.player.testBeats :=
  ⟨test_beatDue_expiry _ rfl, by decide +kernel, by decide +kernel⟩

theorem test_BeatEventAtThePlayer_starts :
    let s := playing ⟨.silent, none, some 0, false, 0, 0, false, 0, true⟩
    s.beatDue .expiry 250000 ∧ s.chordGoesOn ∧ s.player.testDue = false ∧ s.player.mode ≠ .test ∧ s.player.wanted = some 0
      ∧ (s.player.mode = .silent ∨ s.player.current ≠ some 0 ∨ s.player.restart = true) ∧ s.library.intro 0 = [] :=
  ⟨test_beatDue_expiry _ rfl, by decide +kernel, by decide +kernel⟩

/-- A library whose pattern 1 has an intro of one step of two eighths and a cycle of one bar. -/
def library1 : Library :=
  ⟨List.replicate 63 1#8, 2, [⟨0, 0, 0, 0, 1⟩, ⟨0, 1, 1, 1, 1⟩], [⟨2, 5, 3, 2, 1⟩, ⟨128, 7, 2, 1, 0⟩],
    List.replicate 63 1, 0⟩

theorem test_BeatEventAtThePlayer_startsIntro :
    let s := (playing ⟨.silent, none, some 1, false, 0, 0, false, 0, true⟩).setLibrary library1
    s.beatDue .expiry 250000 ∧ s.chordGoesOn ∧ s.player.testDue = false ∧ s.player.mode ≠ .test
      ∧ s.player.wanted = some 1 ∧ s.library.intro 1 = [⟨2, 5, 3, .decay, 2⟩] ∧ 1 ≤ 2 :=
  ⟨test_beatDue_expiry _ rfl, by decide +kernel⟩

/-- The fullest chord that goes on at the next mark. -/
def chord62 : KeyUnit :=
  ⟨⟨true, true, none⟩, ⟨true, true, none⟩, .chord, 62⟩

/-- The pattern starts at the beat while the chord counts it. -/
theorem test_BeatEventAtThePlayer_chord :
    let s := (playing ⟨.silent, none, some 0, false, 0, 0, false, 0, true⟩).setKeys chord62
    s.beatDue .expiry 250000 ∧ s.chordGoesOn ∧ s.keys.state = .chord ∧ s.player.wanted = some 0
      ∧ (after (.beatTimerExpiry 250000) s).player.mode = .cycle ∧ (after (.beatTimerExpiry 250000) s).keys.hold = 63 :=
  ⟨test_beatDue_expiry _ rfl, by decide +kernel⟩

theorem test_BeatEventAtThePlayer_ends :
    let s := playing ⟨.cycle, some 0, none, false, 0, 0, false, 0, false⟩
    s.beatDue .expiry 250000 ∧ s.chordGoesOn ∧ s.player.testDue = false ∧ s.player.mode ≠ .test ∧ s.player.wanted = none :=
  ⟨test_beatDue_expiry _ rfl, by decide +kernel, by decide +kernel⟩

theorem test_LowPeriodOfABeat_release :
    let s := withBeat fun b => { b with mark := some ⟨.short, 4000⟩ }
    s.beat.mark = some ⟨.short, 4000⟩ ∧ 4000 ≤ 4000 := by
  decide +kernel

theorem test_LowPeriodOfABeat_barMark :
    let s := (withBeat fun b => { b with measuring := true }).setPins ⟨true, false, 2, 2, .high⟩
    s.beat.measuring = true ∧ (s.elapse 8000).pins.beatLow = true ∧ s.beat.lock ≠ .halted ∧ 8000 ≤ s.beat.timer + 8000 := by
  decide +kernel

theorem test_LowPeriodOfABeat_rise :
    let s := (withBeat fun b => { b with measuring := true }).setPins ⟨true, false, 2, 2, .high⟩
    s.beatRiseSeen 7999
      ∧ (s.beat.lock = .halted ∨ s.beat.measuring = false ∨ s.beat.timer + 7999 < 8000) := by
  decide +kernel

theorem test_LowPeriodOfABeat_held :
    let s := (withBeat fun b => { b with mark := some ⟨.short, 4000⟩ }).setPins ⟨true, false, 2, 2, .high⟩
    ¬ s.beatRiseSeen 3999 ∧ ¬ (member.setPins ⟨true, false, 1, 2, .high⟩).beatRiseSeen 0 := by
  decide +kernel

theorem test_BeatLowForForty_stuck :
    let s := (withBeat fun b => { b with lowTimer := 1 }).setPins ⟨true, false, 2, 2, .high⟩
    s.pins.beatLow = true ∧ s.beat.lock ≠ .halted ∧ s.beat.stuck = false ∧ 40000 < s.beat.lowTimer + 40000 := by
  decide +kernel

/-- The station with BEAT at its 40 ms of low while it sends a frame. -/
theorem test_BeatLowForForty_sending :
    let r : TxRecord := ⟨.openSlot, [0x40#8, 0x06#8, 0x28#8, 0x04#8, 0xFC#8], 2, 3, 0, false, .sending⟩
    let s := ((withBeat fun b => { b with lowTimer := 1 }).setPins ⟨true, false, 2, 2, .high⟩).setLoop
      { member.loop with tx := some r }
    s.pins.beatLow = true ∧ s.beat.lock ≠ .halted ∧ s.beat.stuck = false ∧ 40000 < s.beat.lowTimer + 40000
      ∧ s.beat.lock ≠ .free ∧ s.startup.station = .member ∧ s.loop.tx = some r ∧ r.outcome = .sending := by
  decide +kernel

theorem test_BeatLowForForty_notYet :
    let s := member.setPins ⟨true, false, 2, 2, .high⟩
    s.pins.beatLow = true ∧ (s.beat.lock = .halted ∨ s.beat.stuck = true ∨ s.beat.lowTimer + 40000 ≤ 40000) := by
  decide +kernel

/-- The station's first eighth mark within the beat comes after 31.25 ms. -/
theorem test_eighthIsDue_mark (s : State) (h : s.beat = member.beat) : s.eighthIsDue .mark 31250 := by
  simp [State.eighthIsDue, h, member, State.reset]

theorem test_EighthMark_cycle :
    let s := (playing ⟨.cycle, some 0, some 0, false, 0, 0, false, 0, true⟩)
    s.eighthIsDue .mark 31250 ∧ s.chordGoesOn ∧ s.player.mode = .cycle ∧ s.player.wanted ≠ none
      ∧ s.player.current = some 0 ∧ s.drive.quiescent = false ∧ s.player.sound = true ∧ s.drive.source ≠ .chirp
      ∧ spanAt (s.library.cycle 0)
        ((s.beat.barCount.toNat % s.library.bars 0 * 16 + s.beat.beatIndex.toNat) * 8 + s.beat.eighth + 1)
          = some (⟨4, 7, 3, .flat, 3⟩, 1) :=
  ⟨test_eighthIsDue_mark _ rfl, by decide +kernel⟩

/-- The same with a chord held, which counts the mark. -/
theorem test_EighthMark_chord :
    let s := (playing ⟨.cycle, some 0, some 0, false, 0, 0, false, 0, true⟩).setKeys chord62
    s.eighthIsDue .mark 31250 ∧ s.chordGoesOn ∧ s.keys.state = .chord
      ∧ (after (.eighthMark 31250) s).keys.hold = 63 ∧ (after (.eighthMark 31250) s).player.stepOffset = 1 :=
  ⟨test_eighthIsDue_mark _ rfl, by decide +kernel⟩

theorem test_EighthMark_eighthZero :
    let s := (playing ⟨.cycle, some 0, some 0, false, 0, 0, false, 0, true⟩)
    s.eighthIsDue (.beat .expiry) 250000 ∧ s.chordGoesOn ∧ s.player.mode = .cycle ∧ s.player.current = some 0
      ∧ s.player.testDue = false ∧ s.player.restart = false ∧ s.player.wanted = some 0
      ∧ (after (.beatTimerExpiry 250000) s).player.stepOffset = 0
      ∧ spanAt (s.library.cycle 0) ((40 % s.library.bars 0 * 16 + 3) * 8 + 0) = some (⟨4, 7, 3, .flat, 3⟩, 0) :=
  ⟨test_beatDue_expiry _ rfl, by decide +kernel, by decide +kernel, by decide +kernel, by decide +kernel,
    by decide +kernel, by decide +kernel, by decide +kernel, by decide +kernel⟩

theorem test_EighthMark_silent :
    let s := (playing ⟨.silent, none, none, false, 0, 0, false, 0, false⟩)
    s.eighthIsDue .mark 31250 ∧ s.chordGoesOn ∧ s.player.mode = .silent :=
  ⟨test_eighthIsDue_mark _ rfl, by decide +kernel⟩

theorem test_EighthMark_test :
    let s := (playing ⟨.test, none, none, false, 0, 0, false, 0, false⟩)
    s.eighthIsDue .mark 31250 ∧ s.chordGoesOn ∧ s.player.mode = .test :=
  ⟨test_eighthIsDue_mark _ rfl, by decide +kernel⟩

/-- A library whose pattern 1 is one rest. -/
def libraryOfRest : Library :=
  ⟨List.replicate 63 1#8, 2, [⟨0, 0, 0, 0, 1⟩, ⟨0, 0, 0, 1, 1⟩], [⟨128, 0, 3, 0, 2⟩], List.replicate 63 1, 0⟩

/-- The station with a chirp at level 1 that has just begun. -/
def chirping (s : State) : State :=
  s.setDrive { s.drive with source := .chirp, tone := 10, envelopeLevel := 1, level := 1, chirpTimer := some 0 }

/-- A chirp under a tone that cuts it off, and one under a rest that is stored behind it. -/
theorem test_EighthMark_chirp :
    let s := chirping (playing ⟨.cycle, some 0, some 0, false, 0, 0, false, 0, true⟩)
    let r := chirping ((playing ⟨.cycle, some 1, some 1, false, 0, 0, false, 0, true⟩).setLibrary libraryOfRest)
    (s.eighthIsDue .mark 31250 ∧ s.chordGoesOn ∧ s.player.sound = true ∧ s.drive.source = .chirp
        ∧ spanAt (s.library.cycle 0) ((40 % s.library.bars 0 * 16 + 2) * 8 + 1) = some (⟨4, 7, 3, .flat, 3⟩, 1)
        ∧ (after (.eighthMark 31250) s).drive.source = .pattern ∧ (after (.eighthMark 31250) s).drive.chirpTimer = none)
      ∧ (r.eighthIsDue .mark 31250 ∧ r.chordGoesOn ∧ r.player.sound = true ∧ r.drive.source = .chirp
        ∧ (after (.eighthMark 31250) r).drive.source = .chirp ∧ (after (.eighthMark 31250) r).drive.behind ≠ none) :=
  ⟨⟨test_eighthIsDue_mark _ rfl, by decide +kernel⟩, ⟨test_eighthIsDue_mark _ rfl, by decide +kernel⟩⟩

/-- A SILENT mark discards the rest behind a chirp, which goes on; a TEST mark cuts the chirp off. -/
theorem test_EighthMark_chirpEnds :
    let s := playing ⟨.silent, none, none, false, 0, 0, false, 0, false⟩
    let s := s.setDrive { (chirping s).drive with behind := some ⟨0, 3, .flat, 1⟩ }
    let t := chirping (playing ⟨.test, none, none, false, 0, 0, false, 0, false⟩)
    (s.eighthIsDue .mark 31250 ∧ s.chordGoesOn ∧ s.player.mode = .silent ∧ s.drive.quiescent = false
        ∧ s.drive.source = .chirp ∧ (after (.eighthMark 31250) s).drive.behind = none)
      ∧ (t.eighthIsDue .mark 31250 ∧ t.chordGoesOn ∧ t.player.mode = .test
        ∧ (after (.eighthMark 31250) t).drive.source = .test) :=
  ⟨⟨test_eighthIsDue_mark _ rfl, by decide +kernel⟩, ⟨test_eighthIsDue_mark _ rfl, by decide +kernel⟩⟩

theorem test_EighthMark_ends :
    let s := (playing ⟨.intro, some 1, none, false, 0, 0, false, 0, false⟩)
    s.eighthIsDue .mark 31250 ∧ s.chordGoesOn ∧ (s.player.mode = .intro ∨ s.player.mode = .cycle)
      ∧ s.player.wanted = none :=
  ⟨test_eighthIsDue_mark _ rfl, by decide +kernel⟩

theorem test_IntroRunsItsLength_plays :
    let s := (playing ⟨.intro, some 1, some 1, false, 1, 0, false, 0, true⟩).setLibrary library1
    s.beat.lock ≠ .halted ∧ s.beat.eighth < 7 ∧ 31250 * (s.beat.eighth + 1) ≤ s.beat.timer + 31250
      ∧ s.chordGoesOn ∧ s.player.mode = .intro ∧ s.player.wanted ≠ none ∧ s.player.current = some 1
      ∧ spanAt (s.library.intro 1) s.player.introCount = some (⟨2, 5, 3, .decay, 2⟩, 1) := by
  decide +kernel

theorem test_IntroRunsItsLength_chord :
    let s := ((playing ⟨.intro, some 1, some 1, false, 1, 0, false, 0, true⟩).setLibrary library1).setKeys chord62
    s.chordGoesOn ∧ s.keys.state = .chord ∧ s.player.mode = .intro
      ∧ (after (.eighthMark 31250) s).player.introCount = 2 := by
  decide +kernel

theorem test_IntroRunsItsLength_ends :
    let s := (playing ⟨.intro, some 1, some 1, false, 2, 0, false, 0, true⟩).setLibrary library1
    s.beat.lock ≠ .halted ∧ s.beat.eighth < 7 ∧ 31250 * (s.beat.eighth + 1) ≤ s.beat.timer + 31250
      ∧ s.chordGoesOn ∧ s.player.mode = .intro ∧ s.player.wanted ≠ none ∧ s.player.current = some 1
      ∧ ((s.library.intro 1).map Step.duration).sum ≤ s.player.introCount
      ∧ spanAt (s.library.cycle 1)
        ((s.beat.barCount.toNat % s.library.bars 1 * 16 + s.beat.beatIndex.toNat) * 8 + (s.beat.eighth + 1))
          = some (⟨128, 7, 2, .flat, 1⟩, 17) := by
  decide +kernel

theorem test_MessagesExpire_one :
    let s := member.setQueue ⟨[⟨.raise 0 ⟨1, 1, false⟩, 0, 15, false⟩, ⟨.silence, 1, 3, false⟩], 2⟩
    s.beatDue .expiry 250000 ∧ (s.keys.state = .chord → s.keys.hold < 63) ∧ s.counters.txExpired ≤ 255
      ∧ ∃ m ∈ s.queue.messages, (m.news != .silence && m.news != .restore && decide (15 ≤ m.age)) = true :=
  ⟨test_beatDue_expiry _ rfl, by decide +kernel⟩

theorem test_MessagesExpire_none :
    let s := member.setQueue ⟨[⟨.raise 0 ⟨1, 1, false⟩, 0, 14, false⟩, ⟨.silence, 1, 15, false⟩], 2⟩
    s.beatDue .expiry 250000 ∧ (s.keys.state = .chord → s.keys.hold < 63) ∧ s.counters.txExpired ≤ 255
      ∧ ∀ m ∈ s.queue.messages, (m.news != .silence && m.news != .restore && decide (15 ≤ m.age)) = false :=
  ⟨test_beatDue_expiry _ rfl, by decide +kernel⟩

theorem test_SecondIndexZero_beat :
    let s := (withBeat fun b => { b with beatIndex := 15#4 }).setStartup
      { member.startup with station := .joining, membership := 1 }
    s.startup.station = .joining ∧ s.beat.lock = .locked ∧ s.beat.beatIndex = 15#4 ∧ s.beatDue .fall 230000
      ∧ 1 ≤ s.startup.membership :=
  ⟨rfl, rfl, rfl, by unfold State.beatDue; decide +kernel, by decide +kernel⟩

theorem test_SecondIndexZero_barMark :
    let s := ((withBeat fun b => { b with measuring := true }).setStartup
      { member.startup with station := .joining, membership := 1 }).setPins ⟨true, false, 2, 2, .high⟩
    s.startup.station = .joining ∧ s.beat.lock = .locked ∧ s.beat.beatIndex ≠ 0#4 ∧ s.beat.measuring = true
      ∧ (s.elapse 8000).pins.beatLow = true ∧ 8000 ≤ s.beat.timer + 8000 ∧ 1 ≤ s.startup.membership := by
  decide +kernel

theorem test_Chord_counts :
    let s := member.setKeys ⟨⟨true, true, none⟩, ⟨true, true, none⟩, .chord, 62⟩
    s.eighthIsDue .mark 31250 ∧ s.keys.state = .chord ∧ s.keys.hold < 63 :=
  ⟨by unfold State.eighthIsDue; decide +kernel, by decide +kernel, by decide +kernel⟩

theorem test_Chord_completes :
    let s := member.setKeys ⟨⟨true, true, none⟩, ⟨true, true, none⟩, .chord, 63⟩
    s.eighthIsDue (.beat .expiry) 250000 ∧ s.keys.state = .chord ∧ 63 ≤ s.keys.hold ∧ s.queue.messages.length < 6 :=
  ⟨test_beatDue_expiry _ rfl, by decide +kernel, by decide +kernel, by decide +kernel⟩

/-- The chirp of a restore at a mark: with the player SILENT, under a test tone, and under the pattern of an entry that
stays. -/
theorem test_Chord_chirps :
    let held (s : State) : State := s.setKeys ⟨⟨true, true, none⟩, ⟨true, true, none⟩, .chord, 63⟩
    let s := held (chirping (playing ⟨.silent, none, none, false, 0, 0, false, 0, false⟩))
    let t := held (playing ⟨.test, none, none, false, 0, 0, false, 0, false⟩)
    let c := (held (playing ⟨.cycle, some 0, some 0, false, 0, 0, false, 0, true⟩)).setTable [entry10]
    (s.eighthIsDue .mark 31250 ∧ s.keys.state = .chord ∧ 63 ≤ s.keys.hold ∧ s.drive.quiescent = false
        ∧ s.player.mode = .silent ∧ s.drive.source = .chirp)
      ∧ (t.eighthIsDue .mark 31250 ∧ t.player.mode = .test ∧ t.table = [] ∧ t.drive.quiescent = false)
      ∧ (c.eighthIsDue .mark 31250 ∧ c.player.mode = .cycle ∧ c.player.wanted ≠ none ∧ c.player.sound = true
        ∧ (∃ e ∈ c.table, e.silenced = false ∧ (if e.origin = c.startup.ownAddr then (c.input e.input).request ≠ .held
            else e.state ≠ .orphaned))
        ∧ c.player.current = some 0
        ∧ c.drive.quiescent = false
        ∧ spanAt (c.library.cycle 0) ((40 % c.library.bars 0 * 16 + 2) * 8 + 1) = some (⟨4, 7, 3, .flat, 3⟩, 1)) :=
  ⟨⟨test_eighthIsDue_mark _ rfl, by decide +kernel⟩, ⟨test_eighthIsDue_mark _ rfl, by decide +kernel⟩,
    ⟨test_eighthIsDue_mark _ rfl, by decide +kernel⟩⟩

/-! ### Slots, frames and the line -/

theorem test_SlotsBegin_own :
    let s := (onLine id (fun t => { t with part := .gap1, slotTimer := 64999 }) false).setBeat
      { member.beat with beatIndex := 3#4 }
    s.running = true ∧ s.loop.part = .gap1 ∧ 65000 ≤ s.loop.slotTimer + 1
      ∧ some (2 * s.beat.beatIndex.toNat) = some s.startup.ownAddr ∧ s.startup.station = .member
      ∧ s.pins.dataLow = false ∧ s.loop.rx = none ∧ s.loop.slotTimer + 1 ≤ 65000 + 4000 := by
  decide +kernel

theorem test_SlotsBegin_open :
    let s := onLine id (fun t => { t with part := .mark }) false
    s.running = true ∧ s.loop.part = .mark ∧ 20000 ≤ s.loop.slotTimer + 20000 := by
  decide +kernel

/-- The station with one message waiting. -/
def waiting (s : State) : State :=
  s.setQueue ⟨[⟨.silence, 0, 0, false⟩], 1⟩

theorem test_OneAttempt_begins :
    let s := waiting (onLine id id false)
    s.startup.station = .member ∧ s.loop.attempt = .ahead ∧ (s.loop.part = .mark ∨ s.loop.part = .openSlot)
      ∧ s.loop.slotTimer + 20000 = 20000
      ∧ s.queue.messages = [⟨.silence, 0, 0, false⟩] ∧ s.pins.dataLow = false ∧ s.loop.rx = none := by
  decide +kernel

theorem test_OneAttempt_lineInUse :
    let s := waiting (onLine id id true)
    s.startup.station = .member ∧ s.loop.attempt = .ahead ∧ (s.loop.part = .mark ∨ s.loop.part = .openSlot)
      ∧ s.loop.slotTimer + 20000 = 20000
      ∧ s.queue.messages = [⟨.silence, 0, 0, false⟩]
      ∧ (s.pins.dataLow = true ∧ s.line.phase ≠ .start ∨ s.loop.rx ≠ none) := by
  decide +kernel

/-- R87: the own 20 ms passes on an empty queue, and a message that joins later is not sent in that slot. -/
theorem test_OneAttempt_emptyQueue :
    let s := after (.openSlotAttempt 20000) (onLine id id false)
    (onLine id id false).queue.messages = [] ∧ s.loop.attempt = .past
      ∧ (after (.openSlotAttempt 1000) (waiting s)).loop.tx = none := by
  decide +kernel

/-- R87, R88, R199: a start bit that is a disturbance leaves the own 20 ms as the attempt's moment, and nothing begins. -/
theorem test_OneAttempt_disturbance :
    let s := waiting (onLine (fun l => { l with phase := .start, byteTimer := 0, fallAt := some 19990 })
      (fun t => { t with slotTimer := 19990 }) true)
    let s := after (.openSlotAttempt 10) s
    let t := after (.bitSample 40) (s.setPins { s.pins with dataLow := false })
    s.loop.attempt = .waiting ∧ s.loop.tx = none ∧ t.line.phase = .idle ∧ t.loop.tx = none
      ∧ (after (.openSlotAttempt 0) t).loop.tx = none ∧ (after (.openSlotAttempt 3000) t).loop.tx = none := by
  decide +kernel

theorem test_SlotEnd_noOwner :
    let s := onLine id (fun t => { t with part := .owned2, slotTimer := 219999 }) false
    s.running = true ∧ s.counters = ⟨0, 0, 0, 0, 0, 0, 0⟩ ∧ s.loop.part = .owned2 ∧ 220000 ≤ s.loop.slotTimer + 1
      ∧ (s.loop.owner = none ∨ s.startup.station = .joining) := by
  decide +kernel

theorem test_SlotEnd_own :
    let s := onLine id (fun t => { t with part := .owned2, slotTimer := 219999, owner := some 6 }) false
    s.running = true ∧ s.counters = ⟨0, 0, 0, 0, 0, 0, 0⟩ ∧ s.loop.part = .owned2 ∧ 220000 ≤ s.loop.slotTimer + 1
      ∧ s.startup.station = .member ∧ s.loop.owner = some s.startup.ownAddr := by
  decide +kernel

theorem test_SlotEnd_heard :
    let s := onLine id (fun t => { t with part := .owned2, slotTimer := 219999, owner := some 5, heard := some ⟨0#8, false, false⟩ }) false
    s.running = true ∧ s.counters = ⟨0, 0, 0, 0, 0, 0, 0⟩ ∧ s.loop.part = .owned2 ∧ 220000 ≤ s.loop.slotTimer + 1
      ∧ s.startup.station = .member ∧ s.loop.owner = some 5 ∧ 5 ≠ s.startup.ownAddr
      ∧ s.loop.heard = some ⟨0#8, false, false⟩ := by
  decide +kernel

theorem test_SlotEnd_missed :
    let s := onLine id (fun t => { t with part := .owned2, slotTimer := 219999, owner := some 5 }) false
    s.running = true ∧ s.counters = ⟨0, 0, 0, 0, 0, 0, 0⟩ ∧ s.loop.part = .owned2 ∧ 220000 ≤ s.loop.slotTimer + 1
      ∧ s.startup.station = .member ∧ s.loop.owner = some 5 ∧ 5 ≠ s.startup.ownAddr ∧ s.loop.heard = none := by
  decide +kernel

theorem test_SlotEnd_peerMissing :
    let s := onLine id (fun t => { t with part := .owned2, slotTimer := 219999, owner := some 5 }) false
    s.FaultsOk :=
  ⟨by decide +kernel, by decide +kernel, by decide +kernel, by decide +kernel, by decide +kernel⟩

theorem test_FrameStart_noneWaiting :
    let s := id (onLine (fun l => { l with phase := .start, byteTimer := 49, fallAt := some 15000 }) (fun t => { t with placed := false }) true)
    s.running = true ∧ s.line.phase = .start ∧ 50 ≤ s.line.byteTimer + 1 ∧ s.pins.dataLow = true ∧ s.loop.rx = none
      ∧ s.loop.tx = none ∧ (s.startup.station ≠ .member ∨ s.queue.messages = [] ∨ s.loop.placed = true ∨ s.loop.attempt = .past
        ∨ s.line.fallAt = none) := by
  decide +kernel

theorem test_FrameStart_late :
    let s := waiting (onLine (fun l => { l with phase := .start, byteTimer := 49, fallAt := some 20000 }) (fun t => { t with placed := false }) true)
    s.running = true ∧ s.line.phase = .start ∧ 50 ≤ s.line.byteTimer + 1 ∧ s.pins.dataLow = true ∧ s.loop.rx = none
      ∧ s.loop.tx = none ∧ s.line.fallAt = some 20000 ∧ (20000 < 15000 ∨ 20000 ≤ 20000) := by
  decide +kernel

theorem test_FrameStart_aligns :
    let s := waiting (onLine (fun l => { l with phase := .start, byteTimer := 49, fallAt := some 19999 }) (fun t => { t with placed := false }) true)
    s.running = true ∧ s.line.phase = .start ∧ 50 ≤ s.line.byteTimer + 1 ∧ s.pins.dataLow = true ∧ s.loop.rx = none
      ∧ s.loop.tx = none ∧ s.line.fallAt = some 19999 ∧ 15000 ≤ 19999 ∧ 19999 < 20000 ∧ s.startup.station = .member
      ∧ s.loop.placed = false ∧ s.loop.attempt ≠ .past ∧ s.queue.messages = [⟨.silence, 0, 0, false⟩] := by
  decide +kernel

theorem test_FrameStart_ownFrame :
    let r : TxRecord := ⟨.openSlot, [0x40#8, 0x06#8, 0x28#8, 0x04#8, 0xFC#8], 0, 0, 49, false, .sending⟩
    let s := onLine (fun l => { l with phase := .start, byteTimer := 49, fallAt := some 20000 })
      (fun u => { u with placed := false, attempt := .past, tx := some r }) true
    s.running = true ∧ s.line.phase = .start ∧ 50 ≤ s.line.byteTimer + 1 ∧ s.pins.dataLow = true ∧ s.loop.rx = none
      ∧ s.loop.tx = some r ∧ r.outcome = .sending ∧ r.sampled = false ∧ r.bit = 0 ∧ r.byte < r.bytes.length
      ∧ 50 ≤ r.bitTimer + 1 ∧ s.loop.attempt = .past ∧ s.line.fallAt = some 20000 ∧ (20000 < 15000 ∨ 20000 ≤ 20000) := by
  decide +kernel

theorem test_FrameStart_abandoned :
    let r : TxRecord := ⟨.openSlot, [0x40#8, 0x06#8, 0x28#8, 0x04#8, 0xFC#8], 0, 0, 49, false, .abandoned⟩
    let s := onLine (fun l => { l with phase := .start, byteTimer := 49, fallAt := some 20000 })
      (fun u => { u with placed := false, tx := some r }) true
    s.running = true ∧ s.line.phase = .start ∧ s.pins.dataLow = true ∧ s.loop.rx = none ∧ s.loop.tx = some r
      ∧ (r.outcome ≠ .sending ∨ r.sampled = true ∨ r.bytes.length ≤ r.byte ∨ r.bitTimer + 1 < 100 * r.bit + 50) := by
  decide +kernel

/-- R186: the select byte 0xA0 begins with a recessive bit, then a dominant one, and its acknowledge bit is the
memory's. -/
theorem test_selectByte :
    let s := fun t => startingAt .reading t []
    let good := smallImage.take 7
    (s 0).memoryData good = some .released ∧ (s 10).memoryData good = some .low ∧ (s 80).memoryData good = some .released
      ∧ (s 440).memoryData good = some .low ∧ (s 980).memoryData good = some .low
      ∧ (s 980).memoryData (List.replicate 7 0#8) = some .released := by
  decide +kernel

/-- R186: a start before the first byte, a repeated start before the fourth, and CFG_CLK low as each byte begins. -/
theorem test_memoryConditions :
    let s := fun t => startingAt .reading t []
    (s 0).memoryCondition = some .start ∧ (s 90).memoryCondition = none ∧ (s 270).memoryCondition = some .repeatedStart
      ∧ (s 270).memoryByte = some (.sent 0xA1#8) ∧ (s 360).memoryByte = some (.read 0) := by
  decide +kernel

/-- R186: what passes on the lines in a read of two bytes, and in one that ends at its second select byte. -/
theorem test_memoryTraffic :
    readTraffic 2 = [.condition .start, .byte (.sent 0xA0#8), .byte (.sent 0x00#8), .byte (.sent 0x00#8),
        .condition .repeatedStart, .byte (.sent 0xA1#8), .byte (.read 0), .byte (.read 1), .condition .stop]
      ∧ unacknowledgedTraffic 0 = [.condition .start, .byte (.sent 0xA0#8), .condition .stop] := by
  decide +kernel

/-- R186, R193: a read that a cutoff breaks off has no stop, and leaves both lines released. -/
theorem test_memoryReleased :
    let s := (startingAt .reading 270 []).setStartup
      ({ State.reset.startup with step := .reading, stepTimer := 270, memoryBusy := true } : Startup).enterQuiescent
    s.memoryCondition = none ∧ s.cfgClk = true ∧ s.memoryData [] = none := by
  decide +kernel

/-- The station about to sample the last stop bit of a frame in a slot. -/
def frameAtItsEnd (slot : Slot) (f : Frame) : State :=
  onLine (fun l => { l with phase := .stop, byteTimer := 949, shift := f.bytes.getLastD 0#8 })
    (fun t => { t with rx := some ⟨some slot, some 20000, f.bytes.dropLast, true⟩ }) false

/-- A RAISE, a CLEAR, a STATUS, a SILENCE and a RESTORE of station 10. -/
def raise10 : Frame := ⟨.raise, 10, false, false, 40#8, 2#4, 0#8, [⟨2, 12, 4, false, false⟩]⟩
def clear10 : Frame := ⟨.clear, 10, false, false, 40#8, 2#4, 0#8, [⟨2, 12, 4, false, false⟩]⟩
def status10 : Frame := ⟨.status, 10, false, false, 41#8, 2#4, 0#8, [⟨2, 12, 4, false, false⟩]⟩
def silence10 : Frame := ⟨.silence, 10, false, false, 40#8, 2#4, 0#8, []⟩
def restore10 : Frame := ⟨.restore, 10, false, false, 40#8, 2#4, 0#8, []⟩

theorem test_RaiseFrame_ends : (frameAtItsEnd .openSlot raise10).framesEnd .openSlot raise10 1 :=
  ⟨by decide +kernel, by decide +kernel, by decide +kernel, by decide +kernel, by decide +kernel, by decide +kernel,
    (by intro r h; change (none : Option TxRecord) = some r at h; cases h), some 20000, raise10.bytes.dropLast, rfl, by decide +kernel⟩

/-- Sections 6.2 and 6.6: a RAISE heard while an output test plays ends it, and the player is given the new head. -/
theorem test_RaiseFrame_handsOn :
    let s := ((frameAtItsEnd .openSlot raise10).setPlayer ⟨.test, none, none, false, 0, 0, false, 1, false⟩).setDrive
      { member.drive with source := .test, tone := 7, envelopeLevel := 1, level := 1, intensity := 2, beaconLevel := 2 }
    let t := after (.raiseFrame 1) s
    s.table = [] ∧ t.table.length = 1
      ∧ t.player = ⟨.silent, none, some (s.library.patternOf 12), true, 0, 0, false, 1, true⟩
      ∧ t.drive.source = .none ∧ t.drive.intensity = 0 ∧ t.drive.beaconLevel = 0 ∧ t.port.attn = true := by
  decide +kernel

theorem test_ClearFrame_ends : (frameAtItsEnd .openSlot clear10).framesEnd .openSlot clear10 1 :=
  ⟨by decide +kernel, by decide +kernel, by decide +kernel, by decide +kernel, by decide +kernel, by decide +kernel,
    (by intro r h; change (none : Option TxRecord) = some r at h; cases h), some 20000, clear10.bytes.dropLast, rfl, by decide +kernel⟩

theorem test_StatusFrame_ends : (frameAtItsEnd .owned1 status10).framesEnd .owned1 status10 1 :=
  ⟨by decide +kernel, by decide +kernel, by decide +kernel, by decide +kernel, by decide +kernel, by decide +kernel,
    (by intro r h; change (none : Option TxRecord) = some r at h; cases h), some 20000, status10.bytes.dropLast, rfl, by decide +kernel⟩

theorem test_SilenceFrame_ends : (frameAtItsEnd .openSlot silence10).framesEnd .openSlot silence10 1 :=
  ⟨by decide +kernel, by decide +kernel, by decide +kernel, by decide +kernel, by decide +kernel, by decide +kernel,
    (by intro r h; change (none : Option TxRecord) = some r at h; cases h), some 20000, silence10.bytes.dropLast, rfl, by decide +kernel⟩

theorem test_RestoreFrame_ends : (frameAtItsEnd .openSlot restore10).framesEnd .openSlot restore10 1 :=
  ⟨by decide +kernel, by decide +kernel, by decide +kernel, by decide +kernel, by decide +kernel, by decide +kernel,
    (by intro r h; change (none : Option TxRecord) = some r at h; cases h), some 20000, restore10.bytes.dropLast, rfl, by decide +kernel⟩

theorem test_RaiseFrame_new :
    let s := frameAtItsEnd .openSlot raise10
    s.framesEnd .openSlot raise10 1 ∧ raise10.kind = .raise ∧ TableOk s.table ∧ s.counters.Ok
      ∧ raise10.sender ≠ s.startup.ownAddr ∧ raise10.items = [⟨2, 12, 4, false, false⟩]
      ∧ (∀ e ∈ s.table, (e.origin == 10 && e.input == 2) = false) ∧ s.table.length < 16 :=
  ⟨test_RaiseFrame_ends, rfl, ⟨by decide, List.Pairwise.nil⟩, by unfold Counters.Ok; decide +kernel,
    by decide +kernel, rfl, by decide +kernel, by decide +kernel⟩

theorem test_RaiseFrame_refreshed :
    let s := (frameAtItsEnd .openSlot raise10).setTable [entry10]
    entry10 ∈ s.table ∧ (entry10.origin == 10 && entry10.input == 2) = true ∧ TableOk s.table :=
  ⟨by decide +kernel, by decide +kernel, by decide, List.pairwise_singleton _ _⟩

/-- A full table of foreign entries in rank order. -/
def fullTable : List Entry :=
  (List.range 16).map fun n => ⟨20 + n, 3, 11, n, .active, false, false, 0, 0#8, 0#4⟩

theorem test_RaiseFrame_full :
    let s := (frameAtItsEnd .openSlot raise10).setTable fullTable
    (∀ e ∈ s.table, (e.origin == 10 && e.input == 2) = false) ∧ 16 ≤ s.table.length
      ∧ (s.table.filter fun e => e.origin != s.startup.ownAddr).getLast?
        = some ⟨35, 3, 11, 15, .active, false, false, 0, 0#8, 0#4⟩
      ∧ TableOk s.table := by
  refine ⟨by decide +kernel, by decide +kernel, by decide +kernel, by decide +kernel, ?_⟩
  simp only [Entry.otherKey]
  decide +kernel

theorem test_RaiseFrame_ownAddress :
    let s := (frameAtItsEnd .openSlot raise10).setStartup { member.startup with ownAddr := 10 }
    raise10.sender = s.startup.ownAddr := rfl

theorem test_StatusFrame :
    let s := frameAtItsEnd .owned1 status10
    s.framesEnd .owned1 status10 1 ∧ status10.kind = .status ∧ status10.sender ≠ s.startup.ownAddr
      ∧ s.beat.lock ≠ .halted ∧ TableOk s.table ∧ s.counters.Ok ∧ s.loop.owner ≠ some status10.sender
      ∧ s.table.length + status10.items.length ≤ 16 ∧ (status10.items.map Item.input).Nodup :=
  ⟨test_StatusFrame_ends, rfl, by decide +kernel, by decide +kernel, ⟨by decide, List.Pairwise.nil⟩,
    by unfold Counters.Ok; decide +kernel, by decide +kernel, by decide +kernel,
    by decide +kernel⟩

/-- Section 2.3: a STATUS item for a full table takes the place of the last foreign entry and is counted. -/
theorem test_StatusFrame_full :
    let s := (frameAtItsEnd .owned1 status10).setTable fullTable
    let t := after (.statusFrame 1) s
    t.table.length = 16 ∧ t.counters.tableOvf = 1 ∧ t.faults = 0x80#8 ∧ headOf t.table = some (10, 2, 12, 4)
      ∧ t.table.drop 1 = fullTable.take 15 := by
  decide +kernel

theorem test_StatusFrame_owner :
    let s := (frameAtItsEnd .owned1 status10).setLoop
      { (frameAtItsEnd .owned1 status10).loop with owner := some 10 }
    s.loop.owner = some status10.sender := rfl

theorem test_StatusFrame_ownAddress :
    let s := (frameAtItsEnd .owned1 status10).setStartup { member.startup with ownAddr := 10 }
    status10.sender = s.startup.ownAddr := rfl

theorem test_SilenceFrame_soundStops :
    let s := ((frameAtItsEnd .openSlot silence10).setPlayer ⟨.cycle, some 0, some 0, false, 0, 0, false, 0, true⟩).setDrive
      { member.drive with source := .pattern }
    silence10.kind = .silence ∧ s.player.sound = true ∧ (s.player.mode = .intro ∨ s.player.mode = .cycle)
      ∧ s.drive.source = .pattern := by
  decide +kernel

theorem test_SilenceFrame_chirp :
    let s := ((frameAtItsEnd .openSlot silence10).setPlayer ⟨.cycle, some 0, some 0, false, 0, 0, false, 0, true⟩).setDrive
      { member.drive with source := .chirp, tone := 10, level := 1, chirpTimer := some 0, behind := some ⟨0, 3, .flat, 1⟩ }
    silence10.kind = .silence ∧ s.player.sound = true ∧ (s.player.mode = .intro ∨ s.player.mode = .cycle)
      ∧ s.drive.source = .chirp ∧ silence10.sender ≠ s.startup.ownAddr ∧ s.startup.station = .member := by
  decide +kernel

theorem test_RestoreFrame :
    let s := frameAtItsEnd .openSlot restore10
    s.framesEnd .openSlot restore10 1 ∧ restore10.kind = .restore ∧ restore10.sender ≠ s.startup.ownAddr ∧ s.FaultsOk :=
  ⟨test_RestoreFrame_ends, rfl, by decide +kernel, by decide +kernel, by decide +kernel, by decide +kernel,
    by decide +kernel, by decide +kernel⟩

theorem test_RestoreFrame_ownAddress :
    let s := (frameAtItsEnd .openSlot restore10).setStartup { member.startup with ownAddr := 10 }
    restore10.sender = s.startup.ownAddr ∧ s.FaultsOk :=
  ⟨rfl, by decide +kernel, by decide +kernel, by decide +kernel, by decide +kernel, by decide +kernel⟩

theorem test_GapEnds_both :
    let idle := onLine (fun l => { l with phase := .gap, gapLead := 50 }) id false
    let busy := idle.setLoop { idle.loop with rx := some ⟨none, none, [0x40#8], true⟩ }
    idle.counters.Ok ∧ idle.line.phase = .gap ∧ 100 < idle.line.gapTimer + (151 - idle.line.gapLead) ∧ idle.loop.rx = none
      ∧ busy.loop.rx = some ⟨none, none, [0x40#8], true⟩ :=
  ⟨by unfold Counters.Ok; decide +kernel, rfl, by decide, rfl, rfl⟩

/-- The station sending a SILENCE, at a bit of a byte. -/
def sending (byte bit time : Nat) (sampled low : Bool) : State :=
  onLine id (fun t => { t with
    tx := some ⟨.openSlot, [0x40#8, 0x06#8, 0x28#8, 0x04#8, 0xFC#8], byte, bit, time, sampled, .sending⟩ }) low

theorem test_ReadBackMismatch_dominantReadRecessive :
    let s := sending 1 1 149 false false
    let r : TxRecord := ⟨.openSlot, [0x40#8, 0x06#8, 0x28#8, 0x04#8, 0xFC#8], 1, 1, 149, false, .sending⟩
    s.counters.Ok ∧ s.line.phase ≠ .stop ∧ (s.line.phase = .start → s.pins.dataLow = false) ∧ s.loop.tx = some r
      ∧ r.byte < r.bytes.length ∧ 100 * r.bit + 50 ≤ r.bitTimer + 1
      ∧ bitLevel (r.bytes.getD r.byte 0#8) r.bit = s.pins.dataLow :=
  ⟨by unfold Counters.Ok; decide +kernel, by decide +kernel, by decide +kernel, rfl, by decide +kernel,
    by decide +kernel, by decide +kernel⟩

theorem test_ReadBackMismatch_recessiveReadDominant :
    let s := sending 1 9 950 false true
    bitLevel (0x06#8) 9 = s.pins.dataLow ∧ 100 * 9 + 50 ≤ 950 + 0 := by
  decide +kernel

theorem test_CleanStopBit :
    let s := sending 4 9 949 false false
    let r : TxRecord := ⟨.openSlot, [0x40#8, 0x06#8, 0x28#8, 0x04#8, 0xFC#8], 4, 9, 949, false, .sending⟩
    s.loop.tx = some r ∧ r.bit = 9 ∧ r.byte + 1 = r.bytes.length ∧ 950 ≤ r.bitTimer + 1 ∧ s.pins.dataLow = false
      ∧ s.line.phase ≠ .stop := by
  decide +kernel

/-- Station 10 about to sample the last stop bit of its own frame. -/
def ownAtItsEnd (slot : Slot) (owner : Option Nat) (f : Frame) : State :=
  let s := (frameAtItsEnd slot f).setStartup { member.startup with ownAddr := 10 }
  s.setLoop { s.loop with owner := owner, tx := some ⟨slot, f.bytes, f.bytes.length - 1, 9, 949, false, .sending⟩ }

theorem test_CleanStopBit_ownStatus :
    let s := ownAtItsEnd .owned1 (some 10) status10
    s.ownFramesEnd .owned1 status10 1 ∧ s.beat.lock ≠ .halted ∧ s.pins.dataLow = false :=
  ⟨⟨by decide +kernel, by decide +kernel, by decide +kernel, by decide +kernel, by decide +kernel, by decide +kernel,
    by decide +kernel, ⟨_, rfl, rfl, rfl⟩, some 20000, status10.bytes.dropLast, rfl, by decide +kernel⟩, by decide +kernel⟩

theorem test_CleanStopBit_ownRestore :
    (ownAtItsEnd .openSlot none restore10).ownFramesEnd .openSlot restore10 1 ∧ restore10.kind = .restore :=
  ⟨⟨by decide +kernel, by decide +kernel, by decide +kernel, by decide +kernel, by decide +kernel, by decide +kernel,
    by decide +kernel, ⟨_, rfl, rfl, rfl⟩, some 20000, restore10.bytes.dropLast, rfl, by decide +kernel⟩, rfl⟩

theorem test_EdgesOfData_each :
    let s1 := onLine (fun l => { l with lowTimer := 1 }) id true
    let s2 := onLine id id true
    let s3 := member.setPins ⟨false, false, 2, 0, .high⟩
    (member.pins.dataLow = false ∧ 2 ≤ member.pins.dataHeld + 0 ∧ member.running = true)
      ∧ (State.reset.pins.dataLow = false ∧ 2 ≤ State.reset.pins.dataHeld + 0 ∧ State.reset.running = false)
      ∧ (s3.pins.dataHeld + 1 < 2 ∧ 2 ≤ s3.pins.dataHeld + 2) ∧ (s2.pins.dataLow = true ∧ 2 ≤ s2.pins.dataHeld + 0)
      ∧ (s1.running = true ∧ s1.pins.dataLow = true ∧ s1.line.stuckTold = false ∧ 2000 < s1.line.lowTimer + 2000)
      ∧ (s2.pins.dataLow = true ∧ (s2.line.stuckTold = true ∨ s2.line.lowTimer + 2000 ≤ 2000)) := by
  decide +kernel

/-- Section 11.2: a fall 1 µs after the line's rise is not seen, one 2 µs after it is. -/
theorem test_EdgesOfData_filter :
    let s := member.setPins ⟨false, false, 2, 0, .high⟩
    after (.dataFall 1) s = s.elapse 1 ∧ (after (.dataFall 2) s).line.phase = .start
      ∧ (after (.dataFall 2) s).pins = ⟨false, true, 2, 0, .high⟩ := by
  decide +kernel

theorem test_BitsGoInAndOut_each :
    let s1 := onLine (fun l => { l with phase := .bits, bitCount := 7, byteTimer := 849 }) id true
    let s2 := onLine (fun l => { l with phase := .start, byteTimer := 49 }) id false
    let s3 := sending 0 2 249 false false
    let s4 := sending 0 9 999 true false
    (s1.running = true ∧ s1.line.phase = .bits ∧ 150 + 100 * s1.line.bitCount ≤ s1.line.byteTimer + 1 ∧ s1.loop.tx = none)
      ∧ (s2.running = true ∧ s2.line.phase = .start ∧ 50 ≤ s2.line.byteTimer + 1 ∧ s2.pins.dataLow = false)
      ∧ (s3.line.phase = .idle ∧ 100 * 2 + 50 ≤ 249 + 1 ∧ bitLevel 0x40#8 2 = !s3.pins.dataLow ∧ ¬ (2 = 9 ∧ 0 + 1 = 5))
      ∧ (s4.loop.tx = some ⟨.openSlot, [0x40#8, 0x06#8, 0x28#8, 0x04#8, 0xFC#8], 0, 9, 999, true, .sending⟩
          ∧ 100 * (9 + 1) ≤ 999 + 1) := by
  decide +kernel

/-- The station sending a SILENCE and receiving it, at a bit whose sample both halves reach after 1 µs, with the byte
before it received. -/
def sendingAndReceiving (phase : RxPhase) (bit : Nat) (outcome : TxOutcome) (low : Bool) : State :=
  onLine (fun l => { l with phase := phase, bitCount := bit - 1, byteTimer := 100 * bit + 49 })
    (fun u => { u with
      rx := some ⟨some .openSlot, some 20000, [0x40#8], true⟩
      tx := some ⟨.openSlot, silence10.bytes, 1, bit, 100 * bit + 49, false, outcome⟩ }) low

theorem test_BitsGoInAndOut_bothHalves :
    let start := sendingAndReceiving .start 0 .sending true
    let bits := sendingAndReceiving .bits 1 .sending true
    let stop := sendingAndReceiving .stop 9 .sending false
    (start.loop.tx = some ⟨.openSlot, silence10.bytes, 1, 0, 49, false, .sending⟩ ∧ start.running = true
        ∧ start.line.phase = .start ∧ 50 ≤ start.line.byteTimer + 1 ∧ start.pins.dataLow = true ∧ start.loop.rx ≠ none
        ∧ bitLevel (silence10.bytes.getD 1 0#8) 0 = !start.pins.dataLow)
      ∧ (bits.loop.tx = some ⟨.openSlot, silence10.bytes, 1, 1, 149, false, .sending⟩ ∧ bits.line.phase = .bits
        ∧ 150 + 100 * bits.line.bitCount ≤ bits.line.byteTimer + 1
        ∧ bitLevel (silence10.bytes.getD 1 0#8) 1 = !bits.pins.dataLow)
      ∧ (stop.loop.tx = some ⟨.openSlot, silence10.bytes, 1, 9, 949, false, .sending⟩ ∧ stop.line.phase = .stop
        ∧ 950 ≤ stop.line.byteTimer + 1 ∧ bitLevel (silence10.bytes.getD 1 0#8) 9 = !stop.pins.dataLow
        ∧ expectedLength ([0x40#8] ++ [stop.line.shift]) ≠ some 2) := by
  decide +kernel

theorem test_BitsGoInAndOut_mismatch :
    let dominant := sendingAndReceiving .bits 1 .sending false
    let recessive := sendingAndReceiving .stop 9 .sending true
    bitLevel (silence10.bytes.getD 1 0#8) 1 = dominant.pins.dataLow
      ∧ bitLevel (silence10.bytes.getD 1 0#8) 9 = recessive.pins.dataLow ∧ 100 * 9 + 50 ≤ 949 + 1 := by
  decide +kernel

theorem test_BitsGoInAndOut_lastStopBit :
    let s := sending 4 9 949 false false
    s.loop.tx = some ⟨.openSlot, [0x40#8, 0x06#8, 0x28#8, 0x04#8, 0xFC#8], 4, 9, 949, false, .sending⟩ ∧ 4 + 1 = ([0x40#8, 0x06#8, 0x28#8, 0x04#8, 0xFC#8] : List Byte).length
      ∧ bitLevel (([0x40#8, 0x06#8, 0x28#8, 0x04#8, 0xFC#8] : List Byte).getD 4 0#8) 9 = !s.pins.dataLow := by
  decide +kernel

theorem test_BitsGoInAndOut_abandoned :
    let s := sendingAndReceiving .bits 1 .abandoned true
    s.running = true ∧ s.line.phase = .bits ∧ 150 + 100 * s.line.bitCount ≤ s.line.byteTimer + 1
      ∧ s.loop.tx = some ⟨.openSlot, silence10.bytes, 1, 1, 149, false, .abandoned⟩ := by
  decide +kernel

theorem test_BitsGoInAndOut_notDue :
    let start := onLine (fun l => { l with phase := .start, byteTimer := 49 }) id true
    let bits := onLine (fun l => { l with phase := .bits, bitCount := 7, byteTimer := 849 }) id true
    let stop := onLine (fun l => { l with phase := .stop, byteTimer := 949 }) id true
    (start.line.phase = .start ∧ start.line.byteTimer + 0 < 50)
      ∧ (bits.line.phase = .bits ∧ bits.line.byteTimer + 0 < 150 + 100 * bits.line.bitCount)
      ∧ (stop.line.phase = .stop ∧ stop.line.byteTimer + 0 < 950) := by
  decide +kernel

/-- The station about to sample the stop bit of a byte, with the bytes of a frame before it. -/
def stopBit (slot : Option Slot) (first : List Byte) (last : Byte) (low : Bool) : State :=
  onLine (fun l => { l with phase := .stop, byteTimer := 949, shift := last })
    (fun t => { t with rx := some ⟨slot, some 20000, first, true⟩ }) low

theorem test_BitsGoInAndOut_stop :
    let s := stopBit (some .openSlot) [0x26#8, 0x0A#8, 0x28#8, 0x12#8] 0x40#8 false
    let bytes : List Byte := [0x26#8, 0x0A#8, 0x28#8, 0x12#8, 0x40#8]
    s.running = true ∧ s.counters.Ok ∧ s.line.phase = .stop ∧ 950 ≤ s.line.byteTimer + 1 ∧ s.loop.tx = none
      ∧ s.loop.rx = some ⟨some .openSlot, some 20000, [0x26#8, 0x0A#8, 0x28#8, 0x12#8], true⟩
      ∧ expectedLength bytes ≠ some bytes.length ∧ byteAt bytes 0 ≠ 0x80#8 ∧ bitsOf s.line.shift 0 6 = 0 :=
  ⟨by decide +kernel, by unfold Counters.Ok; decide +kernel, by decide +kernel, by decide +kernel, by decide +kernel,
    by decide +kernel, by decide +kernel, by decide +kernel, by decide +kernel⟩

/-- R63: an item's first byte with cue number 0 makes the frame INVALID at that byte. -/
theorem test_item_of_cue_0_marks_the_frame :
    (after (.bitSample 1) (stopBit (some .openSlot) [0x26#8, 0x0A#8, 0x28#8, 0x12#8] 0x40#8 false)).loop.rx
      = some ⟨some .openSlot, some 20000, [0x26#8, 0x0A#8, 0x28#8, 0x12#8, 0x40#8], false⟩ := by
  decide +kernel

theorem test_BitsGoInAndOut_noFrame :
    let s := onLine (fun l => { l with phase := .stop, byteTimer := 950 }) id true
    s.line.phase = .stop ∧ s.loop.tx = none ∧ s.loop.rx = none ∧ s.pins.dataLow = true := by
  decide +kernel

theorem test_BitsGoInAndOut_misplaced :
    let s := stopBit none silence10.bytes.dropLast (silence10.bytes.getLastD 0#8) false
    s.loop.rx = some ⟨none, some 20000, silence10.bytes.dropLast, true⟩
      ∧ expectedLength (silence10.bytes.dropLast ++ [s.line.shift]) = some 5 ∧ silence10.bytes.length = 5 := by
  decide +kernel

theorem test_BitsGoInAndOut_invalid :
    let s := stopBit (some .openSlot) silence10.bytes.dropLast 0x00#8 false
    let bytes := silence10.bytes.dropLast ++ [s.line.shift]
    expectedLength bytes = some bytes.length ∧ crc8 bytes ≠ 0#8 ∧ parseFrame bytes = none := by
  decide +kernel

theorem test_BitsGoInAndOut_wrongSlot :
    let s := stopBit (some .owned1) silence10.bytes.dropLast (silence10.bytes.getLastD 0#8) false
    let bytes := silence10.bytes.dropLast ++ [s.line.shift]
    expectedLength bytes = some bytes.length ∧ s.pins.dataLow = false ∧ parseFrame bytes = some silence10
      ∧ slotAllowed silence10.kind .owned1 = false := by
  decide +kernel

/-- R69: the own address in a frame of a kind that its slot does not allow is a conflict, and the owned slot sees it. -/
theorem test_wrongSlot_conflict :
    let s := (stopBit (some .owned1) silence10.bytes.dropLast (silence10.bytes.getLastD 0#8) false).setStartup
      { member.startup with ownAddr := 10 }
    let t := after (.bitSample 1) s
    silence10.sender = s.startup.ownAddr ∧ t.counters.misplaced = 1 ∧ t.faults = 0x02#8 ∧ t.loop.conflictSeen = true := by
  decide +kernel

/-! ### Converter, supply, inputs, keys and drives -/

/-- The station with a conversion that completes after 1 µs. -/
def converting (a : Conversion) (discard : Bool) : State :=
  member.setConverter ⟨a, 249, discard, false, false, none⟩

/-- The station with its supply monitor changed, at the completion of a supply sample. -/
def sampling (f : Supply → Supply) : State :=
  (converting .supply false).setSupply (f member.supply)

/-- R196: the reading is the voltage over 2.50 V, times 256, taken down, and 255 above full scale. -/
theorem test_reading :
    readingOf 0 = 0#8 ∧ readingOf 9765 = 0#8 ∧ readingOf 9766 = 1#8 ∧ readingOf 1250000 = 128#8
      ∧ readingOf 2499999 = 255#8 ∧ readingOf 2500000 = 255#8 ∧ readingOf 3300000 = 255#8 := by
  decide +kernel

theorem test_ScanAndSupplyRequests_each :
    let s1 := member.setScanner ⟨7, some 1249⟩
    let s2 := sampling fun m => { m with ownTimer := some 249999 }
    (s1.running = true ∧ s1.scanner.timer = some 1249 ∧ 1250 ≤ 1249 + 1)
      ∧ (s2.supply.ownTimer = some 249999 ∧ 250000 ≤ 249999 + 1) := by
  decide +kernel

theorem test_ConversionHands_discarded :
    let s := converting (.scan 0) true
    s.converter.activity ≠ .idle ∧ 250 ≤ s.converter.time + 1 ∧ s.converter.discard = true := by
  decide +kernel

theorem test_ConversionHands_disabled :
    let s := converting (.scan 7) false
    s.converter.activity ≠ .idle ∧ 250 ≤ s.converter.time + 1 ∧ s.converter.discard = false
      ∧ s.converter.activity = .scan 7 ∧ (s.running = false ∨ (s.binding 7).enabled = false) := by
  decide +kernel

theorem test_ConversionHands_enabled :
    let s := (converting (.scan 7) false).setBindings (List.replicate 8 ⟨true, true, 0, ⟨1, 1, false⟩⟩)
    s.converter.activity = .scan 7 ∧ s.running = true ∧ (s.binding 7).enabled = true := by
  decide +kernel

theorem test_ConversionHands_supply :
    let s := sampling fun m => { m with lowRun := 2 }
    s.converter.activity = .supply ∧ s.converter.discard = false ∧ s.supply.condition = .normal
      ∧ min 4 (s.supply.zeroRun + 1) < 4 ∧ min 4 (s.supply.lowRun + 1) < 4 := by
  decide +kernel

theorem test_SupplyCondition_low :
    let s := sampling fun m => { m with lowRun := 3, zeroRun := 2 }
    s.converter.activity = .supply ∧ s.converter.discard = false ∧ 250 ≤ s.converter.time + 1
      ∧ s.supply.condition = .normal ∧ (readingOf 0).toNat < 96 ∧ 3 ≤ s.supply.lowRun
      ∧ (32 ≤ (readingOf 0).toNat ∨ s.supply.zeroRun < 3) := by
  decide +kernel

theorem test_SupplyCondition_normal :
    let s := sampling fun m => { m with condition := .low, highRun := 3 }
    s.converter.activity = .supply ∧ s.converter.discard = false ∧ 250 ≤ s.converter.time + 1
      ∧ s.supply.condition = .low ∧ 96 ≤ (readingOf 937500).toNat ∧ 3 ≤ s.supply.highRun := by
  decide +kernel

theorem test_Cutoff :
    let s := sampling fun m => { m with zeroRun := 3 }
    s.converter.activity = .supply ∧ s.converter.discard = false ∧ 250 ≤ s.converter.time + 1
      ∧ s.supply.condition ≠ .cutoff ∧ min 255 (312499 * 256 / 2500000) < 32 ∧ 3 ≤ s.supply.zeroRun := by
  decide +kernel

/-- The same with a scan request waiting, and with a supply request. -/
theorem test_Cutoff_pending :
    let s := fun (scan : Option Nat) (supply : Bool) =>
      (sampling fun m => { m with zeroRun := 3 }).setConverter ⟨.supply, 249, false, false, supply, scan⟩
    (s (some 0) false).converter.activity = .supply ∧ (s (some 0) false).converter.discard = false
      ∧ (after (.cutoff 1 312499) (s (some 0) false)).converter.activity = .idle
      ∧ (after (.cutoff 1 312499) (s (some 0) false)).converter.pendingScan = none
      ∧ (after (.cutoff 1 312499) (s none true)).converter.activity = .supply := by
  decide +kernel

theorem test_Recovery_each :
    let s := sampling fun m => { m with condition := .cutoff, recoveryRun := 3 }
    let c := s.setStartup { member.startup with station := .quiescent, validity := .notLoaded }
    s.converter.activity = .supply ∧ s.converter.discard = false ∧ 250 ≤ s.converter.time + 1
      ∧ s.supply.condition = .cutoff ∧ 64 ≤ min 255 (625000 * 256 / 2500000) ∧ 3 ≤ s.supply.recoveryRun
      ∧ s.startup.validity ≠ .notLoaded ∧ c.startup.validity = .notLoaded := by
  decide +kernel

/-- The station with input 3 about to be qualified. -/
def qualifying (x : Input) : State :=
  (member.setInputs (member.inputs.set 3 x)).setBindings (List.replicate 8 ⟨true, true, 0, ⟨5, 3, false⟩⟩)

theorem test_Qualification_rises :
    let s := qualifying ⟨.active, some 19999, .normal, false, .idle, none⟩
    s.running = true ∧ 3 < 8 ∧ TableOk s.table ∧ s.FaultsOk ∧ (s.input 3).timer = some 19999
      ∧ [20000, 100000, 500000, 2000000].getD (s.binding 3).code 2000000 ≤ 19999 + 1
      ∧ (s.input 3).candidate = .active ∧ (s.input 3).request = .idle ∧ s.table.length < 16
      ∧ s.queue.messages.length < 6 :=
  ⟨by decide +kernel, by decide, ⟨by decide, List.Pairwise.nil⟩,
    ⟨by decide +kernel, by decide +kernel, by decide +kernel, by decide +kernel, by decide +kernel⟩, by decide +kernel⟩

theorem test_Qualification_withdraws :
    let s := (qualifying ⟨.normal, some 20000, .active, false, .raised, none⟩).setTable
      [⟨5, 3, 6, 3, .active, false, false, 0, 40#8, 2#4⟩]
    (s.input 3).candidate = .normal ∧ (s.input 3).request = .raised ∧ (s.binding 3).request.latched = false
      ∧ (∃ e ∈ s.table, (e.origin == s.startup.ownAddr && e.input == 3) = true)
      ∧ (∀ m ∈ s.queue.messages, m.news.isRaiseOf 3 = false) ∧ s.queue.messages.length < 6 := by
  decide +kernel

/-- A queue of six messages in line order: five RAISE and a RESTORE. -/
def fullQueue : TxQueue :=
  ⟨(List.range 5).map (fun n => ⟨.raise n ⟨1, 7, false⟩, n, 0, false⟩) ++ [⟨.restore, 5, 0, false⟩], 6⟩

theorem test_fullQueue_inOrder : fullQueue.inOrder := by
  unfold TxQueue.inOrder; decide +kernel

theorem test_Qualification_full :
    let s := ((qualifying ⟨.active, some 19999, .normal, false, .idle, none⟩).setTable fullTable).setQueue fullQueue
    (∀ e ∈ s.table, (e.origin == s.startup.ownAddr && e.input == 3) = false) ∧ 16 ≤ s.table.length
      ∧ s.counters = ⟨0, 0, 0, 0, 0, 0, 0⟩
      ∧ (s.table.filter fun e => e.origin != s.startup.ownAddr).getLast?
        = some ⟨35, 3, 11, 15, .active, false, false, 0, 0#8, 0#4⟩
      ∧ s.queue = fullQueue := by
  decide +kernel

theorem test_Qualification_lineFault :
    let s := qualifying ⟨.opened, some 1999999, .normal, false, .raised, none⟩
    (s.input 3).timer = some 1999999 ∧ 2000000 ≤ 1999999 + 1
      ∧ ¬ ((s.input 3).candidate = .active ∧ (s.input 3).request = .idle)
      ∧ ¬ ((s.input 3).candidate = .normal ∧ (s.input 3).request = .raised) := by
  decide +kernel

/-- The station with one key's debounce about to expire. -/
def debouncing (ack test : KeyLine) (k : KeyState) : State :=
  member.setKeys ⟨ack, test, k, 0⟩

/-- The expiry of a press and of a release, and the cold starts that a held key goes through. -/
theorem test_KeyLevelsAreDebounced :
    let s1 := debouncing ⟨true, false, some 19999⟩ ⟨false, false, none⟩ .idle
    let s2 := debouncing ⟨false, false, none⟩ ⟨false, true, some 20000⟩ .testDown
    let s3 := (debouncing ⟨true, false, none⟩ ⟨false, true, none⟩ .idle).setPins { member.pins with rst := .timing 999 }
    let s4 := ((sampling fun m => { m with condition := .cutoff, recoveryRun := 3 }).setStartup
      { member.startup with station := .quiescent, validity := .notLoaded })
    ((s1.keys.line .ack).timer = some 19999 ∧ 19999 + 1 = 20000 ∧ (s1.keys.line .ack).raw = true
        ∧ (s1.keys.line .ack).debounced ≠ true ∧ s1.running = true ∧ s1.keys.state = .idle)
      ∧ ((s2.keys.line .test).timer = some 20000 ∧ (s2.keys.line .test).debounced ≠ false ∧ s2.keys.state = .testDown)
      ∧ (s3.pins.rst = .timing 999 ∧ (s3.keys.line .ack).raw = true ∧ (s3.keys.line .test).raw = false)
      ∧ (s4.converter.activity = .supply ∧ s4.converter.discard = false ∧ s4.converter.time + 1 = 250
        ∧ s4.supply.condition = .cutoff ∧ 64 ≤ (readingOf 625000).toNat ∧ 3 ≤ s4.supply.recoveryRun
        ∧ s4.startup.validity = .notLoaded) := by
  decide +kernel

theorem test_DebouncedKeys_press :
    let s := debouncing ⟨true, false, some 19999⟩ ⟨true, true, none⟩ .testDown
    (s.keys.line .ack).timer = some 19999 ∧ 20000 ≤ 19999 + 1 ∧ s.running = true ∧ (s.keys.line .ack).raw = true := by
  decide +kernel

theorem test_DebouncedKeys_releases :
    let s1 := debouncing ⟨false, true, some 20000⟩ ⟨false, false, none⟩ .ackDown
    let s2 := debouncing ⟨false, false, none⟩ ⟨false, true, some 20000⟩ .testDown
    let s3 := debouncing ⟨false, true, some 20000⟩ ⟨true, true, none⟩ .chord
    let s4 := debouncing ⟨false, true, some 20000⟩ ⟨true, true, none⟩ .spent
    ((s1.keys.line .ack).timer = some 20000 ∧ s1.running = true ∧ (s1.keys.line .ack).raw = false
        ∧ s1.keys.state = .ackDown ∧ s1.queue.messages.length < 6)
      ∧ ((s2.keys.line .test).raw = false ∧ s2.keys.state = .testDown ∧ s2.table = [] ∧ s2.drive.source = .none
          ∧ s2.drive.quiescent = false)
      ∧ ((s3.keys.line .ack).raw = false ∧ s3.keys.state = .chord)
      ∧ ((s4.keys.line .ack).raw = false ∧ s4.keys.state = .spent) := by
  decide +kernel

/-- The ACK release under a pattern, and under a chirp with a rest behind it: the silence withdraws the pattern's sound, and
the chirp begins or starts its timer again. -/
theorem test_DebouncedKeys_chirps :
    let s := (debouncing ⟨false, true, some 20000⟩ ⟨false, false, none⟩ .ackDown).setPlayer
      ⟨.cycle, some 0, some 0, false, 0, 0, false, 0, true⟩
    let p := s.setDrive { s.drive with source := .pattern, tone := 7, envelopeLevel := 3, level := 3 }
    let c := s.setDrive { (chirping s).drive with behind := some ⟨0, 3, .flat, 1⟩ }
    s.running = true ∧ s.keys.state = .ackDown ∧ s.drive.quiescent = false
      ∧ (after (.debounceExpiry 0 .ack) p).drive.source = .chirp ∧ (after (.debounceExpiry 0 .ack) p).drive.tone = 10
      ∧ (after (.debounceExpiry 0 .ack) p).drive.behind = none
      ∧ (after (.debounceExpiry 0 .ack) c).drive.behind = none
      ∧ (after (.debounceExpiry 0 .ack) c).drive.chirpTimer = some 0 := by
  decide +kernel

theorem test_DebouncedKeys_starting :
    let s := State.reset.setKeys ⟨⟨true, false, some 20000⟩, ⟨false, false, none⟩, .idle, 0⟩
    (s.keys.line .ack).timer = some 20000 ∧ s.running = false := by
  decide +kernel

/-- The station with SND sounding at 700 Hz and BCN lit, both at level 1, with levels pending, at a phase of each wave. -/
def waves (snd bcn : Nat) : State :=
  member.setDrive { member.drive with
    source := .pattern, tone := 4, envelopeLevel := 3, level := 1, intensity := 3, beaconLevel := 1
    sndPhase := snd, bcnPhase := bcn }

theorem test_ChirpsAndPeriods_each :
    let s1 := member.setDrive { member.drive with chirpTimer := some 31249, source := .chirp, tone := 10 }
    let s2 := member.setDrive { member.drive with chirpTimer := some 31250, behind := some ⟨0, 3, .flat, 1⟩ }
    let s3 := waves 999300 999000
    (s1.drive.chirpTimer = some 31249 ∧ 31250 ≤ 31249 + 1 ∧ s1.drive.behind = none)
      ∧ (s2.drive.behind = some ⟨0, 3, .flat, 1⟩ ∧ ((0 : Nat) = 0 ∨ (3 : Nat) = 0))
      ∧ (s3.drive.tone ≠ 0 ∧ s3.drive.level = 1 ∧ 1000000 ≤ s3.drive.sndPhase + 700 * 1
          ∧ (s3.drive.sndPhase + 700 * 1) % 1000000 < 700 ∧ s3.drive.sndPhase + 700 * 0 < 1000000
          ∧ 700 ≤ (s3.drive.sndPhase + 700 * 2) % 1000000)
      ∧ (s3.drive.beaconLevel = 1 ∧ 1000000 ≤ s3.drive.bcnPhase + 1000 * 1
          ∧ (s3.drive.bcnPhase + 1000 * 1) % 1000000 < 1000 ∧ s3.drive.bcnPhase + 1000 * 0 < 1000000
          ∧ 1000 ≤ (s3.drive.bcnPhase + 1000 * 2) % 1000000)
      ∧ (member.drive.tone = 0 ∨ member.drive.level = 0) ∧ member.drive.beaconLevel = 0 := by
  decide +kernel

/-- R135, R139: 700 Hz begins its next period after 1428.6 µs and 1 kHz after 1000 µs; a pending level waits for it. -/
theorem test_period_starts_when_the_period_does :
    (after (.periodStart 1429 .snd) (waves 0 0)).drive.level = 3
      ∧ (after (.periodStart 1428 .snd) (waves 0 0)).drive.level = 1
      ∧ (after (.periodStart 1430 .snd) (waves 0 0)).drive.level = 1
      ∧ (after (.periodStart 1000 .bcn) (waves 0 0)).drive.beaconLevel = 3
      ∧ (after (.periodStart 999 .bcn) (waves 0 0)).drive.beaconLevel = 1 := by
  decide +kernel

/-- R136: at level 1 and 700 Hz SND is high for the first 178.6 µs of each period. -/
theorem test_high_part_comes_first :
    ((waves 0 0).elapse 178).sndHigh = true ∧ ((waves 0 0).elapse 179).sndHigh = false
      ∧ ((waves 0 0).elapse 1429).sndHigh = true := by
  decide +kernel

/-! ### The panel port -/

theorem test_TransactionClocks_each :
    let s1 := clockedIn []
    let s2 := (clockedIn []).setPort { (clockedIn []).port with bitCount := 7 }
    (member.port.opened = false)
      ∧ (s1.port.opened = true ∧ s1.port.bitCount < 7)
      ∧ (s2.port.opened = true ∧ 7 ≤ s2.port.bitCount) := by
  decide +kernel

theorem test_ClosesThatCarry_none :
    (clockedIn []).port.opened = true ∧ (clockedIn []).port.buffer = [] := by
  decide +kernel

theorem test_ClosesThatCarry_bad :
    let s := clockedIn [0x01#8, 0x00#8, 0x16#8]
    s.port.dropped = false ∧ s.port.buffer ≠ [] ∧ s.port.buffer.getD 0 0#8 ≠ 0#8
      ∧ ¬ crc8 (s.port.buffer.take 2) = s.port.buffer.getD 2 0#8 := by
  decide +kernel

theorem test_ClosesThatCarry_unknown :
    let s := clockedIn (commandFrame 0x20#8 [])
    s.port.buffer.getD 0 0#8 = 0x20#8 ∧ (s.port.buffer.getD 1 0#8).toNat ≤ 90 ∧ 3 + 0 ≤ s.port.buffer.length
      ∧ crc8 (s.port.buffer.take 2) = s.port.buffer.getD 2 0#8
      ∧ 0x20#8 ∉ [0x01#8, 0x02#8, 0x03#8, 0x04#8, 0x05#8, 0x10#8, 0x11#8, 0x12#8, 0x13#8, 0x14#8, 0x15#8] := by
  decide +kernel

theorem test_NotReady_each :
    let s := State.reset.setPort { State.reset.port with opened := true, buffer := commandFrame 0x12#8 [] ++ [0#8] }
    let m := clockedIn (commandFrame 0x10#8 [9#8] ++ [])
    s.port.opened = true ∧ s.port.dropped = false ∧ s.port.buffer = commandFrame PanelCommand.silence.code [] ++ [0#8]
      ∧ s.running = false ∧ m.running = true ∧ m.port.buffer = commandFrame PanelCommand.post.code [9#8] ++ []
      ∧ [9#8].length ≠ 4 := by
  decide +kernel

theorem test_ReadsAnswer_each :
    member.running = true ∧ (clockedIn ([0x01#8, 0x00#8, 0x15#8] ++ [0#8])).port.buffer = [0x01#8, 0x00#8, 0x15#8] ++ [0#8]
      ∧ (clockedIn (commandFrame 0x02#8 [])).port.buffer = commandFrame 0x02#8 [] ++ []
      ∧ (clockedIn (commandFrame 0x03#8 [1#8])).port.buffer = commandFrame 0x03#8 [BitVec.ofNat 8 1] ++ []
      ∧ (clockedIn (commandFrame 0x04#8 [])).port.buffer = commandFrame 0x04#8 [] ++ []
      ∧ (clockedIn (commandFrame 0x05#8 [])).port.buffer = commandFrame 0x05#8 [] ++ [] := by
  decide +kernel

theorem test_ReadsAnswer_badHalf :
    2 ≤ (2#8).toNat ∧ (clockedIn (commandFrame 0x03#8 [2#8])).port.buffer = commandFrame 0x03#8 [2#8] ++ [] := by
  decide +kernel

/-- R83: of seven messages the last by lead byte is discarded. A RAISE takes a RESTORE's place, and a CLEAR finds none. -/
theorem test_full_queue :
    (fullQueue.joinedBy (.raise 9 ⟨1, 1, false⟩)).2 = true
      ∧ ((fullQueue.joinedBy (.raise 9 ⟨1, 1, false⟩)).1.getLast?.map Message.news) = some (.raise 9 ⟨1, 1, false⟩)
      ∧ fullQueue.joinedBy (.clear 9 ⟨1, 1, false⟩) = (fullQueue.messages, true)
      ∧ fullQueue.joinedBy .restore = (fullQueue.messages, false) := by
  decide +kernel

theorem test_PostRaises_full :
    let s := ((clockedIn (commandFrame 0x10#8 [11#8, 63#8, 7#8, 1#8])).setTable fullTable).setQueue fullQueue
    s.port.buffer = commandFrame 0x10#8 [11#8, 63#8, 7#8, 1#8] ++ [] ∧ 16 ≤ s.table.length
      ∧ (∀ e ∈ s.table, (e.origin == s.startup.ownAddr && e.input == 11) = false)
      ∧ (s.table.filter fun e => e.origin != s.startup.ownAddr).getLast?
        = some ⟨35, 3, 11, 15, .active, false, false, 0, 0#8, 0#4⟩ := by
  decide +kernel

theorem test_PostRaises_full_ok :
    let s := ((clockedIn (commandFrame 0x10#8 [11#8, 63#8, 7#8, 1#8])).setTable fullTable).setQueue fullQueue
    TableOk s.table ∧ s.counters.Ok ∧ s.queue.inOrder :=
  ⟨test_RaiseFrame_full.2.2.2, by unfold Counters.Ok; decide +kernel, test_fullQueue_inOrder⟩

theorem test_PostRaises_each :
    let s := clockedIn (commandFrame 0x10#8 [11#8, 63#8, 7#8, 1#8])
    let busy := s.setInputs (s.inputs.set 11 ⟨.none, none, .none, false, .raised, some ⟨63, 7, true⟩⟩)
    s.running = true ∧ s.port.opened = true ∧ s.port.dropped = false
      ∧ s.port.buffer = commandFrame 0x10#8 [11#8, 63#8, 7#8, 1#8] ++ []
      ∧ (8 ≤ (11#8).toNat ∧ (11#8).toNat ≤ 11 ∧ 1 ≤ (63#8).toNat ∧ (63#8).toNat ≤ 63 ∧ 1 ≤ (7#8).toNat
        ∧ (7#8).toNat ≤ 7 ∧ (1#8).toNat ≤ 1)
      ∧ (s.input 11).request = .idle ∧ s.inputs.length = 12 ∧ s.table.length < 16 ∧ s.queue.messages.length < 6
      ∧ (busy.input 11).request ≠ .idle ∧ ¬ 8 ≤ (7#8).toNat := by
  decide +kernel

theorem test_WithdrawTakes_each :
    let s := clockedIn (commandFrame 0x11#8 [8#8])
    let raised := s.setInputs (s.inputs.set 8 ⟨.none, none, .none, false, .raised, some ⟨5, 2, false⟩⟩)
    let latched := s.setInputs (s.inputs.set 8 ⟨.none, none, .none, false, .raised, some ⟨5, 2, true⟩⟩)
    s.running = true ∧ s.port.opened = true ∧ s.port.dropped = false
      ∧ s.port.buffer = commandFrame 0x11#8 [8#8] ++ [] ∧ s.inputs.length = 12
      ∧ (8 ≤ (8#8).toNat ∧ (8#8).toNat ≤ 11) ∧ (s.input 8).request ≠ .raised
      ∧ (raised.input 8).request = .raised ∧ (raised.input 8).posted = some ⟨5, 2, false⟩
      ∧ (latched.input 8).request = .raised ∧ (latched.input 8).posted = some ⟨5, 2, true⟩ ∧ ¬ (12#8).toNat ≤ 11 := by
  decide +kernel

theorem test_WithdrawTakes_clear :
    let s := (((clockedIn (commandFrame 0x11#8 [8#8])).setTable [⟨5, 2, 6, 8, .active, false, false, 0, 40#8, 2#4⟩]).setInputs
      (member.inputs.set 8 ⟨.none, none, .none, false, .raised, some ⟨5, 2, false⟩⟩)).setQueue
      ⟨[⟨.raise 8 ⟨5, 2, false⟩, 0, 0, true⟩], 1⟩
    (s.table.find? fun e => e.origin == s.startup.ownAddr && e.input == 8)
        = some ⟨5, 2, 6, 8, .active, false, false, 0, 40#8, 2#4⟩
      ∧ s.queue.messages.Pairwise (fun a b => a.news.lead ≤ b.news.lead) ∧ s.counters = ⟨0, 0, 0, 0, 0, 0, 0⟩
      ∧ (s.input 8).request = .raised
      ∧ (after (.withdraw 0) s).queue.messages = [⟨.clear 8 ⟨5, 2, false⟩, 1, 0, false⟩] := by
  decide +kernel

theorem test_PanelSilenceRestoreTestClear_each :
    let s := clockedIn (commandFrame 0x15#8 [])
    s.running = true ∧ s.port.opened = true ∧ s.port.dropped = false
      ∧ s.port.buffer = commandFrame 0x15#8 [] ++ [] ∧ s.queue.messages.length < 6
      ∧ (clockedIn (commandFrame 0x12#8 [])).port.buffer = commandFrame 0x12#8 [] ++ []
      ∧ (clockedIn (commandFrame 0x13#8 [])).port.buffer = commandFrame 0x13#8 [] ++ []
      ∧ (clockedIn (commandFrame 0x14#8 [])).port.buffer = commandFrame 0x14#8 [] ++ [] := by
  decide +kernel

/-- R62: the receiver refuses a SILENCE whose check byte is wrong in one bit. -/
theorem test_FramesReadBack_check :
    0xFD#8 ≠ crc8 [0x40#8, 0x06#8, 0x28#8, 0x04#8] ∧ parseFrame [0x40#8, 0x06#8, 0x28#8, 0x04#8, 0xFD#8] = none
      ∧ (parseFrame [0x40#8, 0x06#8, 0x28#8, 0x04#8, 0xFC#8]).isSome = true := by
  decide +kernel

theorem test_FramesReadBack :
    raise10.wellFormed = true ∧ status10.wellFormed = true := by
  decide +kernel

theorem test_PanelFramesReadBack :
    (List.replicate 90 0#8).length ≤ 90 := by
  decide +kernel

/-! ### The conditions that every step keeps -/

/-- The worked station meets every condition. -/
theorem test_member_ok : member.Ok where
  counters := by unfold Counters.Ok; decide +kernel
  table := ⟨by decide, List.Pairwise.nil⟩
  queue := ⟨by decide, List.Pairwise.nil, by simp [member, State.reset]⟩
  modes := by unfold State.ModesOk; decide +kernel
  tx := by simp [State.TxOk, member, State.reset]
  mark := by simp [State.MarkOk, member, State.reset]
  player := by unfold State.PlayerOk; decide +kernel
  faults := by unfold State.FaultsOk; decide +kernel
  orphans := by simp [State.OrphansOk, member, State.reset]
  sizes := by unfold State.SizesOk; decide +kernel
  ranges := by simp [State.RangesOk, Request.Ok, member, State.reset, Binding.disabled]
  rest := by simp [State.RestOk, State.running, member]
  own := ⟨by intro i hi h; exfalso; revert h; revert i; decide +kernel, by simp [member, State.reset]⟩
  dark := by simp [State.DarkOk, member]

theorem test_EveryStep :
    let s := member.setPending [.psckFall 1]
    s.Ok ∧ step s = .next (member.elapse 1) :=
  ⟨⟨test_member_ok.counters, test_member_ok.table, test_member_ok.queue, test_member_ok.modes, test_member_ok.tx,
    test_member_ok.mark, test_member_ok.player, test_member_ok.faults, test_member_ok.orphans, test_member_ok.sizes,
    test_member_ok.ranges, test_member_ok.rest, test_member_ok.own, test_member_ok.dark⟩, by rfl⟩

end Sys2Proof.Tests
end

section
/-! PROOFS. A frame read back from its own bytes: its fields, its items, its length and its check (sections 3.4 and
3.5). -/

namespace Sys2Proof.Machine

/-! ### Fields of a byte -/

theorem bitsOf_ofNat {n : Nat} (h : n < 256) (lo k : Nat) : bitsOf (BitVec.ofNat 8 n) lo k = n / 2 ^ lo % 2 ^ k := by
  simp [bitsOf, Nat.mod_eq_of_lt h]

theorem byteAt_append_length_add (pre bs : List Byte) (i : Nat) :
    byteAt (pre ++ bs) (pre.length + i) = byteAt bs i := by
  simp [byteAt, List.getElem?_append_right]

/-! ### Items -/

theorem Item.inRange_iff (i : Item) :
    i.inRange = true ↔ 1 ≤ i.cue ∧ i.cue ≤ 63 ∧ 1 ≤ i.priority ∧ i.priority ≤ 7 ∧ i.input ≤ 11 := by
  simp [Item.inRange, and_assoc]

@[simp] theorem Item.bytes_length (i : Item) : i.bytes.length = 2 := rfl

theorem Item.flatMap_bytes_length (items : List Item) : (items.flatMap Item.bytes).length = 2 * items.length := by
  simp [List.length_flatMap, Nat.mul_comm]

/-- No field of an item overlaps another in its two bytes (section 3.4). -/
theorem itemOf_bytes {i : Item} (h : i.inRange = true) : itemOf (byteAt i.bytes 0) (byteAt i.bytes 1) = i := by
  obtain ⟨-, hcue, -, hpriority, hinput⟩ := i.inRange_iff.mp h
  obtain ⟨input, cue, priority, latched, silenced⟩ := i
  dsimp only at hcue hpriority hinput
  have hA : flagBit silenced 7 + flagBit latched 6 + cue < 256 := by
    cases silenced <;> cases latched <;> simp [flagBit] <;> omega
  have hB : input * 8 + priority < 256 := by omega
  simp only [itemOf, Item.bytes, byteAt, List.getD_cons_zero, List.getD_cons_succ, bitsOf_ofNat hA, bitsOf_ofNat hB,
    Item.mk.injEq]
  refine ⟨by omega, ?_, by omega, ?_, ?_⟩ <;> cases silenced <;> cases latched <;> simp [flagBit] <;> omega

theorem itemBytesOk_bytes {i : Item} (h : i.inRange = true) :
    itemBytesOk (byteAt i.bytes 0) (byteAt i.bytes 1) = true := by
  obtain ⟨-, -, -, hpriority, hinput⟩ := i.inRange_iff.mp h
  have hB : i.input * 8 + i.priority < 256 := by omega
  have htop : bitsOf (byteAt i.bytes 1) 7 1 = 0 := by
    simp only [Item.bytes, byteAt, List.getD_cons_zero, List.getD_cons_succ, bitsOf_ofNat hB]
    omega
  simp [itemBytesOk, itemOf_bytes h, htop, h]

/-- Items in range are read back from their bytes and meet the item conditions of R63, whatever stands before and after
them. -/
theorem items_readBack (items : List Item) (h : ∀ i ∈ items, i.inRange = true) (pre post : List Byte) :
    itemsFrom (pre ++ (items.flatMap Item.bytes ++ post)) pre.length items.length = items
      ∧ itemsOk (pre ++ (items.flatMap Item.bytes ++ post)) pre.length items.length = true := by
  induction items generalizing pre with
  | nil => exact ⟨rfl, rfl⟩
  | cons i items ih =>
    obtain ⟨hi, hrest⟩ := List.forall_mem_cons.mp h
    obtain ⟨ihFrom, ihOk⟩ := ih hrest (pre ++ i.bytes)
    simp only [List.append_assoc, List.length_append, Item.bytes_length] at ihFrom ihOk
    have hA : byteAt (pre ++ (i.bytes ++ (items.flatMap Item.bytes ++ post))) pre.length = byteAt i.bytes 0 :=
      byteAt_append_length_add pre _ 0
    have hB : byteAt (pre ++ (i.bytes ++ (items.flatMap Item.bytes ++ post))) (pre.length + 1) = byteAt i.bytes 1 :=
      byteAt_append_length_add pre _ 1
    simp only [List.flatMap_cons, List.append_assoc, List.length_cons, itemsFrom, itemsOk, hA, hB, itemOf_bytes hi,
      itemBytesOk_bytes hi, ihFrom, ihOk, Bool.and_self, and_self]

/-! ### The header of a frame -/

theorem Frame.wellFormed_iff (f : Frame) :
    f.wellFormed = true ↔ f.sender ≤ 31 ∧ countAllowed f.kind f.items.length = true
      ∧ (∀ i ∈ f.items, i.inRange = true) ∧ (f.kind ≠ .status → f.faultByte = 0#8) := by
  simp [Frame.wellFormed, and_assoc, or_iff_not_imp_left]

theorem countAllowed_le {k : FrameKind} {n : Nat} (h : countAllowed k n = true) : n ≤ 12 := by
  cases k <;> simp [countAllowed] at h <;> omega

/-- Each lead byte names its kind, for a RAISE whatever its item's priority (R60). -/
theorem kindOfLead_leadOf (k : FrameKind) {p : Nat} (h : k = .raise → 1 ≤ p) :
    kindOfLead (BitVec.ofNat 8 (leadOf k p)) = some k := by
  cases k with
  | raise =>
    have := h rfl
    have hlead : raiseLead p % 256 = raiseLead p := Nat.mod_eq_of_lt (by unfold raiseLead; omega)
    have hrange : 0x20 ≤ raiseLead p ∧ raiseLead p ≤ 0x26 := by unfold raiseLead; omega
    simp only [kindOfLead, leadOf, BitVec.toNat_ofNat, Nat.reducePow, hlead, if_pos hrange]
  | restore | silence | clear | status => rfl

/-- What stands before a frame's items: the four header bytes and, in a STATUS, the fault byte. -/
def Frame.head (f : Frame) : List Byte :=
  [byteAt f.bytes 0, byteAt f.bytes 1, byteAt f.bytes 2, byteAt f.bytes 3]
    ++ (if f.kind = .status then [f.faultByte] else [])

@[simp] theorem Frame.head_length (f : Frame) : f.head.length = itemsAt f.kind := by
  cases h : f.kind <;> simp [Frame.head, itemsAt, h]

theorem Frame.bytes_eq_head_append (f : Frame) :
    f.bytes = f.head ++ (f.items.flatMap Item.bytes ++ [crc8 f.body]) := by
  simp [Frame.head, Frame.bytes, Frame.body, byteAt]

theorem Frame.bytes_length (f : Frame) : f.bytes.length = itemsAt f.kind + 2 * f.items.length + 1 := by
  simp only [f.bytes_eq_head_append, List.length_append, head_length, Item.flatMap_bytes_length, List.length_singleton]
  omega

theorem Frame.byteAt_bytes_four {f : Frame} (h : f.kind = .status) : byteAt f.bytes 4 = f.faultByte := by
  simp [Frame.bytes, Frame.body, byteAt, h]

/-- A RAISE's lead byte gives the priority of its own item (R60). -/
theorem Frame.raisePriorityOk_bytes (f : Frame) : raisePriorityOk f.kind (byteAt f.bytes 0) f.items = true := by
  have hbyte : byteAt f.bytes 0 = BitVec.ofNat 8 (leadOf f.kind ((f.items.head?.map Item.priority).getD 0)) := rfl
  unfold raisePriorityOk
  split
  · next i rest hkind hitems =>
    simp only [hbyte, hkind, hitems, leadOf, raiseLead, List.head?_cons, Option.map_some, Option.getD_some,
      BitVec.toNat_ofNat, beq_iff_eq]
    omega
  · rfl

section
variable {f : Frame} (h : f.wellFormed = true)
include h

theorem Frame.kindOfLead_bytes : kindOfLead (byteAt f.bytes 0) = some f.kind := by
  obtain ⟨-, hcount, hitems, -⟩ := f.wellFormed_iff.mp h
  refine kindOfLead_leadOf f.kind fun hraise => ?_
  obtain ⟨i, hi⟩ : ∃ i, f.items = [i] := by
    simpa [hraise, countAllowed, List.length_eq_one_iff] using hcount
  have := i.inRange_iff.mp (hitems i (by simp [hi]))
  simp [hi, this]

/-- The second byte holds the sender and the two flags, and its top bit is 0 (section 3.4). -/
theorem Frame.second_byte :
    bitsOf (byteAt f.bytes 1) 0 5 = f.sender ∧ (bitsOf (byteAt f.bytes 1) 5 1 == 1) = f.supplyLow
      ∧ (bitsOf (byteAt f.bytes 1) 6 1 == 1) = f.anyFault ∧ bitsOf (byteAt f.bytes 1) 7 1 = 0 := by
  obtain ⟨hsender, -, -, -⟩ := f.wellFormed_iff.mp h
  have hbyte : byteAt f.bytes 1 = BitVec.ofNat 8 (flagBit f.anyFault 6 + flagBit f.supplyLow 5 + f.sender) := rfl
  have hlt : flagBit f.anyFault 6 + flagBit f.supplyLow 5 + f.sender < 256 := by
    cases f.anyFault <;> cases f.supplyLow <;> simp [flagBit] <;> omega
  simp only [hbyte, bitsOf_ofNat hlt]
  cases f.anyFault <;> cases f.supplyLow <;> simp [flagBit] <;> omega

/-- The fourth byte holds the item count and the beat (section 3.4). -/
theorem Frame.fourth_byte :
    bitsOf (byteAt f.bytes 3) 4 4 = f.items.length
      ∧ BitVec.ofNat 4 (bitsOf (byteAt f.bytes 3) 0 4) = f.beat := by
  obtain ⟨-, hcount, -, -⟩ := f.wellFormed_iff.mp h
  have hn := countAllowed_le hcount
  have hbeat := f.beat.isLt
  have hbyte : byteAt f.bytes 3 = BitVec.ofNat 8 (f.items.length * 16 + f.beat.toNat) := rfl
  simp only [hbyte, bitsOf_ofNat (show f.items.length * 16 + f.beat.toNat < 256 by omega)]
  refine ⟨by omega, BitVec.eq_of_toNat_eq ?_⟩
  rw [BitVec.toNat_ofNat]
  omega

theorem Frame.items_bytes :
    itemsFrom f.bytes (itemsAt f.kind) f.items.length = f.items
      ∧ itemsOk f.bytes (itemsAt f.kind) f.items.length = true := by
  obtain ⟨-, -, hitems, -⟩ := f.wellFormed_iff.mp h
  simpa only [← f.bytes_eq_head_append, f.head_length] using
    items_readBack f.items hitems f.head [crc8 f.body]

/-- The length that a frame's first four bytes announce is its own (R61). -/
theorem Frame.expectedLength_bytes : expectedLength f.bytes = some f.bytes.length := by
  obtain ⟨-, hcount, -, -⟩ := f.wellFormed_iff.mp h
  have hlen : ¬ f.bytes.length < 4 := by
    rw [f.bytes_length]; cases f.kind <;> simp only [itemsAt] <;> omega
  simp only [expectedLength, if_neg hlen, kindOfLead_bytes h, (fourth_byte h).1, hcount, if_true]
  rw [f.bytes_length]

/-- The bytes of an allowed frame meet every condition of R63. -/
theorem Frame.validPrefix_bytes : validPrefix f.bytes = true := by
  obtain ⟨-, hcount, -, -⟩ := f.wellFormed_iff.mp h
  obtain ⟨-, -, -, htop⟩ := second_byte h
  obtain ⟨hn, -⟩ := fourth_byte h
  obtain ⟨hfrom, hok⟩ := items_bytes h
  have hcomplete : min f.items.length ((f.bytes.length - itemsAt f.kind) / 2) = f.items.length := by
    rw [f.bytes_length]; omega
  obtain ⟨lead, rest, hcons⟩ : ∃ lead rest, f.bytes = lead :: rest := ⟨_, _, rfl⟩
  have hlead : byteAt f.bytes 0 = lead := by rw [hcons]; rfl
  have hkind := kindOfLead_bytes h
  have hraise := f.raisePriorityOk_bytes
  rw [hlead] at hkind hraise
  rw [hcons] at hcomplete htop hn hfrom hok ⊢
  simp only [validPrefix, hkind, hn, hcomplete, htop, hcount, hfrom, hok, hraise]
  simp

end

/-! ### A frame and its bytes -/

theorem parseFrame_bytes {f : Frame} (h : f.wellFormed = true) : parseFrame f.bytes = some f := by
  obtain ⟨-, -, -, hfault⟩ := f.wellFormed_iff.mp h
  obtain ⟨hsender, hsupply, hany, -⟩ := Frame.second_byte h
  obtain ⟨hn, hbeat⟩ := Frame.fourth_byte h
  obtain ⟨hfrom, -⟩ := Frame.items_bytes h
  have hcrc : crc8 f.bytes = 0#8 := crc8_append_check f.body
  have hbar : byteAt f.bytes 2 = f.bar := rfl
  have hfaultByte : (if f.kind = .status then byteAt f.bytes 4 else 0#8) = f.faultByte := by
    split
    · next hstatus => exact Frame.byteAt_bytes_four hstatus
    · next hother => exact (hfault hother).symm
  simp only [parseFrame, Frame.kindOfLead_bytes h, Frame.expectedLength_bytes h, Frame.validPrefix_bytes h, hcrc,
    and_self, if_true, hsender, hsupply, hany, hbar, hn, hbeat, hfaultByte, hfrom]

/-- A sequence whose check is not 0 is no frame (R62). -/
theorem parseFrame_of_crc8_ne {bs : List Byte} (h : crc8 bs ≠ 0#8) : parseFrame bs = none := by
  unfold parseFrame
  split
  · rfl
  · exact if_neg fun ⟨_, hcrc, _⟩ => h hcrc

/-! ### The check byte's register -/

/-- A step of the register combines it with 0x07 where its most significant bit was 1 (R62). -/
theorem crc8Step_eq (r : Byte) : crc8Step r = if r.getLsbD 7 then (r <<< 1) ^^^ 0x07#8 else r <<< 1 := by
  rw [crc8Step, BitVec.msb_eq_getLsbD_last]

theorem crc8Byte_eq (r b : Byte) :
    crc8Byte r b =
      crc8Step (crc8Step (crc8Step (crc8Step (crc8Step (crc8Step (crc8Step (crc8Step (r ^^^ b)))))))) := rfl

end Sys2Proof.Machine

open Sys2Proof Sys2Proof.Machine

/-- Settles O55: a well-formed frame is parsed field by field from its own bytes, and the register spelled out in the
statement is `crc8`, which a check byte brings to 0 exactly where it is the register's own value. -/
theorem framesReadBackAsSent : Obligations.FramesReadBackAsSent := by
  unfold Obligations.FramesReadBackAsSent
  intro step register
  have hstep : step = crc8Step := funext fun r => (crc8Step_eq r).symm
  have hregister : register = crc8 := by
    funext bs
    simp only [register, hstep, ← crc8Byte_eq]
    rfl
  rw [hregister]
  refine ⟨fun f => parseFrame_bytes, fun f => ?_, crc8_append_eq_zero, fun bs check hne => ?_⟩
  · simp [Frame.bytes]
  · exact parseFrame_of_crc8_ne ((crc8_append_eq_zero bs check).not.mpr hne)

end

section
/-! PROOFS. A conversion that completes: the grant of the next one, the sample of a field line and the sample of the supply
(sections 8.1 to 8.4, 9.2 and 9.3). -/

namespace Sys2Proof.Machine

/-! ### The bands and the runs -/

/-- A line's band by the bounds its reading stays below (R153). -/
theorem bandOf_eq (supervised : Bool) (b : Byte) :
    bandOf supervised b =
      if supervised then
        (if b.toNat < 20 then .short else if b.toNat < 100 then .active else if b.toNat < 200 then .normal else .opened)
      else if b.toNat < 128 then .active else .normal := by
  simp only [bandOf, Nat.lt_succ_iff]

/-- A sample that differs from the candidate makes its band the candidate, timed unless it is the qualified one (R154). -/
theorem Input.sample_eq (band : Band) (x : Input) :
    x.sample band =
      if x.candidate = band then x
      else { x with candidate := band, timer := if x.qualified = band then none else some 0 } := by
  simp only [Input.sample, @eq_comm _ band]

/-- A supply sample with the four sets of bands as bounds of its reading (R173, R174). -/
theorem Supply.sample_eq (b : Byte) (m : Supply) :
    m.sample b =
      { m with
        lastBand := b.toNat / 32
        lowRun := nextRun (decide (b.toNat < 96)) m.lowRun
        highRun := nextRun (decide (96 ≤ b.toNat)) m.highRun
        zeroRun := nextRun (decide (b.toNat < 32)) m.zeroRun
        recoveryRun := nextRun (decide (64 ≤ b.toNat)) m.recoveryRun } := by
  have hlow : b.toNat / 32 ≤ 2 ↔ b.toNat < 96 := by omega
  have hhigh : 3 ≤ b.toNat / 32 ↔ 96 ≤ b.toNat := by omega
  have hzero : b.toNat / 32 = 0 ↔ b.toNat < 32 := by omega
  have hrecovery : 2 ≤ b.toNat / 32 ↔ 64 ≤ b.toNat := by omega
  simp only [Supply.sample, beq_eq_decide, hlow, hhigh, hzero, hrecovery]

/-- While no run that the condition looks at has reached four, a sample leaves the condition (R175 to R177). -/
theorem Supply.change_eq_none {m : Supply}
    (h : m.condition = .normal ∧ m.zeroRun < 4 ∧ m.lowRun < 4
      ∨ m.condition = .low ∧ m.zeroRun < 4 ∧ m.highRun < 4
      ∨ m.condition = .cutoff ∧ m.recoveryRun < 4) : m.change = none := by
  obtain ⟨hc, hzero, hlow⟩ | ⟨hc, hzero, hhigh⟩ | ⟨hc, hrecovery⟩ := h
  · simp only [Supply.change, hc, hzero.ne, hlow.ne, if_false]
  · simp only [Supply.change, hc, hzero.ne, hhigh.ne, if_false]
  · simp only [Supply.change, hc, hrecovery.ne, if_false]

/-! ### The samples -/

theorem scanSample_of_not_wanted {i : Nat} {s : State} (b : Byte)
    (h : s.running = false ∨ (s.binding i).enabled = false) : scanSample i b s = s := by
  obtain h | h := h <;> simp [scanSample, h]

/-- A sample that is wanted is compared with the line's candidate (R152 to R154). -/
theorem scanSample_of_wanted {i : Nat} {b : Byte} {band : Band} {s : State} (hrunning : s.running = true)
    (henabled : (s.binding i).enabled = true) (hband : bandOf (s.binding i).supervised b = band) :
    scanSample i b s =
      modifyInput i
        (fun x =>
          if x.candidate = band then x
          else { x with candidate := band, timer := if x.qualified = band then none else some 0 }) s := by
  rw [scanSample, if_pos ⟨hrunning, henabled⟩, hband, funext (Input.sample_eq band)]

theorem supplySample_of_change_eq_none {b : Byte} {s : State} (h : (s.supply.sample b).change = none) :
    supplySample b s = s.setSupply (s.supply.sample b) := by
  simp [supplySample, h]

/-- A sample of a line reads nothing of the converter. -/
theorem scanSample_setConverter (i : Nat) (b : Byte) (c : Converter) (s : State) :
    scanSample i b (s.setConverter c) = (scanSample i b s).setConverter c := by
  unfold scanSample
  rw [apply_ite (State.setConverter · c)]
  rfl

/-! ### The completion -/

/-- The converter that the completion of a conversion leaves: at the request that waits, the supply's first, or IDLE
(R149, R150). -/
def Converter.granted (c : Converter) : Converter :=
  if c.pendingSupply then ⟨.supply, 0, false, false, false, c.pendingScan⟩
  else
    match c.pendingScan with
    | some i => ⟨.scan i, 0, false, false, false, none⟩
    | none => ⟨.idle, 0, false, false, false, none⟩

/-- The converter of a conversion that has ended, before the grant. -/
def Converter.ended (c : Converter) : Converter :=
  { c with activity := .idle, time := 0, discard := false, fresh := false }

theorem Converter.ended_grant (c : Converter) : c.ended.grant = c.granted := by
  obtain ⟨activity, time, discard, fresh, pendingSupply, pendingScan⟩ := c
  cases pendingSupply with
  | true => rfl
  | false => cases pendingScan <;> rfl

/-- The station with the grant that a completion brings, and nothing else of it. -/
def State.granted (s : State) : State :=
  s.setConverter s.converter.granted

theorem conversionDue_elapse {s : State} {after : Nat} (hbusy : s.converter.activity ≠ .idle)
    (htime : 250 ≤ s.converter.time + after) : (s.elapse after).conversionDue = true := by
  have h : conversionTime ≤ (s.elapse after).converter.time := by
    simp only [State.elapse, Converter.elapse, if_neg hbusy, tick, conversionTime]
    omega
  simp [State.conversionDue, hbusy, h]

section
variable {s : State} (due : s.conversionDue = true) (b : Byte)
include due

theorem conversionComplete_of_due :
    conversionComplete b s =
      let u := handReading b s.converter.activity s.converter.discard (s.setConverter s.converter.ended)
      u.setConverter u.converter.grant :=
  if_pos due

/-- A reading that nobody wants goes nowhere (R151). -/
theorem conversionComplete_discarded (h : s.converter.discard = true) : conversionComplete b s = s.granted := by
  rw [conversionComplete_of_due due, h]
  exact congrArg s.setConverter s.converter.ended_grant

/-- A line's reading goes to its sample. -/
theorem conversionComplete_scan {i : Nat} (h : s.converter.discard = false) (hscan : s.converter.activity = .scan i) :
    conversionComplete b s = scanSample i b s.granted := by
  rw [conversionComplete_of_due due, h, hscan, State.granted, scanSample_setConverter, ← s.converter.ended_grant]
  simp only [handReading, Bool.false_eq_true, if_false, scanSample_setConverter]
  rfl

/-- A supply sample that leaves the condition changes nothing else of the station (R173, R174). -/
theorem conversionComplete_supply {m : Supply} (h : s.converter.discard = false)
    (hsupply : s.converter.activity = .supply) (hm : s.supply.sample b = m) (hchange : m.change = none) :
    conversionComplete b s = s.granted.setSupply m := by
  subst hm
  have hsample : supplySample b (s.setConverter s.converter.ended) = _ := supplySample_of_change_eq_none hchange
  rw [conversionComplete_of_due due, h, hsupply, State.granted, ← s.converter.ended_grant]
  simp only [handReading, Bool.false_eq_true, if_false, hsample]
  rfl

end

end Sys2Proof.Machine

open Sys2Proof Sys2Proof.Machine

/-- Settles O40, requester by requester: the completion is due after the wait, so it is the grant with the reading handed
to nobody, to the line's sample or to the supply's. An idle converter's conversion time is 0. -/
theorem conversionHandsItsReading : Obligations.ConversionHandsItsReading := by
  unfold Obligations.ConversionHandsItsReading
  intro after microvolts s hbusy htime
  have due := conversionDue_elapse hbusy htime
  refine ⟨0, fun hdiscard => ?discarded,
    fun hkept i hscan => ⟨fun hoff => ?disabled, fun hrunning henabled => ?enabled⟩, ?supply⟩
  case discarded => exact congrArg _ (conversionComplete_discarded due _ hdiscard)
  case disabled =>
    exact congrArg _ <| (conversionComplete_scan due _ hkept hscan).trans (scanSample_of_not_wanted _ hoff)
  case enabled =>
    exact congrArg _ <| (conversionComplete_scan due _ hkept hscan).trans <|
      scanSample_of_wanted hrunning henabled (bandOf_eq _ _)
  case supply =>
    intro hkept hsupply run sampled hruns
    exact congrArg _ <|
      conversionComplete_supply due _ hkept hsupply (Supply.sample_eq _ _) (Supply.change_eq_none hruns)

end

section
/-! PROOFS. What a step can do: every command lets its wait pass and then does one of the station's operations, or nothing.
A condition that each operation keeps is one that every step keeps. -/

namespace Sys2Proof.Machine

open Sys2Proof.Laws.Clocked

/-- A panel command with what taking it does (sections 12.5 and 12.6). -/
inductive PanelAction : PanelCommand → (List Byte → State → Taken) → Prop
  | readSummary : PanelAction .readSummary actReadSummary
  | readTable : PanelAction .readTable actReadTable
  | readRoster : PanelAction .readRoster actReadRoster
  | readInputs : PanelAction .readInputs actReadInputs
  | readCounters : PanelAction .readCounters actReadCounters
  | post : PanelAction .post actPost
  | withdraw : PanelAction .withdraw actWithdraw
  | silence : PanelAction .silence actSilence
  | restore : PanelAction .restore actRestore
  | test : PanelAction .test actTest
  | clearCounters : PanelAction .clearCounters actClearCounters

/-- The operations of the station that commands bring about. -/
inductive Operation : (State → State) → Prop
  | nothing : Operation fun s => s
  | powerOn (low : Bool) : Operation (powerOn low)
  | rstFall : Operation rstFall
  | resetPin : Operation resetPin
  | rstRise : Operation rstRise
  | settlingWaitEnd (straps : BitVec 5) : Operation (settlingWaitEnd straps)
  | headerReadComplete (header : List Byte) : Operation (headerReadComplete header)
  | missingAcknowledge (sent : Nat) : Operation (missingAcknowledge sent)
  | imageReadComplete (rest : List Byte) : Operation (imageReadComplete rest)
  | loadComplete : Operation loadComplete
  | beatFall : Operation beatFall
  | beatTimerExpiry : Operation beatTimerExpiry
  | markRelease : Operation markRelease
  | barMark : Operation barMark
  | beatRise : Operation beatRise
  | beatStuck : Operation beatStuck
  | eighthMark : Operation eighthMark
  | slotBegin : Operation slotBegin
  | openSlotAttempt : Operation openSlotAttempt
  | slotEnd : Operation slotEnd
  | bitSample : Operation bitSample
  | gapTimeout : Operation gapTimeout
  | dataStuck : Operation dataStuck
  | dataFall : Operation dataFall
  | dataRise : Operation dataRise
  | bitTimeEnd : Operation bitTimeEnd
  | scanNext : Operation scanNext
  | supplyOwnTimer : Operation supplyOwnTimer
  | conversionComplete (reading : Byte) : Operation (conversionComplete reading)
  | qualification (input : Nat) : Operation (qualification input)
  | keyLevelChange (key : Key) (pressed : Bool) : Operation (keyLevelChange key pressed)
  | debounceExpiry (key : Key) : Operation (debounceExpiry key)
  | chirpEnd : Operation chirpEnd
  | periodStart (output : Output) : Operation (periodStart output)
  | transactionOpen : Operation transactionOpen
  | psckRise (psi : Bool) : Operation (psckRise psi)
  | psckFall : Operation psckFall
  | closeNothing : Operation closeNothing
  | closeBad : Operation closeBad
  | closeUnknown : Operation closeUnknown
  | closeCommand {c : PanelCommand} {act : List Byte → State → Taken} (h : PanelAction c act) :
      Operation (closeCommand c act)

/-- A row for a case of an operation does the operation or nothing. -/
theorem Operation.of_ite {op : State → State} (h : Operation op) (p : Prop) [Decidable p] (s : State) :
    ∃ op', Operation op' ∧ (.next (if p then op s else s) : Host.Outcome State Fault Refusal) = .next (op' s) := by
  by_cases hp : p
  · exact ⟨op, h, by rw [if_pos hp]⟩
  · exact ⟨_, .nothing, by rw [if_neg hp]⟩

theorem Operation.beatBy (c : BeatCause) : Operation (beatBy c) := by
  cases c
  · exact .beatFall
  · exact .beatTimerExpiry

theorem Operation.eighthBy (c : EighthCause) : Operation (eighthBy c) := by
  cases c with
  | mark => exact .eighthMark
  | beat b => exact Operation.beatBy b

theorem Operation.zeroBy (c : ZeroCause) : Operation (zeroBy c) := by
  cases c with
  | beat b => exact Operation.beatBy b
  | barMark => exact .barMark

/-- Every command is answered: its wait passes, and then one operation is done or none. -/
theorem exec_operation (c : Instr) (s : State) :
    ∃ op, Operation op ∧ exec c s = .next (op (s.elapse (waitOf c))) := by
  cases c with
  | powerOn _ low => exact ⟨_, .powerOn low, rfl⟩
  | rstFall => exact ⟨_, .rstFall, rfl⟩
  | resetPin => exact ⟨_, .resetPin, rfl⟩
  | rstRise => exact ⟨_, .rstRise, rfl⟩
  | settlingWaitEnd _ straps => exact ⟨_, .settlingWaitEnd straps, rfl⟩
  | headerReadComplete _ header => exact ⟨_, .headerReadComplete header, rfl⟩
  | missingAcknowledge _ sent => exact ⟨_, .missingAcknowledge sent, rfl⟩
  | imageReadComplete _ rest => exact ⟨_, .imageReadComplete rest, rfl⟩
  | loadComplete => exact ⟨_, .loadComplete, rfl⟩
  | beatFall => exact ⟨_, .beatFall, rfl⟩
  | thirdStray => exact Operation.beatFall.of_ite _ _
  | beatTimerExpiry => exact ⟨_, .beatTimerExpiry, rfl⟩
  | enterLocked _ cause => exact (Operation.beatBy cause).of_ite _ _
  | markRelease => exact ⟨_, .markRelease, rfl⟩
  | barMark => exact ⟨_, .barMark, rfl⟩
  | beatRise => exact ⟨_, .beatRise, rfl⟩
  | beatStuck => exact ⟨_, .beatStuck, rfl⟩
  | eighthMark => exact ⟨_, .eighthMark, rfl⟩
  | introEnd _ cause => exact (Operation.eighthBy cause).of_ite _ _
  | testEnd _ cause => exact (Operation.beatBy cause).of_ite _ _
  | messageExpiry _ cause => exact (Operation.beatBy cause).of_ite _ _
  | slotBegin => exact ⟨_, .slotBegin, rfl⟩
  | openSlotAttempt => exact ⟨_, .openSlotAttempt, rfl⟩
  | slotEnd => exact ⟨_, .slotEnd, rfl⟩
  | frameStart => exact Operation.bitSample.of_ite _ _
  | raiseFrame => exact Operation.bitSample.of_ite _ _
  | clearFrame => exact Operation.bitSample.of_ite _ _
  | statusFrame => exact Operation.bitSample.of_ite _ _
  | silenceFrame => exact Operation.bitSample.of_ite _ _
  | restoreFrame => exact Operation.bitSample.of_ite _ _
  | gapTimeout => exact ⟨_, .gapTimeout, rfl⟩
  | readBackMismatch => exact Operation.bitSample.of_ite _ _
  | frameComplete => exact Operation.bitSample.of_ite _ _
  | dataStuck => exact ⟨_, .dataStuck, rfl⟩
  | scanRequest => exact ⟨_, .scanNext, rfl⟩
  | supplyOwnTimer => exact ⟨_, .supplyOwnTimer, rfl⟩
  | conversionComplete _ v => exact ⟨_, .conversionComplete (readingOf v), rfl⟩
  | qualification _ i => exact ⟨_, .qualification i, rfl⟩
  | lowCondition _ v => exact (Operation.conversionComplete (readingOf v)).of_ite _ _
  | normalCondition _ v => exact (Operation.conversionComplete (readingOf v)).of_ite _ _
  | cutoff _ v => exact (Operation.conversionComplete (readingOf v)).of_ite _ _
  | recoveryEvent _ v => exact (Operation.conversionComplete (readingOf v)).of_ite _ _
  | membership _ cause => exact (Operation.zeroBy cause).of_ite _ _
  | keyLevelChange _ key pressed => exact ⟨_, .keyLevelChange key pressed, rfl⟩
  | debounceExpiry _ key => exact ⟨_, .debounceExpiry key, rfl⟩
  | restoreAction _ cause => exact (Operation.eighthBy cause).of_ite _ _
  | chirpEnd => exact ⟨_, .chirpEnd, rfl⟩
  | transactionOpen => exact ⟨_, .transactionOpen, rfl⟩
  | noCommand => exact ⟨_, .closeNothing, rfl⟩
  | unknownCommand => exact ⟨_, .closeUnknown, rfl⟩
  | readSummary => exact ⟨_, .closeCommand .readSummary, rfl⟩
  | readTable => exact ⟨_, .closeCommand .readTable, rfl⟩
  | readRoster => exact ⟨_, .closeCommand .readRoster, rfl⟩
  | readInputs => exact ⟨_, .closeCommand .readInputs, rfl⟩
  | readCounters => exact ⟨_, .closeCommand .readCounters, rfl⟩
  | post => exact ⟨_, .closeCommand .post, rfl⟩
  | withdraw => exact ⟨_, .closeCommand .withdraw, rfl⟩
  | silence => exact ⟨_, .closeCommand .silence, rfl⟩
  | restore => exact ⟨_, .closeCommand .restore, rfl⟩
  | test => exact ⟨_, .closeCommand .test, rfl⟩
  | clearCounters => exact ⟨_, .closeCommand .clearCounters, rfl⟩
  | dataFall => exact ⟨_, .dataFall, rfl⟩
  | dataRise => exact ⟨_, .dataRise, rfl⟩
  | bitSample => exact ⟨_, .bitSample, rfl⟩
  | bitTimeEnd => exact ⟨_, .bitTimeEnd, rfl⟩
  | badCheck => exact ⟨_, .closeBad, rfl⟩
  | psckRise _ psi => exact ⟨_, .psckRise psi, rfl⟩
  | psckFall => exact ⟨_, .psckFall, rfl⟩
  | periodStart _ output => exact ⟨_, .periodStart output, rfl⟩

theorem step_of_pending_eq_cons {s : State} {c : Instr} {rest : List Instr} (h : s.pending = c :: rest) :
    step s = exec c (s.setPending rest) := by
  simp only [step, h]

theorem step_of_pending_eq_nil {s : State} (h : s.pending = []) : step s = .next s := by
  simp only [step, h]

/-- What a step does: it idles, or a wait passes and one operation is done. -/
theorem step_cases {s t : State} (h : step s = .next t) :
    t = s ∨ ∃ (rest : List Instr) (dt : Nat) (op : State → State),
      Operation op ∧ t = op ((s.setPending rest).elapse dt) := by
  cases hp : s.pending with
  | nil =>
    rw [step_of_pending_eq_nil hp] at h
    exact .inl (Host.Outcome.next.inj h).symm
  | cons c rest =>
    obtain ⟨op, hop, hexec⟩ := exec_operation c (s.setPending rest)
    rw [step_of_pending_eq_cons hp, hexec] at h
    exact .inr ⟨rest, waitOf c, op, hop, (Host.Outcome.next.inj h).symm⟩

end Sys2Proof.Machine
end

section
/-! PROOFS. The commands that wait: a step takes the first of them, and no operation touches the others. -/

namespace Sys2Proof.Machine

/-! ### What the operations of the start and of the panel port leave as they were -/

@[simp] theorem coldStart_pending (cause : StartCause) (s : State) : (coldStart cause s).pending = s.pending := rfl

@[simp] theorem enterJoining_pending (s : State) : (enterJoining s).pending = s.pending := by
  simp [enterJoining]

@[simp] theorem warmStart_pending (s : State) : (warmStart s).pending = s.pending := by
  simp [warmStart]

@[simp] theorem enterQuiescent_pending (s : State) : (enterQuiescent s).pending = s.pending := by
  simp [enterQuiescent]

@[simp] theorem rejectImage_pending (s : State) : (rejectImage s).pending = s.pending := by
  simp [rejectImage]

@[simp] theorem loadImage_pending (s : State) : (loadImage s).pending = s.pending := by
  unfold loadImage
  dsimp only
  split <;> simp

@[simp] theorem supplySample_pending (reading : Byte) (s : State) : (supplySample reading s).pending = s.pending := by
  unfold supplySample becomeNormal becomeCutoff recover becomeLow
  dsimp only
  (repeat' split) <;> simp

@[simp] theorem handReading_pending (reading : Byte) (a : Conversion) (discard : Bool) (s : State) :
    (handReading reading a discard s).pending = s.pending := by
  unfold handReading
  (repeat' split) <;> simp

@[simp] theorem closeWith_pending (response : List Byte) (s : State) : (closeWith response s).pending = s.pending := rfl

theorem PanelAction.pending {c : PanelCommand} {act : List Byte → State → Taken} (h : PanelAction c act)
    (payload : List Byte) (s : State) : (act payload s).state.pending = s.pending := by
  cases h
  case post =>
    unfold actPost postRequest turnAway
    dsimp only
    (repeat' split) <;> simp
  case withdraw =>
    unfold actWithdraw turnAway
    dsimp only
    split <;> simp
  case readRoster =>
    unfold actReadRoster turnAway
    dsimp only
    split <;> rfl
  case silence => simp [actSilence]
  case restore => simp [actRestore]
  case test =>
    unfold actTest requestTest turnAway
    dsimp only
    split <;> rfl
  all_goals rfl

theorem closeCommand_pending {c : PanelCommand} {act : List Byte → State → Taken} (h : PanelAction c act) (s : State) :
    (closeCommand c act s).pending = s.pending := by
  unfold closeCommand takeCommand turnAway
  dsimp only
  (repeat' split) <;> simp [h.pending]

/-! ### No operation touches the commands that wait -/

theorem operation_pending {op : State → State} (h : Operation op) (s : State) : (op s).pending = s.pending := by
  cases h
  case closeCommand h => exact closeCommand_pending h s
  case powerOn => rfl
  case nothing => rfl
  case rstFall => unfold rstFall; split <;> rfl
  case resetPin => unfold resetPin; (repeat' split) <;> rfl
  case rstRise => unfold rstRise endWaiting; dsimp only; (repeat' split) <;> rfl
  case settlingWaitEnd => unfold settlingWaitEnd; split <;> rfl
  case headerReadComplete => unfold headerReadComplete; (repeat' split) <;> simp
  case missingAcknowledge => unfold missingAcknowledge; split <;> simp
  case imageReadComplete => unfold imageReadComplete; dsimp only; (repeat' split) <;> simp
  case loadComplete => unfold loadComplete; dsimp only; (repeat' split) <;> simp
  case conversionComplete => unfold conversionComplete; dsimp only; split <;> simp
  case chirpEnd => unfold chirpEnd; (repeat' split) <;> rfl
  case transactionOpen => unfold transactionOpen; split <;> rfl
  case psckRise => unfold psckRise; split <;> rfl
  case psckFall => unfold psckFall; split <;> rfl
  case closeNothing => unfold closeNothing; split <;> rfl
  case closeBad => unfold closeBad; split <;> rfl
  case closeUnknown => unfold closeUnknown; split <;> rfl
  case periodStart => rfl
  all_goals simp

end Sys2Proof.Machine

open Sys2Proof Sys2Proof.Machine

/-- Settles O1: the two branches of `step`. -/
theorem stepRunsTheFrontCommand : Obligations.StepRunsTheFrontCommand := by
  unfold Obligations.StepRunsTheFrontCommand
  exact ⟨fun _ _ _ => step_of_pending_eq_cons, fun _ => step_of_pending_eq_nil⟩

/-- Settles O2: every command lets time pass and does one operation, and neither touches the commands that wait. -/
theorem everyCommandAnswersAndKeepsTheQueue : Obligations.EveryCommandAnswersAndKeepsTheQueue := by
  unfold Obligations.EveryCommandAnswersAndKeepsTheQueue
  intro c s
  obtain ⟨op, hop, hexec⟩ := exec_operation c s
  exact ⟨_, hexec, operation_pending hop _⟩

end

section
/-! PROOFS. What the operations of the drives and of the player leave as it was: the supply cap and the quiescence of the
drives, and the player's wanted pattern and sound indication (chapters 6 and 7). -/

namespace Sys2Proof.Machine

/-! ### The drives keep the cap and their quiescence -/

@[simp] theorem Drive.setTone_frame (source : SounderSource) (t : ToneStep) (d : Drive) :
    (d.setTone source t).cap = d.cap ∧ (d.setTone source t).quiescent = d.quiescent := ⟨rfl, rfl⟩

@[simp] theorem Drive.hush_frame (d : Drive) : d.hush.cap = d.cap ∧ d.hush.quiescent = d.quiescent := ⟨rfl, rfl⟩

@[simp] theorem Drive.handPattern_frame (t : ToneStep) (d : Drive) :
    (d.handPattern t).cap = d.cap ∧ (d.handPattern t).quiescent = d.quiescent := by
  unfold Drive.handPattern; (repeat' split) <;> simp

@[simp] theorem Drive.handTest_frame (offset : Nat) (d : Drive) :
    (d.handTest offset).cap = d.cap ∧ (d.handTest offset).quiescent = d.quiescent := by
  unfold Drive.handTest; split <;> simp

@[simp] theorem Drive.silentMark_frame (d : Drive) :
    d.silentMark.cap = d.cap ∧ d.silentMark.quiescent = d.quiescent := by
  unfold Drive.silentMark; (repeat' split) <;> simp

@[simp] theorem Drive.withdrawPattern_frame (d : Drive) :
    d.withdrawPattern.cap = d.cap ∧ d.withdrawPattern.quiescent = d.quiescent := by
  unfold Drive.withdrawPattern; split <;> simp

@[simp] theorem Drive.withdrawTest_frame (d : Drive) :
    d.withdrawTest.cap = d.cap ∧ d.withdrawTest.quiescent = d.quiescent := by
  unfold Drive.withdrawTest; split <;> simp

@[simp] theorem Drive.chirpRequest_frame (d : Drive) :
    d.chirpRequest.cap = d.cap ∧ d.chirpRequest.quiescent = d.quiescent := by
  unfold Drive.chirpRequest; (repeat' split) <;> simp

@[simp] theorem Drive.chirpEnd_frame (d : Drive) : d.chirpEnd.cap = d.cap ∧ d.chirpEnd.quiescent = d.quiescent := by
  unfold Drive.chirpEnd; split <;> simp

@[simp] theorem Drive.handIntensity_frame (intensity : Nat) (d : Drive) :
    (d.handIntensity intensity).cap = d.cap ∧ (d.handIntensity intensity).quiescent = d.quiescent := by
  unfold Drive.handIntensity; split <;> simp

@[simp] theorem Drive.periodStart_frame (o : Output) (d : Drive) :
    (d.periodStart o).cap = d.cap ∧ (d.periodStart o).quiescent = d.quiescent := by
  unfold Drive.periodStart; (repeat' split) <;> simp

/-! ### The player's marks keep what the table gave it -/

/-- The part of the player and its drives that only claims and starts change. -/
def Playing.given (g : Playing) : Option Nat × Bool × Bool × Bool :=
  (g.player.wanted, g.player.sound, g.drive.cap, g.drive.quiescent)

@[simp] theorem Playing.given_hand (st : Step) (offset : Nat) (g : Playing) : (g.hand st offset).given = g.given := by
  unfold Playing.hand Playing.given; dsimp only; split <;> simp

@[simp] theorem Playing.given_silentMark (g : Playing) : g.silentMark.given = g.given := by
  simp [Playing.silentMark, Playing.given]

@[simp] theorem Playing.given_testMark (offset : Nat) (g : Playing) : (g.testMark offset).given = g.given := by
  simp [Playing.testMark, Playing.given]

@[simp] theorem Playing.given_cycleMark (l : Library) (c : Clock) (p : Nat) (g : Playing) :
    (g.cycleMark l c p).given = g.given := by
  unfold Playing.cycleMark; split <;> simp

@[simp] theorem Playing.given_introMark (l : Library) (c : Clock) (p : Nat) (g : Playing) :
    (g.introMark l c p).given = g.given := by
  unfold Playing.introMark
  split
  · next st offset _ => exact Playing.given_hand st offset g
  · exact Playing.given_cycleMark ..

@[simp] theorem Playing.given_mark (l : Library) (c : Clock) (g : Playing) : (g.mark l c).given = g.given := by
  unfold Playing.mark
  split
  · exact Playing.given_silentMark _
  · split <;> simp

@[simp] theorem Playing.given_beat (l : Library) (c : Clock) (g : Playing) : (g.beat l c).given = g.given := by
  unfold Playing.beat
  dsimp only
  (repeat' split) <;> simp <;> rfl

theorem setPlaying_given {s : State} {g : Playing} (h : g.given = s.playing.given) :
    (s.setPlaying g).player.wanted = s.player.wanted ∧ (s.setPlaying g).player.sound = s.player.sound
      ∧ (s.setPlaying g).drive.cap = s.drive.cap ∧ (s.setPlaying g).drive.quiescent = s.drive.quiescent := by
  simp only [Playing.given, State.playing, Prod.mk.injEq] at h
  exact h

@[simp] theorem playerMark_given (s : State) :
    (playerMark s).player.wanted = s.player.wanted ∧ (playerMark s).player.sound = s.player.sound
      ∧ (playerMark s).drive.cap = s.drive.cap ∧ (playerMark s).drive.quiescent = s.drive.quiescent :=
  setPlaying_given (Playing.given_mark ..)

@[simp] theorem playerBeat_given (s : State) :
    (playerBeat s).player.wanted = s.player.wanted ∧ (playerBeat s).player.sound = s.player.sound
      ∧ (playerBeat s).drive.cap = s.drive.cap ∧ (playerBeat s).drive.quiescent = s.drive.quiescent :=
  setPlaying_given (Playing.given_beat ..)

/-! ### A claim keeps the cap and the quiescence of the drives -/

@[simp] theorem handHead_drive_frame (before : List Entry) (s : State) :
    (handHead before s).drive.cap = s.drive.cap ∧ (handHead before s).drive.quiescent = s.drive.quiescent := by
  unfold handHead Playing.headChange
  dsimp only
  (repeat' split) <;> simp [State.setPlaying, State.playing]

@[simp] theorem handSound_drive_frame (s : State) :
    (handSound s).drive.cap = s.drive.cap ∧ (handSound s).drive.quiescent = s.drive.quiescent := by
  rw [(handSound_effect s).2.1]
  split <;> simp

@[simp] theorem takeClaim_drive_frame (after : List Entry) (s : State) :
    (takeClaim after s).drive.cap = s.drive.cap ∧ (takeClaim after s).drive.quiescent = s.drive.quiescent := by
  simp [takeClaim]

end Sys2Proof.Machine
end

section
/-! PROOFS. The transmit queue stays within its capacity, in line order and merged (chapter 4). -/

namespace Sys2Proof.Machine

/-! ### Order and merging -/

/-- Whether two messages may both wait, in this order: `Message.mayPrecede`, which reads the news alone. -/
theorem mayPrecede_congr {a b a' b' : Message} (ha : a'.news = a.news) (hb : b'.news = b.news) (h : a.mayPrecede b) :
    a'.mayPrecede b' := by
  simpa only [Message.mayPrecede, ha, hb] using h

theorem pairwise_mayPrecede_map {f : Message → Message} (hf : ∀ m, (f m).news = m.news) {l : List Message}
    (h : l.Pairwise Message.mayPrecede) : (l.map f).Pairwise Message.mayPrecede :=
  List.pairwise_map.2 (h.imp fun hab => mayPrecede_congr (hf _) (hf _) hab)

/-- A message that may wait with the others takes its place among them (R78). -/
theorem placeMessage_pairwise {m : Message} {l : List Message} (h : l.Pairwise Message.mayPrecede)
    (hbefore : ∀ x ∈ l, x.news.lead ≤ m.news.lead → x.mayPrecede m)
    (hafter : ∀ x ∈ l, m.news.lead < x.news.lead → m.mayPrecede x) :
    (placeMessage m l).Pairwise Message.mayPrecede := by
  induction l with
  | nil => simp [placeMessage]
  | cons x xs ih =>
    obtain ⟨hx, hxs⟩ := List.pairwise_cons.1 h
    unfold placeMessage
    split
    · next hle =>
      refine List.pairwise_cons.2 ⟨fun y hy => ?_, ih hxs
        (fun y hy => hbefore y (List.mem_cons_of_mem _ hy)) (fun y hy => hafter y (List.mem_cons_of_mem _ hy))⟩
      rcases List.mem_cons.1 ((placeMessage_perm m xs).mem_iff.1 hy) with rfl | hy
      · exact hbefore x List.mem_cons_self hle
      · exact hx y hy
    · next hlt =>
      refine List.pairwise_cons.2 ⟨fun y hy => ?_, h⟩
      rcases List.mem_cons.1 hy with rfl | hy'
      · exact hafter y hy (Nat.lt_of_not_le hlt)
      · exact hafter y hy ((Nat.lt_of_not_le hlt).trans_le (hx y hy').1)

/-- Whether news may join messages: each of them may stand on its side of it (R78, R80 to R82). -/
def News.fits (n : News) (l : List Message) : Prop :=
  ∀ x ∈ l, (∀ i, ¬ (x.news.isRaiseOf i = true ∧ n.isClearOf i = true))
    ∧ (∀ i, ¬ (n.isRaiseOf i = true ∧ x.news.isClearOf i = true))
    ∧ (n = .silence → x.news ≠ .silence) ∧ (n = .restore → x.news ≠ .restore)

theorem News.fits.of_sublist {n : News} {l k : List Message} (h : n.fits l) (hk : k.Sublist l) : n.fits k :=
  fun x hx => h x (hk.subset hx)

theorem placeMessage_pairwise_of_fits {m : Message} {l : List Message} (h : l.Pairwise Message.mayPrecede)
    (hfits : m.news.fits l) : (placeMessage m l).Pairwise Message.mayPrecede := by
  refine placeMessage_pairwise h (fun x hx hle => ?_) (fun x hx hlt => ?_)
  · obtain ⟨hclear, -, hsilence, hrestore⟩ := hfits x hx
    exact ⟨hle, hclear, fun hs hm => hsilence hm hs, fun hr hm => hrestore hm hr⟩
  · obtain ⟨-, hraise, hsilence, hrestore⟩ := hfits x hx
    exact ⟨hlt.le, hraise, hsilence, hrestore⟩

/-! ### The queue's operations -/

theorem TxQueue.Ok.without {q : TxQueue} (h : q.Ok) (p : Message → Bool) : (q.without p).Ok := by
  obtain ⟨hlen, hpair, hage⟩ := h
  exact ⟨(List.length_filter_le _ _).trans hlen, hpair.sublist List.filter_sublist,
    fun m hm => hage m (List.mem_of_mem_filter hm)⟩

theorem TxQueue.empty_ok : TxQueue.empty.Ok := by
  simp [TxQueue.empty, TxQueue.Ok]

/-- A place taken in a queue that has room. -/
theorem placeMessage_queue_ok {n : News} {l : List Message} {j k : Nat} (hlen : l.length < queueCapacity)
    (hpair : l.Pairwise Message.mayPrecede) (hage : ∀ m ∈ l, m.age < expiryAge) (hfits : n.fits l) :
    TxQueue.Ok ⟨placeMessage ⟨n, j, 0, false⟩ l, k⟩ := by
  have hperm := placeMessage_perm ⟨n, j, 0, false⟩ l
  refine ⟨?_, placeMessage_pairwise_of_fits hpair hfits, fun m hm => ?_⟩
  · rw [hperm.length_eq, List.length_cons]
    exact hlen
  · rcases List.mem_cons.1 (hperm.mem_iff.1 hm) with rfl | hm
    · exact Nat.zero_lt_succ _
    · exact hage m hm

theorem TxQueue.Ok.takeIn {q : TxQueue} {n : News} (h : q.Ok) (hfits : n.fits q.messages) : (q.takeIn n).1.Ok := by
  obtain ⟨hlen, hpair, hage⟩ := h
  unfold TxQueue.takeIn
  dsimp only
  split
  · next hroom => exact placeMessage_queue_ok hroom hpair hage hfits
  · next hfull =>
    split
    · next hnone =>
      rw [List.getLast?_eq_none_iff.1 hnone] at hfull
      exact absurd (by decide) hfull
    · split
      · have hsub : q.messages.dropLast.Sublist q.messages := List.dropLast_sublist _
        refine placeMessage_queue_ok ?_ (hpair.sublist hsub) (fun m hm => hage m (hsub.subset hm)) (hfits.of_sublist hsub)
        rw [List.length_dropLast]
        simp only [queueCapacity] at hlen hfull ⊢
        omega
      · exact ⟨hlen, hpair, hage⟩

/-- A RAISE fits a queue without a CLEAR of its input (R80). -/
theorem News.raise_fits {i : Nat} {r : Request} {l : List Message} (h : ∀ m ∈ l, m.news.isClearOf i = false) :
    News.fits (.raise i r) l := by
  intro x hx
  refine ⟨by simp [News.isClearOf], fun j hj => ?_, by simp, by simp⟩
  obtain ⟨hraise, hclear⟩ := hj
  obtain rfl : i = j := by simpa [News.isRaiseOf] using hraise
  simp [h x hx] at hclear

/-- A CLEAR fits a queue without a RAISE of its input (R81). -/
theorem News.clear_fits {i : Nat} {r : Request} {l : List Message} (h : ∀ m ∈ l, m.news.isRaiseOf i = false) :
    News.fits (.clear i r) l := by
  intro x hx
  refine ⟨fun j hj => ?_, by simp [News.isRaiseOf], by simp, by simp⟩
  obtain ⟨hraise, hclear⟩ := hj
  obtain rfl : i = j := by simpa [News.isClearOf] using hclear
  simp [h x hx] at hraise

theorem News.silence_fits {l : List Message} (h : ∀ m ∈ l, m.news ≠ .silence) : News.fits .silence l :=
  fun x hx => ⟨by simp [News.isClearOf], by simp [News.isRaiseOf], fun _ => h x hx, by simp⟩

theorem News.restore_fits {l : List Message} (h : ∀ m ∈ l, m.news ≠ .restore) : News.fits .restore l :=
  fun x hx => ⟨by simp [News.isClearOf], by simp [News.isRaiseOf], by simp, fun _ => h x hx⟩

theorem TxQueue.Ok.join {q : TxQueue} (n : News) (h : q.Ok) : (q.join n).1.Ok := by
  cases n with
  | raise i r =>
    refine TxQueue.Ok.takeIn (h.without _) (News.raise_fits fun m hm => ?_)
    simpa using (List.mem_filter.1 hm).2
  | clear i r =>
    simp only [TxQueue.join]
    split
    · split
      · refine TxQueue.Ok.takeIn (h.without _) (News.clear_fits fun m hm => ?_)
        simpa using (List.mem_filter.1 hm).2
      · exact h.without _
    · next hnone =>
      exact h.takeIn (News.clear_fits fun m hm => by simpa using List.find?_eq_none.1 hnone m hm)
  | silence =>
    simp only [TxQueue.join]
    split
    · exact h
    · next hnone =>
      exact h.takeIn (News.silence_fits fun m hm hs => hnone (List.any_eq_true.2 ⟨m, hm, by simp [hs]⟩))
  | restore =>
    simp only [TxQueue.join]
    split
    · exact h
    · next hnone =>
      exact h.takeIn (News.restore_fits fun m hm hr => hnone (List.any_eq_true.2 ⟨m, hm, by simp [hr]⟩))

@[simp] theorem Message.aged_news (m : Message) : m.aged.news = m.news := by
  unfold Message.aged; split <;> rfl

theorem TxQueue.Ok.age {q : TxQueue} (h : q.Ok) : q.age.1.Ok := by
  obtain ⟨hlen, hpair, hage⟩ := h
  refine ⟨?_, (pairwise_mayPrecede_map Message.aged_news hpair).sublist List.filter_sublist, fun m hm => ?_⟩
  · exact (List.length_filter_le _ _).trans (by simpa using hlen)
  · obtain ⟨hmem, hfresh⟩ := List.mem_filter.1 hm
    obtain ⟨a, ha, rfl⟩ := List.mem_map.1 hmem
    by_cases hages : a.news.ages = true
    · simpa [Message.expired, hages] using hfresh
    · simpa [Message.aged, hages] using hage a ha

theorem TxQueue.Ok.offerHead {q : TxQueue} (h : q.Ok) : q.offerHead.Ok := by
  obtain ⟨hlen, hpair, hage⟩ := h
  unfold TxQueue.offerHead
  split
  · exact ⟨hlen, hpair, hage⟩
  · next m ms heq =>
    rw [heq] at hlen hpair hage
    obtain ⟨hm, hms⟩ := List.pairwise_cons.1 hpair
    refine ⟨hlen, List.pairwise_cons.2 ⟨hm, hms⟩, fun x hx => ?_⟩
    rcases List.mem_cons.1 hx with rfl | hx
    · exact hage m List.mem_cons_self
    · exact hage x (List.mem_cons_of_mem _ hx)

theorem TxQueue.Ok.sent {q : TxQueue} (h : q.Ok) : q.sent.Ok :=
  h.without _

theorem TxQueue.Ok.backFromLine {q : TxQueue} (h : q.Ok) : q.backFromLine.Ok := by
  obtain ⟨hlen, hpair, hage⟩ := h
  refine ⟨by simpa [TxQueue.backFromLine] using hlen, pairwise_mayPrecede_map (f := fun m => { m with onLine := false }) (fun _ => rfl) hpair, fun m hm => ?_⟩
  obtain ⟨a, ha, rfl⟩ := List.mem_map.1 hm
  exact hage a ha

end Sys2Proof.Machine
end

section
/-! PROOFS. The cue table keeps its capacity, its keys and its rank order through every claim (chapter 2). -/

namespace Sys2Proof.Machine

/-! ### Rank and key -/

/-- What rank and key are read from (R26, R27). -/
def Entry.rank (e : Entry) : Nat × Nat × Nat × Nat :=
  (e.priority, e.cue, e.origin, e.input)

theorem before_congr {a b a' b' : Entry} (ha : a'.rank = a.rank) (hb : b'.rank = b.rank) :
    a'.before b' = a.before b := by
  simp only [Entry.rank, Prod.mk.injEq] at ha hb
  obtain ⟨hap, hac, hao, hai⟩ := ha
  obtain ⟨hbp, hbc, hbo, hbi⟩ := hb
  simp only [Entry.before, hap, hac, hao, hai, hbp, hbc, hbo, hbi]

theorem otherKey_congr {a b a' b' : Entry} (ha : a'.rank = a.rank) (hb : b'.rank = b.rank) :
    a'.otherKey b' ↔ a.otherKey b := by
  simp only [Entry.rank, Prod.mk.injEq] at ha hb
  obtain ⟨-, -, hao, hai⟩ := ha
  obtain ⟨-, -, hbo, hbi⟩ := hb
  simp only [Entry.otherKey, hao, hai, hbo, hbi]

theorem Entry.otherKey.symm {a b : Entry} (h : a.otherKey b) : b.otherKey a :=
  fun k => h ⟨k.1.symm, k.2.symm⟩

theorem Entry.hasKey_iff {o i : Nat} {e : Entry} : e.hasKey o i = true ↔ e.origin = o ∧ e.input = i := by
  simp [Entry.hasKey]

theorem Entry.hasKey_eq_false {o i : Nat} {e : Entry} : e.hasKey o i = false ↔ ¬ (e.origin = o ∧ e.input = i) := by
  rw [← Entry.hasKey_iff, Bool.not_eq_true]

/-! ### What is left of a table, with its ranks unchanged -/

theorem TableOk.nil : TableOk [] := by
  simp [TableOk]

theorem TableOk.filterMap {table : List Entry} (h : TableOk table) {f : Entry → Option Entry}
    (hf : ∀ e e', f e = some e' → e'.rank = e.rank) : TableOk (table.filterMap f) := by
  obtain ⟨hlen, hpair⟩ := h
  refine ⟨(List.length_filterMap_le _ _).trans hlen, List.Pairwise.filterMap f (fun a b hab a' ha b' hb => ?_) hpair⟩
  rw [before_congr (hf a a' ha) (hf b b' hb), otherKey_congr (hf a a' ha) (hf b b' hb)]
  exact hab

theorem TableOk.map {table : List Entry} (h : TableOk table) {f : Entry → Entry} (hf : ∀ e, (f e).rank = e.rank) :
    TableOk (table.map f) := by
  rw [← List.filterMap_eq_map]
  exact h.filterMap fun e e' he => by
    obtain rfl : f e = e' := by simpa using he
    exact hf e

theorem Entry.missed_rank {o : Nat} {state : PeerState} {e e' : Entry} (h : e.missed o state = some e') :
    e'.rank = e.rank := by
  unfold Entry.missed at h
  dsimp only at h
  split_ifs at h <;> (try split at h) <;> cases h <;> rfl

theorem Entry.restored_rank {own : Nat} {held : Nat → Bool} {e e' : Entry} (h : e.restored own held = some e') :
    e'.rank = e.rank := by
  unfold Entry.restored at h
  split_ifs at h <;> cases h <;> rfl

theorem TableOk.silence {table : List Entry} (h : TableOk table) : TableOk (silenceEntries table) :=
  h.map fun _ => rfl

theorem TableOk.restore {table : List Entry} (h : TableOk table) (own : Nat) (held : Nat → Bool) :
    TableOk (restoreEntries own held table) :=
  h.filterMap fun _ _ => Entry.restored_rank

theorem TableOk.miss {table : List Entry} (h : TableOk table) (own origin : Nat) (state : PeerState) :
    TableOk (missEntries own origin state table) := by
  unfold missEntries
  split
  · exact h
  · exact h.filterMap fun _ _ => Entry.missed_rank

theorem TableOk.withoutKey {table : List Entry} (h : TableOk table) (o i : Nat) : TableOk (withoutKey o i table) :=
  filter_tableOk _ _ h

/-! ### Entries placed -/

/-- An entry of a new key takes its place in a table that has room (R27). -/
theorem TableOk.place {table : List Entry} (h : TableOk table) {e : Entry} (hroom : table.length < tableCapacity)
    (hkey : ∀ x ∈ table, e.otherKey x) : TableOk (placeEntry e table) :=
  ⟨by rw [(placeEntry_perm e table).length_eq, List.length_cons]; exact hroom, placeEntry_ok e table h.2 hkey⟩

theorem withoutKey_otherKey {o i : Nat} {table : List Entry} {e : Entry} (ho : e.origin = o) (hi : e.input = i) :
    ∀ x ∈ withoutKey o i table, e.otherKey x := by
  intro x hx k
  obtain ⟨-, hne⟩ := (withoutKey_mem o i table x).1 hx
  exact hne ⟨k.1.symm.trans ho, k.2.symm.trans hi⟩

theorem withoutKey_length_lt {o i : Nat} {table : List Entry} {e : Entry} (he : e ∈ table)
    (hkey : e.hasKey o i = true) : (withoutKey o i table).length < table.length :=
  List.length_filter_lt_length_iff_exists.2 ⟨e, he, by simp [hkey]⟩

theorem lastForeign_mem {own : Nat} {table : List Entry} {e : Entry} (h : lastForeign own table = some e) :
    e ∈ table ∧ e.origin ≠ own := by
  obtain ⟨hmem, hforeign⟩ := List.mem_filter.1 (List.mem_of_getLast? h)
  exact ⟨hmem, by simpa [Entry.foreign] using hforeign⟩

theorem evictLast_of_lastForeign {own : Nat} {table : List Entry} {l : Entry} (h : lastForeign own table = some l) :
    evictLast own table = Machine.withoutKey l.origin l.input table := by
  simp only [evictLast, h]

/-- Room is made for one entry where the table holds a foreign one (R30, R31). -/
theorem evictLast_length_lt {own : Nat} {table : List Entry} {l : Entry} (h : TableOk table)
    (hl : lastForeign own table = some l) : (evictLast own table).length < tableCapacity := by
  rw [evictLast_of_lastForeign hl]
  exact (withoutKey_length_lt (lastForeign_mem hl).1 (Entry.hasKey_iff.2 ⟨rfl, rfl⟩)).trans_le h.1

theorem evictLast_sublist (own : Nat) (table : List Entry) : (evictLast own table).Sublist table := by
  unfold evictLast
  split
  · exact List.filter_sublist
  · exact List.Sublist.refl _

theorem TableOk.evict {table : List Entry} (h : TableOk table) (own : Nat) : TableOk (evictLast own table) :=
  ⟨(evictLast_sublist own table).length_le.trans h.1, h.2.sublist (evictLast_sublist own table)⟩

theorem TableOk.place_evicted {table : List Entry} (h : TableOk table) {own : Nat} {e l : Entry}
    (hl : lastForeign own table = some l) (hkey : ∀ x ∈ table, e.otherKey x) :
    TableOk (placeEntry e (evictLast own table)) :=
  (h.evict own).place (evictLast_length_lt h hl) fun x hx => hkey x ((evictLast_sublist own table).subset hx)

theorem TableOk.insertOwn {table : List Entry} (h : TableOk table) {own : Nat} {e : Entry}
    (hkey : ∀ x ∈ table, e.otherKey x) : TableOk (insertOwn own e table).1 := by
  unfold Machine.insertOwn
  split
  · next hroom => exact h.place hroom hkey
  · split
    · next l hl => exact h.place_evicted hl hkey
    · exact h

theorem TableOk.insertForeign {table : List Entry} (h : TableOk table) {own : Nat} {e : Entry}
    (hkey : ∀ x ∈ table, e.otherKey x) : TableOk (insertForeign own e table).1 := by
  unfold Machine.insertForeign
  split
  · next hroom => exact h.place hroom hkey
  · split
    · next l hl =>
      split
      · exact h.place_evicted hl hkey
      · exact h
    · exact h

/-- No entry of a table has the key that a search for it did not find. -/
theorem otherKey_of_find?_eq_none {o i : Nat} {table : List Entry} {e : Entry} (ho : e.origin = o) (hi : e.input = i)
    (h : table.find? (Entry.hasKey o i) = none) : ∀ x ∈ table, e.otherKey x := by
  intro x hx k
  exact List.find?_eq_none.1 h x hx (Entry.hasKey_iff.2 ⟨k.1.symm.trans ho, k.2.symm.trans hi⟩)

theorem mem_hasKey_of_find? {o i : Nat} {table : List Entry} {e : Entry}
    (h : table.find? (Entry.hasKey o i) = some e) : e ∈ table ∧ e.origin = o ∧ e.input = i :=
  ⟨List.mem_of_find?_eq_some h, Entry.hasKey_iff.1 (List.find?_some h)⟩

theorem TableOk.applyItem {table : List Entry} (h : TableOk table) (own sender : Nat) (stamp : Stamp) (i : Item) :
    TableOk (applyItem own sender stamp i table).1 := by
  unfold Machine.applyItem
  split
  · next e he =>
    obtain ⟨hmem, ho, hi⟩ := mem_hasKey_of_find? he
    exact (h.withoutKey sender i.input).place
      ((withoutKey_length_lt hmem (List.find?_some he)).trans_le h.1) (withoutKey_otherKey ho hi)
  · next hnone => exact h.insertForeign (otherKey_of_find?_eq_none rfl rfl hnone)

theorem TableOk.applyItems (own sender : Nat) (stamp : Stamp) (items : List Item) {table : List Entry}
    (h : TableOk table) : TableOk (applyItems own sender stamp items table).1 := by
  induction items generalizing table with
  | nil => exact h
  | cons i rest ih => exact ih (h.applyItem own sender stamp i)

theorem TableOk.applyStatusItems {table : List Entry} (h : TableOk table) (own sender : Nat) (stamp : Stamp)
    (items : List Item) : TableOk (applyStatusItems own sender stamp items table).1 :=
  TableOk.applyItems own sender stamp items (filter_tableOk _ _ h)

end Sys2Proof.Machine
end

section
/-! PROOFS. Counts, sizes, the player and the four faults: what every operation keeps, whatever the station's state. The
operations that chapters share, and those of the slots and the beat. -/

namespace Sys2Proof.Machine

/-- The conditions that each operation keeps by itself: counters, table, queue, sizes, the player that follows the table and
the faults that follow their causes. -/
structure State.Kept (s : State) : Prop where
  counters : s.counters.Ok
  table : TableOk s.table
  queue : s.queue.Ok
  sizes : s.SizesOk
  player : s.PlayerOk
  faults : s.FaultsOk

theorem State.Ok.kept {s : State} (h : s.Ok) : s.Kept :=
  ⟨h.counters, h.table, h.queue, h.sizes, h.player, h.faults⟩

/-- Nothing but these blocks is read by the conditions. -/
theorem State.Kept.of_eq {s t : State} (h : s.Kept)
    (e : t.counters = s.counters ∧ t.table = s.table ∧ t.queue = s.queue ∧ t.roster = s.roster ∧ t.inputs = s.inputs
      ∧ t.player.wanted = s.player.wanted ∧ t.player.sound = s.player.sound ∧ t.library = s.library
      ∧ t.faults = s.faults ∧ t.supply.condition = s.supply.condition ∧ t.beat.stuck = s.beat.stuck
      ∧ t.drive.cap = s.drive.cap) : t.Kept := by
  obtain ⟨hc, ht, hq, hz, hp, hf⟩ := h
  obtain ⟨ec, et, eq, er, ei, ew, es, el, ef, eu, eb, ed⟩ := e
  constructor
  · rwa [ec]
  · rwa [et]
  · rwa [eq]
  · simpa only [State.SizesOk, er, ei] using hz
  · simpa only [State.PlayerOk, et, ew, es, el] using hp
  · simpa only [State.FaultsOk, er, ei, ef, eu, eb, ed] using hf

/-! ### Reports, counters and the queue -/

/-- The faults whose causes no state shows. -/
def FaultName.reportedOnly : FaultName → Bool
  | .addressConflict | .config | .dataLine | .tableOverflow => true
  | .peerMissing | .lineFault | .supplyLow | .beatStuck => false

section
variable {s : State}

@[simp] theorem markAttn_kept (h : s.Kept) : (markAttn s).Kept := h.of_eq (by simp)

theorem faultsOk_of_hasFault {t : State} (h : s.FaultsOk)
    (hf : ∀ f, f.reportedOnly = false → hasFault t.faults f = hasFault s.faults f)
    (e : t.roster = s.roster ∧ t.inputs = s.inputs ∧ t.supply = s.supply ∧ t.beat = s.beat ∧ t.drive = s.drive) :
    t.FaultsOk := by
  obtain ⟨er, ei, es, eb, ed⟩ := e
  simpa only [State.FaultsOk, hf .peerMissing rfl, hf .lineFault rfl, hf .supplyLow rfl, hf .beatStuck rfl, er, ei, es,
    eb, ed] using h

theorem setFault_faults (f : FaultName) (s : State) : (setFault f s).faults = s.faults ||| f.mask := by
  rw [setFault_eq]
  rfl

theorem clearFault_faults (f : FaultName) (s : State) : (clearFault f s).faults = s.faults &&& ~~~f.mask := by
  rw [clearFault_eq]
  rfl

@[simp] theorem setFault_kept {f : FaultName} (hf : f.reportedOnly = true) (h : s.Kept) : (setFault f s).Kept := by
  obtain ⟨hc, ht, hq, hz, hp, hfaults⟩ := h
  refine ⟨by simpa using hc, by simpa using ht, by simpa using hq, by simpa [State.SizesOk] using hz,
    by simpa [State.PlayerOk] using hp, faultsOk_of_hasFault hfaults (fun g hg => ?_) (by simp)⟩
  have hne : f ≠ g := fun e => by simp [e, hg] at hf
  rw [setFault_faults, hasFault_or, decide_eq_false hne, Bool.or_false]

@[simp] theorem clearFault_kept {f : FaultName} (hf : f.reportedOnly = true) (h : s.Kept) : (clearFault f s).Kept := by
  obtain ⟨hc, ht, hq, hz, hp, hfaults⟩ := h
  refine ⟨by simpa using hc, by simpa using ht, by simpa using hq, by simpa [State.SizesOk] using hz,
    by simpa [State.PlayerOk] using hp, faultsOk_of_hasFault hfaults (fun g hg => ?_) (by simp)⟩
  have hne : f ≠ g := fun e => by simp [e, hg] at hf
  rw [clearFault_faults, hasFault_and, decide_eq_false hne, Bool.not_false, Bool.and_true]

theorem setCounters_kept (h : s.Kept) {c : Counters} (hc : c.Ok) : (s.setCounters c).Kept :=
  ⟨hc, h.table, h.queue, h.sizes, h.player, h.faults⟩

theorem setQueue_kept (h : s.Kept) {q : TxQueue} (hq : q.Ok) : (s.setQueue q).Kept :=
  ⟨h.counters, h.table, hq, h.sizes, h.player, h.faults⟩

@[simp] theorem bump_kept (n : CounterName) (h : s.Kept) : (bump n s).Kept := by
  have hc := bump_counters_ok n s h.counters
  exact (setCounters_kept h hc).of_eq (by simp)

@[simp] theorem bumpTimes_kept (n : CounterName) (k : Nat) (h : s.Kept) : (bumpTimes n k s).Kept := by
  induction k generalizing s with
  | zero => exact h
  | succ k ih => exact ih (bump_kept n h)

@[simp] theorem enqueue_kept (n : News) (h : s.Kept) : (enqueue n s).Kept := by
  have hq := setQueue_kept h (h.queue.join n)
  unfold enqueue
  dsimp only
  split
  · exact bump_kept _ hq
  · exact hq

@[simp] theorem ageQueue_kept (h : s.Kept) : (ageQueue s).Kept :=
  bumpTimes_kept _ _ (setQueue_kept h h.queue.age)

/-! ### Claims on the table -/

/-- A claim keeps the player on the table (R28, R29, R120). -/
theorem takeClaim_kept (h : s.Kept) {after : List Entry} (ha : TableOk after) : (takeClaim after s).Kept := by
  obtain ⟨hc, -, hq, hz, hp, hf⟩ := h
  refine ⟨by simpa using hc, by simpa using ha, by simpa using hq, by simpa [State.SizesOk] using hz, ⟨?_, ?_⟩,
    by simpa [State.FaultsOk] using hf⟩
  · simpa using takeClaim_wanted after s hp.1
  · simpa using takeClaim_sound after s

@[simp] theorem countOverflow_kept (n : Nat) (h : s.Kept) : (countOverflow n s).Kept := by
  unfold countOverflow
  split
  · exact h
  · exact setFault_kept rfl (bumpTimes_kept _ _ h)

@[simp] theorem localRaise_kept (i : Nat) (r : Request) (h : s.Kept) : (localRaise i r s).Kept := by
  refine enqueue_kept _ (takeClaim_kept (countOverflow_kept _ h) ?_)
  exact (h.table.withoutKey s.startup.ownAddr i).insertOwn (withoutKey_otherKey rfl rfl)

@[simp] theorem localWithdraw_kept (i : Nat) (h : s.Kept) : (localWithdraw i s).Kept := by
  unfold localWithdraw
  split
  · exact h
  · exact enqueue_kept _ (takeClaim_kept h (h.table.withoutKey _ _))

@[simp] theorem applySilence_kept (h : s.Kept) : (applySilence s).Kept := takeClaim_kept h h.table.silence

@[simp] theorem originateSilence_kept (h : s.Kept) : (originateSilence s).Kept := enqueue_kept _ (applySilence_kept h)

@[simp] theorem missReport_kept (o : Nat) (p : PeerState) (h : s.Kept) : (missReport o p s).Kept :=
  takeClaim_kept h (h.table.miss _ _ _)

@[simp] theorem applyRaise_kept (o : Nat) (stamp : Stamp) (items : List Item) (h : s.Kept) :
    (applyRaise o stamp items s).Kept :=
  takeClaim_kept (countOverflow_kept _ h) (TableOk.applyItems _ _ _ _ h.table)

@[simp] theorem applyClear_kept (o : Nat) (items : List Item) (h : s.Kept) : (applyClear o items s).Kept :=
  takeClaim_kept h (filter_tableOk _ _ h.table)

@[simp] theorem applyStatus_kept (o : Nat) (stamp : Stamp) (items : List Item) (h : s.Kept) :
    (applyStatus o stamp items s).Kept :=
  takeClaim_kept (countOverflow_kept _ h) (h.table.applyStatusItems _ _ _ _)

/-! ### The roster -/

theorem moveRoster_kept (h : s.Kept) {roster : List RosterEntry} (hlen : roster.length = 32) :
    (moveRoster roster s).Kept := by
  obtain ⟨hc, ht, hq, hz, hp, hpeer, hline, hsupply, hbeat, hcap⟩ := h
  obtain ⟨hroster, hfault⟩ := moveRoster_effect roster s
  have hother (f : FaultName) (hf : f ≠ .peerMissing) :
      hasFault (moveRoster roster s).faults f = hasFault s.faults f := by
    have hdec : decide (FaultName.peerMissing = f) = false := decide_eq_false hf.symm
    unfold moveRoster
    dsimp only
    (repeat' split) <;> simp [setFault_faults, clearFault_faults, hasFault_or, hasFault_and, hdec]
  refine ⟨by simpa using hc, by simpa using ht, by simpa using hq, ?_, by simpa [State.PlayerOk] using hp, ?_⟩
  · simpa [State.SizesOk, hroster, hlen] using hz.2
  · refine ⟨by rw [hfault hpeer, hroster], ?_, ?_, ?_, ?_⟩
    · rw [hother _ (by decide)]
      simpa using hline
    · rw [hother _ (by decide)]
      simpa using hsupply
    · rw [hother _ (by decide)]
      simpa using hbeat
    · simpa using hcap

/-- A change of the roster that leaves every entry's state. -/
theorem setRoster_kept (h : s.Kept) {roster : List RosterEntry} (hlen : roster.length = 32)
    (hstate : roster.map RosterEntry.state = s.roster.map RosterEntry.state) : (s.setRoster roster).Kept := by
  have hmissing (l : List RosterEntry) : anyMissing l = (l.map RosterEntry.state).any (· == .missing) := by
    simp [anyMissing, Function.comp_def]
  refine ⟨h.counters, h.table, h.queue, ⟨hlen, h.sizes.2⟩, h.player, ?_⟩
  obtain ⟨hpeer, hrest⟩ := h.faults
  refine ⟨?_, hrest⟩
  rw [State.setRoster_roster, hmissing, hstate, ← hmissing]
  exact hpeer

theorem modify_map_state {roster : List RosterEntry} {a : Nat} {f : RosterEntry → RosterEntry}
    (hf : ∀ e, (f e).state = e.state) : (roster.modify a f).map RosterEntry.state = roster.map RosterEntry.state := by
  refine List.ext_getElem? fun i => ?_
  simp only [List.getElem?_map, List.getElem?_modify]
  cases roster[i]? with
  | none => rfl
  | some e => by_cases hi : a = i <;> simp [hi, hf]

@[simp] theorem storeFlags_kept (o : Nat) (l a : Bool) (h : s.Kept) : (storeFlags o l a s).Kept :=
  setRoster_kept h (by simpa using h.sizes.1) (modify_map_state fun _ => rfl)

@[simp] theorem passSelf_kept (c : Bool) (h : s.Kept) : (passSelf c s).Kept := by
  have ht := setRoster_kept h (roster := s.roster.modify s.startup.ownAddr fun e => { e with lastHeard := some s.stamp })
    (by simpa using h.sizes.1) (modify_map_state fun _ => rfl)
  unfold passSelf
  dsimp only
  split
  · exact setFault_kept rfl ht
  · exact ht

@[simp] theorem passOther_kept (o : Nat) (heard : Option OwnerStatus) (h : s.Kept) : (passOther o heard s).Kept := by
  unfold passOther
  split
  · exact moveRoster_kept h (by simpa using h.sizes.1)
  · exact missReport_kept _ _ (moveRoster_kept h (by simpa using h.sizes.1))

@[simp] theorem passReport_kept (o : Nat) (h : s.Kept) : (passReport o s).Kept := by
  unfold passReport
  split
  · exact passSelf_kept _ h
  · exact passOther_kept _ _ h

/-! ### The inputs -/

/-- A change of the inputs that leaves every line fault. -/
theorem setInputs_kept (h : s.Kept) {inputs : List Input}
    (hfault : inputs.map Input.lineFault = s.inputs.map Input.lineFault) : (s.setInputs inputs).Kept := by
  have hany (l : List Input) : anyLineFault l = (l.map Input.lineFault).any id := by
    simp [anyLineFault]
  have hlen : inputs.length = s.inputs.length := by simpa using congrArg List.length hfault
  obtain ⟨hpeer, hline, hrest⟩ := h.faults
  refine ⟨h.counters, h.table, h.queue, ⟨h.sizes.1, hlen.trans h.sizes.2⟩, h.player, hpeer, ?_, hrest⟩
  rw [State.setInputs_inputs, hany, hfault, ← hany]
  exact hline

theorem modify_map_lineFault {inputs : List Input} {i : Nat} {f : Input → Input}
    (hf : ∀ x, (f x).lineFault = x.lineFault) :
    (inputs.modify i f).map Input.lineFault = inputs.map Input.lineFault := by
  refine List.ext_getElem? fun j => ?_
  simp only [List.getElem?_map, List.getElem?_modify]
  cases inputs[j]? with
  | none => rfl
  | some x => by_cases hi : i = j <;> simp [hi, hf]

theorem modifyInput_kept (h : s.Kept) {i : Nat} {f : Input → Input} (hf : ∀ x, (f x).lineFault = x.lineFault) :
    (modifyInput i f s).Kept :=
  setInputs_kept h (modify_map_lineFault hf)

theorem setInput_inputs (i : Nat) (x : Input) (s : State) : (setInput i x s).inputs = s.inputs.modify i fun _ => x := by
  unfold setInput
  dsimp only
  (repeat' split) <;> simp [modifyInput]

/-- The report of a line fault follows the inputs (R160). -/
theorem setInput_faults {i : Nat} {x : Input} (hline : hasFault s.faults .lineFault = anyLineFault s.inputs)
    (f : FaultName) :
    hasFault (setInput i x s).faults f =
      if f = .lineFault then anyLineFault (s.inputs.modify i fun _ => x) else hasFault s.faults f := by
  unfold setInput modifyInput
  cases hafter : anyLineFault (s.inputs.modify i fun _ => x) <;> cases hbefore : anyLineFault s.inputs <;>
    cases f <;>
    simp_all [setFault_faults, clearFault_faults, hasFault_or, hasFault_and]

@[simp] theorem setInput_kept (i : Nat) (x : Input) (h : s.Kept) : (setInput i x s).Kept := by
  obtain ⟨hc, ht, hq, hz, hp, hpeer, hline, hsupply, hbeat, hcap⟩ := h
  refine ⟨by simpa using hc, by simpa using ht, by simpa using hq, ?_, by simpa [State.PlayerOk] using hp, ?_⟩
  · simpa [State.SizesOk, setInput_inputs] using hz
  · simpa [State.FaultsOk, setInput_faults hline, setInput_inputs] using ⟨hpeer, hsupply, hbeat, hcap⟩

@[simp] theorem Input.restored_lineFault (x : Input) : x.restored.lineFault = x.lineFault := by
  unfold Input.restored; split <;> rfl

/-- A restore, which the roster, the inputs, the queue and the table take as one claim (section 2.8). -/
@[simp] theorem applyRestore_kept (h : s.Kept) : (applyRestore s).Kept := by
  have hq := setQueue_kept h (h.queue.without fun m =>
    match m.news with
    | .raise i _ => s.isHeld i
    | .clear _ _ | .silence | .restore => false)
  have hi := setInputs_kept hq (inputs := s.inputs.map Input.restored) (by simp)
  have hr := moveRoster_kept hi (roster := s.roster.map RosterEntry.restored) (by simpa using h.sizes.1)
  exact takeClaim_kept (clearFault_kept rfl (clearFault_kept rfl hr)) (h.table.restore _ _)

@[simp] theorem originateRestore_kept (h : s.Kept) : (originateRestore s).Kept := enqueue_kept _ (applyRestore_kept h)

/-! ### Converter, keys and player -/

@[simp] theorem requestSupply_kept (h : s.Kept) : (requestSupply s).Kept := h.of_eq (by simp)

@[simp] theorem requestScan_kept (h : s.Kept) : (requestScan s).Kept := h.of_eq (by simp)

@[simp] theorem requestChirp_kept (h : s.Kept) : (requestChirp s).Kept := h.of_eq (by simp [requestChirp])

@[simp] theorem setKeyState_kept (k : KeyState) (h : s.Kept) : (setKeyState k s).Kept := h.of_eq (by simp)

@[simp] theorem setKeys_kept (k : KeyUnit) (h : s.Kept) : (s.setKeys k).Kept := h.of_eq (by simp)

@[simp] theorem playerMark_kept (h : s.Kept) : (playerMark s).Kept := h.of_eq (by simp)

@[simp] theorem playerBeat_kept (h : s.Kept) : (playerBeat s).Kept := h.of_eq (by simp)

@[simp] theorem requestTest_kept (h : s.Kept) : (requestTest s).1.Kept := by
  refine h.of_eq ?_
  unfold requestTest Player.requestTest
  (repeat' split) <;> simp

@[simp] theorem restoreAction_kept (h : s.Kept) : (restoreAction s).Kept :=
  requestChirp_kept (originateRestore_kept (setKeys_kept _ h))

@[simp] theorem keyMark_kept (h : s.Kept) : (keyMark s).Kept := by
  unfold keyMark
  (repeat' split) <;> simp [h]

theorem handMark_kept (h : s.Kept) {f : State → State} (hf : ∀ t : State, t.Kept → (f t).Kept) :
    (handMark f s).Kept := by
  unfold handMark
  split
  · exact hf _ (keyMark_kept h)
  · exact keyMark_kept (hf _ h)

/-! ### The transmitter and membership -/

@[simp] theorem abandonTx_kept (h : s.Kept) : (abandonTx s).Kept := by
  unfold abandonTx
  split
  · exact h
  · split
    · next r _ _ =>
      have hloop : (s.setLoop { s.loop with tx := some { r with outcome := .abandoned } }).Kept := h.of_eq (by simp)
      exact setQueue_kept hloop h.queue.backFromLine
    · exact h

@[simp] theorem setStartup_kept (u : Startup) (h : s.Kept) : (s.setStartup u).Kept := h.of_eq (by simp)

@[simp] theorem setStation_kept (st : StationState) (h : s.Kept) : (setStation st s).Kept := h.of_eq (by simp)

@[simp] theorem indexZeroReport_kept (h : s.Kept) : (indexZeroReport s).Kept := h.of_eq (by simp)

@[simp] theorem lockedReport_kept (h : s.Kept) : (lockedReport s).Kept := h.of_eq (by simp)

@[simp] theorem freeReport_kept (h : s.Kept) : (freeReport s).Kept := by
  unfold freeReport
  extract_lets _ t
  have ht : t.Kept := setStartup_kept _ h
  split
  · exact abandonTx_kept (setStation_kept _ ht)
  · exact ht

/-! ### The slots -/

@[simp] theorem setLoop_kept (x : Transceiver) (h : s.Kept) : (s.setLoop x).Kept := h.of_eq (by simp)

@[simp] theorem setLine_kept (x : Line) (h : s.Kept) : (s.setLine x).Kept := h.of_eq (by simp)

@[simp] theorem setPins_kept (x : Pins) (h : s.Kept) : (s.setPins x).Kept := h.of_eq (by simp)

@[simp] theorem endReception_kept (h : s.Kept) : (endReception s).Kept := by
  unfold endReception
  split
  · exact h
  · exact bump_kept _ (setLine_kept _ (setLoop_kept _ h))

@[simp] theorem clearSlot_kept (p : Part) (h : s.Kept) : (clearSlot p s).Kept := setLoop_kept _ (abandonTx_kept h)

@[simp] theorem restartSlotTimer_kept (h : s.Kept) : (restartSlotTimer s).Kept := setLine_kept _ (setLoop_kept _ h)

@[simp] theorem restartSlots_kept (h : s.Kept) : (restartSlots s).Kept :=
  restartSlotTimer_kept (clearSlot_kept _ (endReception_kept h))

@[simp] theorem startTx_kept (sl : Slot) (f : Frame) (since : Nat) (b : Bool) (h : s.Kept) :
    (startTx sl f since b s).Kept := setLoop_kept _ h

@[simp] theorem sendStatus_kept (sl : Slot) (h : s.Kept) : (sendStatus sl s).Kept := by
  unfold sendStatus
  split
  · exact startTx_kept _ _ _ _ h
  · exact h

@[simp] theorem offerHead_kept (since : Nat) (b : Bool) (h : s.Kept) : (offerHead since b s).Kept := by
  unfold offerHead
  split
  · exact h
  · exact startTx_kept _ _ _ _ (setQueue_kept h h.queue.offerHead)

@[simp] theorem slotBegin_kept (h : s.Kept) : (slotBegin s).Kept := by
  unfold slotBegin
  (repeat' split)
  · exact h
  · exact sendStatus_kept _ (setLoop_kept _ h)
  · exact h

@[simp] theorem openSlotAttempt_kept (h : s.Kept) : (openSlotAttempt s).Kept := by
  unfold openSlotAttempt
  extract_lets _ t
  have ht : t.Kept := setLoop_kept _ h
  (repeat' split)
  · exact setLoop_kept _ h
  · exact offerHead_kept _ _ ht
  · exact ht
  · exact h

@[simp] theorem slotEnd_kept (h : s.Kept) : (slotEnd s).Kept := by
  unfold slotEnd
  split
  · exact h
  · next sl _ =>
    split
    · extract_lets t u
      have ht : t.Kept := by
        unfold t
        split
        · exact endReception_kept h
        · exact h
      have hu : u.Kept := by
        unfold u
        (repeat' split)
        · exact passReport_kept _ ht
        · exact ht
        · exact ht
      exact clearSlot_kept _ hu
    · exact h

/-! ### The beat unit -/

theorem modifyBeat_kept (h : s.Kept) {f : BeatUnit → BeatUnit} (hf : (f s.beat).stuck = s.beat.stuck) :
    (modifyBeat f s).Kept := by
  refine h.of_eq ?_
  simp [modifyBeat, hf]

@[simp] theorem becomeZero_kept (h : s.Kept) : (becomeZero s).Kept := by
  have ht := modifyBeat_kept h (f := fun b => { b with barCount := b.barCount + 1#8, strayTally := 0 }) rfl
  unfold becomeZero
  extract_lets t
  split
  · exact indexZeroReport_kept ht
  · exact ht

@[simp] theorem startBeat_kept (k : BeatKind) (h : s.Kept) : (startBeat k s).Kept := by
  have ht := modifyBeat_kept h (f := fun b =>
    { b with
      timer := 0, lastKind := k, eighth := 0, beatIndex := b.beatIndex + 1#4
      measuring := k == .followed || k == .own }) rfl
  unfold startBeat
  extract_lets t
  split
  · exact becomeZero_kept ht
  · exact ht

@[simp] theorem holdMark_kept (h : s.Kept) : (holdMark s).Kept := by
  unfold holdMark
  exact modifyBeat_kept h rfl

@[simp] theorem handBeat_kept (h : s.Kept) : (handBeat s).Kept :=
  handMark_kept (requestSupply_kept (ageQueue_kept (restartSlots_kept h))) fun _ ht => playerBeat_kept ht

@[simp] theorem enterLocked_kept (h : s.Kept) : (enterLocked s).Kept := lockedReport_kept (modifyBeat_kept h rfl)

@[simp] theorem enterFree_kept (h : s.Kept) : (enterFree s).Kept := freeReport_kept (modifyBeat_kept h rfl)

@[simp] theorem settleTo_kept (n : Nat) (h : s.Kept) : (settleTo n s).Kept := by
  unfold settleTo
  split
  · exact enterLocked_kept h
  · exact modifyBeat_kept h rfl

@[simp] theorem settlingBeat_kept (k : BeatKind) (n : Nat) (h : s.Kept) : (settlingBeat k n s).Kept :=
  handBeat_kept (holdMark_kept (settleTo_kept _ (startBeat_kept _ h)))

@[simp] theorem lockedBeat_kept (k : BeatKind) (h : s.Kept) : (lockedBeat k s).Kept :=
  handBeat_kept (holdMark_kept (startBeat_kept _ h))

@[simp] theorem sameBeat_kept (h : s.Kept) : (sameBeat s).Kept := by
  unfold sameBeat
  exact restartSlotTimer_kept (holdMark_kept (modifyBeat_kept h rfl))

@[simp] theorem stray_kept (h : s.Kept) : (stray s).Kept := by
  have ht : (bump .stray (modifyBeat (fun b => { b with strayTally := b.strayTally + 1 }) s)).Kept :=
    bump_kept _ (modifyBeat_kept h rfl)
  unfold stray
  dsimp only
  split
  · exact enterFree_kept ht
  · exact ht

@[simp] theorem takeFall_kept (h : s.Kept) : (takeFall s).Kept := by
  unfold takeFall
  dsimp only
  (repeat' split) <;> simp [h]

@[simp] theorem beatFall_kept (h : s.Kept) : (beatFall s).Kept := by
  unfold beatFall
  split
  · exact takeFall_kept (modifyBeat_kept (setPins_kept _ h) rfl)
  · exact h

@[simp] theorem internalBeat_kept (h : s.Kept) : (internalBeat s).Kept := by
  have ht : (startBeat .internal s).Kept := startBeat_kept _ h
  unfold internalBeat
  extract_lets n t
  split
  · exact handBeat_kept (holdMark_kept (enterLocked_kept (modifyBeat_kept ht rfl)))
  · exact handBeat_kept (modifyBeat_kept ht rfl)

@[simp] theorem beatTimerExpiry_kept (h : s.Kept) : (beatTimerExpiry s).Kept := by
  unfold beatTimerExpiry
  (repeat' split) <;> simp [h]

@[simp] theorem markRelease_kept (h : s.Kept) : (markRelease s).Kept := by
  unfold markRelease
  (repeat' split)
  · exact modifyBeat_kept h rfl
  · exact h
  · exact h

@[simp] theorem recogniseBarMark_kept (h : s.Kept) : (recogniseBarMark s).Kept := by
  have ht := modifyBeat_kept h (f := fun b => { b with measuring := false, phaseConfirmed := true, beatIndex := 0#4 }) rfl
  unfold recogniseBarMark
  dsimp only
  split
  · exact ht
  · exact becomeZero_kept ht

@[simp] theorem barMark_kept (h : s.Kept) : (barMark s).Kept := by
  unfold barMark
  split <;> simp [h]

/-- BEAT_STUCK set or cleared with the beat unit's own mark of it (R21). -/
theorem stuck_kept {b : BeatUnit} (h : s.Kept) :
    (if b.stuck then setFault .beatStuck (s.setBeat b) else clearFault .beatStuck (s.setBeat b)).Kept := by
  obtain ⟨hc, ht, hq, hz, hp, hpeer, hline, hsupply, hbeat, hcap⟩ := h
  cases hb : b.stuck
  all_goals
    refine ⟨by simpa using hc, by simpa using ht, by simpa using hq, by simpa [State.SizesOk] using hz,
      by simpa [State.PlayerOk] using hp, ?_⟩
    simp [State.FaultsOk, setFault_faults, clearFault_faults, hasFault_or, hasFault_and, hpeer, hline, hsupply, hcap, hb]

@[simp] theorem barMark_stuck (s : State) : (barMark s).beat.stuck = s.beat.stuck := by
  unfold barMark recogniseBarMark becomeZero
  dsimp only
  (repeat' split) <;> simp [modifyBeat]

@[simp] theorem beatRise_kept (h : s.Kept) : (beatRise s).Kept := by
  unfold beatRise
  split
  · have ht : ((barMark s).setPins { (barMark s).pins with beatLow := false, beatHeld := 0 }).Kept :=
      setPins_kept _ (barMark_kept h)
    extract_lets t u
    cases hstuck : s.beat.stuck
    · refine modifyBeat_kept (f := fun b => { b with lowTimer := 0, measuring := false, stuck := false }) ht ?_
      simp [hstuck]
    · exact stuck_kept (b := { (barMark s).beat with lowTimer := 0, measuring := false, stuck := false }) ht
  · exact h

@[simp] theorem beatStuck_kept (h : s.Kept) : (beatStuck s).Kept := by
  unfold beatStuck
  split
  · have ht : (setFault .beatStuck (modifyBeat (fun b => { b with stuck := true }) s)).Kept :=
      stuck_kept (b := { s.beat with stuck := true }) h
    dsimp only
    split
    · exact enterFree_kept ht
    · exact ht
  · exact h

@[simp] theorem eighthMark_kept (h : s.Kept) : (eighthMark s).Kept := by
  unfold eighthMark
  split
  · exact handMark_kept (modifyBeat_kept h rfl) fun _ ht => playerMark_kept ht
  · exact h

@[simp] theorem adopt_kept (o : Nat) (b : Byte) (i : BitVec 4) (h : s.Kept) : (adopt o b i s).Kept := by
  unfold adopt
  (repeat' split)
  · exact h
  · exact modifyBeat_kept h rfl
  · exact modifyBeat_kept h rfl
  · exact modifyBeat_kept h rfl
  · exact h
  · exact modifyBeat_kept h rfl

end

end Sys2Proof.Machine
end

section
/-! PROOFS. Counts, sizes, the player and the four faults, through the rest of the operations: the DATA line, the sensing, the
starts and the panel port. With them O57 and O59. -/

namespace Sys2Proof.Machine

section
variable {s : State}

/-! ### The DATA line -/

@[simp] theorem modifyLine_kept (f : Line → Line) (h : s.Kept) : (modifyLine f s).Kept := setLine_kept _ h

@[simp] theorem modifyTx_kept (f : TxRecord → TxRecord) (h : s.Kept) : (modifyTx f s).Kept := setLoop_kept _ h

@[simp] theorem conflictBy_kept (slot : Slot) (f : Frame) (h : s.Kept) : (conflictBy slot f s).Kept := by
  unfold conflictBy
  split
  · refine setFault_kept rfl ?_
    split
    · exact setLoop_kept _ h
    · exact h
  · exact h

@[simp] theorem flagsBy_kept (f : Frame) (h : s.Kept) : (flagsBy f s).Kept := by
  unfold flagsBy
  split
  · exact storeFlags_kept _ _ _ h
  · exact h

theorem endRaise_kept (slot : Slot) (f : Frame) (h : s.Kept) : (endRaise slot f s).Kept := by
  refine flagsBy_kept _ (conflictBy_kept _ _ ?_)
  split
  · exact h
  · exact applyRaise_kept _ _ _ h

theorem endClear_kept (slot : Slot) (f : Frame) (h : s.Kept) : (endClear slot f s).Kept := by
  refine flagsBy_kept _ (conflictBy_kept _ _ ?_)
  split
  · exact h
  · exact applyClear_kept _ _ h

theorem endSilence_kept (slot : Slot) (f : Frame) (h : s.Kept) : (endSilence slot f s).Kept := by
  refine flagsBy_kept _ (conflictBy_kept _ _ ?_)
  split
  · exact h
  · exact applySilence_kept h

theorem endRestore_kept (slot : Slot) (f : Frame) (h : s.Kept) : (endRestore slot f s).Kept := by
  unfold endRestore
  (repeat' split)
  · exact h
  · exact conflictBy_kept _ _ (applyRestore_kept h)
  · exact applyRestore_kept (conflictBy_kept _ _ h)
  · exact flagsBy_kept _ (applyRestore_kept h)

theorem noteOwner_kept (f : Frame) (h : s.Kept) : (noteOwner f s).Kept := by
  unfold noteOwner
  (repeat' split)
  · exact bump_kept _ h
  · exact h
  · exact setLoop_kept _ h

theorem endStatus_kept (slot : Slot) (f : Frame) (h : s.Kept) : (endStatus slot f s).Kept := by
  refine conflictBy_kept _ _ (noteOwner_kept _ ?_)
  split
  · exact adopt_kept _ _ _ h
  · exact applyStatus_kept _ _ _ (adopt_kept _ _ _ h)

@[simp] theorem handOn_kept (slot : Slot) (f : Frame) (h : s.Kept) : (handOn slot f s).Kept := by
  unfold handOn
  (repeat' split)
  · exact endRaise_kept _ _ h
  · exact endClear_kept _ _ h
  · exact endSilence_kept _ _ h
  · exact endRestore_kept _ _ h
  · exact endStatus_kept _ _ h
  · exact conflictBy_kept _ _ (bump_kept _ h)

@[simp] theorem judgeFrame_kept (r : Reception) (h : s.Kept) : (judgeFrame r s).Kept := by
  unfold judgeFrame
  split
  · exact bump_kept _ h
  · split
    · exact handOn_kept _ _ h
    · exact bump_kept _ h

@[simp] theorem countMismatch_kept (r : TxRecord) (h : s.Kept) : (countMismatch r s).Kept := by
  unfold countMismatch
  (repeat' split)
  · exact bump_kept _ h
  · exact setFault_kept rfl h
  · exact setFault_kept rfl h

@[simp] theorem completeTx_kept (r : TxRecord) (h : s.Kept) : (completeTx r s).Kept := by
  unfold completeTx
  extract_lets t u
  have ht : t.Kept := modifyTx_kept _ h
  have hu : u.Kept := by
    unfold u
    split
    · exact setQueue_kept ht ht.queue.sent
    · exact ht
  split
  · exact clearFault_kept rfl hu
  · exact hu

@[simp] theorem readBack_kept (h : s.Kept) : (readBack s).Kept := by
  unfold readBack
  (repeat' split)
  · exact h
  · exact abandonTx_kept (countMismatch_kept _ h)
  · exact completeTx_kept _ h
  · exact modifyTx_kept _ h
  · exact h

@[simp] theorem bitTimeEnd_kept (h : s.Kept) : (bitTimeEnd s).Kept := by
  unfold bitTimeEnd
  (repeat' split) <;> simp [h]

@[simp] theorem dataFall_kept (h : s.Kept) : (dataFall s).Kept := h.of_eq (by simp)

@[simp] theorem dataRise_kept (h : s.Kept) : (dataRise s).Kept := h.of_eq (by simp)

@[simp] theorem dataStuck_kept (h : s.Kept) : (dataStuck s).Kept := by
  unfold dataStuck
  split
  · exact setFault_kept rfl (modifyLine_kept _ h)
  · exact h

@[simp] theorem beginFrame_kept (h : s.Kept) : (beginFrame s).Kept := by
  unfold beginFrame
  extract_lets slot _ t
  have ht : t.Kept := setLoop_kept _ h
  split
  · exact offerHead_kept _ _ (setLoop_kept _ ht)
  · exact ht

@[simp] theorem sampleStart_kept (h : s.Kept) : (sampleStart s).Kept := by
  unfold sampleStart
  split
  · exact modifyLine_kept _ h
  · extract_lets t
    have ht : t.Kept := modifyLine_kept _ h
    split
    · exact ht
    · exact beginFrame_kept ht

@[simp] theorem sampleStop_kept (h : s.Kept) : (sampleStop s).Kept := by
  unfold sampleStop
  split
  · exact modifyLine_kept _ h
  · extract_lets q
    split
    · exact judgeFrame_kept _ (modifyLine_kept _ (setLoop_kept _ h))
    · exact modifyLine_kept _ (setLoop_kept _ h)

@[simp] theorem receiverSample_kept (h : s.Kept) : (receiverSample s).Kept := by
  unfold receiverSample
  (repeat' split)
  · exact sampleStart_kept h
  · unfold sampleData
    exact modifyLine_kept _ h
  · exact sampleStop_kept h
  all_goals exact h

@[simp] theorem bitSample_kept (h : s.Kept) : (bitSample s).Kept := receiverSample_kept (readBack_kept h)

@[simp] theorem gapTimeout_kept (h : s.Kept) : (gapTimeout s).Kept := by
  unfold gapTimeout
  split
  · extract_lets t
    have ht : t.Kept := modifyLine_kept _ h
    split
    · exact ht
    · exact bump_kept _ (setLoop_kept _ ht)
  · exact h

/-! ### Inputs and keys -/

theorem qualifyActive_kept (i : Nat) (x : Input) (h : s.Kept) : (qualifyActive i x s).Kept := by
  unfold qualifyActive
  split
  · exact localRaise_kept _ _ (setInput_kept _ _ h)
  · exact setInput_kept _ _ h
  · exact setInput_kept _ _ h

theorem qualifyNormal_kept (i : Nat) (x : Input) (h : s.Kept) : (qualifyNormal i x s).Kept := by
  unfold qualifyNormal
  (repeat' split)
  · exact setInput_kept _ _ h
  · exact localWithdraw_kept _ (setInput_kept _ _ h)
  · exact setInput_kept _ _ h
  · exact setInput_kept _ _ h

@[simp] theorem qualification_kept (i : Nat) (h : s.Kept) : (qualification i s).Kept := by
  unfold qualification
  split
  · extract_lets x
    split
    · exact qualifyActive_kept _ _ h
    · exact qualifyNormal_kept _ _ h
    all_goals exact setInput_kept _ _ h
  · exact h

theorem postRequest_kept (i : Nat) (r : Request) (h : s.Kept) : (postRequest i r s).1.Kept := by
  unfold postRequest
  split
  · exact localRaise_kept _ _ (modifyInput_kept h fun _ => rfl)
  all_goals exact h

theorem withdrawRequest_kept (i : Nat) (h : s.Kept) : (withdrawRequest i s).Kept := by
  unfold withdrawRequest
  (repeat' split)
  · exact modifyInput_kept h fun _ => rfl
  · exact localWithdraw_kept _ (modifyInput_kept h fun _ => rfl)
  all_goals exact h

@[simp] theorem keyLevelChange_kept (key : Key) (b : Bool) (h : s.Kept) : (keyLevelChange key b s).Kept :=
  setKeys_kept _ h

theorem ackAction_kept (h : s.Kept) : (ackAction s).Kept :=
  requestChirp_kept (originateSilence_kept (setKeyState_kept _ h))

theorem testAction_kept (h : s.Kept) : (testAction s).Kept := by
  have hr := requestTest_kept (setKeyState_kept .idle h)
  unfold testAction
  extract_lets r
  split
  · exact requestChirp_kept hr
  · exact hr

theorem keyEvent_kept (key : Key) (b : Bool) (h : s.Kept) : (keyEvent key b s).Kept := by
  unfold keyEvent
  split
  case h_3 => exact ackAction_kept h
  case h_5 => exact testAction_kept h
  case h_8 =>
    split
    · exact h
    · exact setKeyState_kept _ h
  all_goals simp [h, beginChord]

@[simp] theorem debounceExpiry_kept (key : Key) (h : s.Kept) : (debounceExpiry key s).Kept := by
  unfold debounceExpiry
  split
  · extract_lets raw t
    have ht : t.Kept := setKeys_kept _ h
    split
    · exact keyEvent_kept _ _ ht
    · exact ht
  · exact h

/-! ### Scan and supply -/

@[simp] theorem Input.sample_lineFault (b : Band) (x : Input) : (x.sample b).lineFault = x.lineFault := by
  unfold Input.sample; split <;> rfl

@[simp] theorem scanSample_kept (i : Nat) (b : Byte) (h : s.Kept) : (scanSample i b s).Kept := by
  unfold scanSample
  split
  · exact modifyInput_kept h fun _ => Input.sample_lineFault _ _
  · exact h

@[simp] theorem setConverter_kept (c : Converter) (h : s.Kept) : (s.setConverter c).Kept := h.of_eq (by simp)

@[simp] theorem setScanner_kept (c : Scanner) (h : s.Kept) : (s.setScanner c).Kept := h.of_eq (by simp)

theorem setSupply_kept (h : s.Kept) {m : Supply} (hm : m.condition = s.supply.condition) : (s.setSupply m).Kept :=
  h.of_eq (by simp [hm])

@[simp] theorem scanNext_kept (h : s.Kept) : (scanNext s).Kept := h.of_eq (by simp)

@[simp] theorem supplyOwnTimer_kept (h : s.Kept) : (supplyOwnTimer s).Kept := by
  unfold supplyOwnTimer
  (repeat' split)
  · exact h
  · exact requestSupply_kept (setSupply_kept h rfl)
  · exact h

/-- SUPPLY_LOW set or cleared with the condition and the cap (R145, R178). -/
theorem condition_kept (c : Condition) (h : s.Kept) :
    (if c = .low then setFault .supplyLow (setCondition c s) else clearFault .supplyLow (setCondition c s)).Kept := by
  obtain ⟨hc, ht, hq, hz, hp, hpeer, hline, hsupply, hbeat, hcap⟩ := h
  cases c
  all_goals
    refine ⟨by simpa using hc, by simpa using ht, by simpa using hq, by simpa [State.SizesOk] using hz,
      by simpa [State.PlayerOk] using hp, ?_⟩
    simp [State.FaultsOk, setFault_faults, clearFault_faults, hasFault_or, hasFault_and, setCondition, hpeer, hline, hbeat]

theorem becomeLow_kept (h : s.Kept) : (becomeLow s).Kept := condition_kept .low h

theorem becomeNormal_kept (h : s.Kept) : (becomeNormal s).Kept := condition_kept .normal h

@[simp] theorem becomeLow_condition (s : State) : (becomeLow s).supply.condition = .low := by
  simp [becomeLow, setCondition]

/-! ### Starts and quiescence -/

theorem anyMissing_rosterAtStart (own : Nat) : anyMissing (rosterAtStart own) = false := by
  rw [anyMissing, List.any_eq_false]
  intro e he
  obtain ⟨i, hi⟩ := List.mem_iff_getElem?.1 he
  simp only [rosterAtStart, List.getElem?_modify, List.getElem?_replicate] at hi
  (repeat' split at hi) <;> simp at hi
  all_goals
    subst hi
    simp [RosterEntry.atStart]

theorem rosterAtStart_length (own : Nat) : (rosterAtStart own).length = 32 := by
  simp [rosterAtStart]

theorem hasFault_zero (f : FaultName) : hasFault 0#8 f = false := by cases f <;> decide

@[simp] theorem coldStart_kept (cause : StartCause) (s : State) : (coldStart cause s).Kept := by
  refine ⟨by simp [coldStart, Counters.Ok, Counters.zero], TableOk.nil, TxQueue.empty_ok,
    ⟨rosterAtStart_length _, by simp [coldStart]⟩, ⟨rfl, rfl⟩, ?_⟩
  exact ⟨(hasFault_zero _).trans (anyMissing_rosterAtStart _).symm, hasFault_zero _, hasFault_zero _, hasFault_zero _, rfl⟩

@[simp] theorem enterJoining_kept (h : s.Kept) : (enterJoining s).Kept := by
  refine requestScan_kept ((setStation_kept .joining h).of_eq ?_)
  simp [BeatUnit.join]

theorem warmStart_faults (b : Byte) (f : FaultName) :
    hasFault ((b &&& FaultName.config.mask) ||| FaultName.supplyLow.mask) f
      = (f == .supplyLow || (f == .config && hasFault b .config)) := by
  revert b; cases f <;> decide

@[simp] theorem warmStart_kept (h : s.Kept) (hlow : s.supply.condition = .low) : (warmStart s).Kept := by
  refine enterJoining_kept ⟨h.counters, TableOk.nil, TxQueue.empty_ok, ⟨rosterAtStart_length _, by simp⟩, ⟨rfl, rfl⟩, ?_⟩
  simp [State.FaultsOk, warmStart_faults, anyMissing_rosterAtStart, hlow, Drive.atStart, BeatUnit.atStart, anyLineFault,
    Input.atStart]

/-- A table that a claim empties leaves no wanted pattern (R120). -/
theorem takeClaim_nil_wanted (h : s.player.wanted = none) : (takeClaim [] s).player.wanted = none := by
  have hands := (takeClaim_handsOn [] s).1
  simp only [takeClaim_table] at hands
  split at hands
  · exact hands.1.trans h
  · exact (hands.2.1 trivial).1

@[simp] theorem Input.enterQuiescent_lineFault (x : Input) : x.enterQuiescent.lineFault = x.lineFault := rfl

/-- The blocks at the entry to QUIESCENT, before the empty table is handed on and the drives are turned off. -/
def State.atCutoff (s : State) : State :=
  { s with
    beat := s.beat.halt
    line := Line.atStart
    loop := Transceiver.atStart
    queue := TxQueue.empty
    player := s.player.enterQuiescent
    scanner := { s.scanner with timer := none }
    converter := s.converter.enterQuiescent
    inputs := s.inputs.map Input.enterQuiescent
    keys := { s.keys with state := .idle, hold := 0 }
    supply := { s.supply with ownTimer := some 0 }
    startup := s.startup.enterQuiescent }

theorem enterQuiescent_eq (s : State) :
    enterQuiescent s = markAttn ((takeClaim [] s.atCutoff).setDrive (takeClaim [] s.atCutoff).drive.enterQuiescent) := rfl

theorem anyLineFault_enterQuiescent (inputs : List Input) :
    anyLineFault (inputs.map Input.enterQuiescent) = anyLineFault inputs := by
  simp [anyLineFault, Function.comp_def]

/-- The entry to QUIESCENT empties the table and keeps what stands for causes that go on (R193). -/
@[simp] theorem enterQuiescent_kept (h : s.Kept) : (enterQuiescent s).Kept := by
  rw [enterQuiescent_eq]
  have ht : (takeClaim [] s.atCutoff).Kept := by
    obtain ⟨hc, -, -, hz, -, hpeer, hline, hsupply, hbeat, hcap⟩ := h
    refine ⟨by simpa [State.atCutoff] using hc, by simpa using TableOk.nil, by simpa [State.atCutoff] using TxQueue.empty_ok,
      by simpa [State.atCutoff, State.SizesOk] using hz, ⟨?_, ?_⟩, ?_⟩
    · simpa [headCue] using takeClaim_nil_wanted (s := s.atCutoff) rfl
    · simpa using takeClaim_sound [] _
    · simpa [State.atCutoff, State.FaultsOk, anyLineFault_enterQuiescent, BeatUnit.halt]
        using ⟨hpeer, hline, hsupply, hbeat, hcap⟩
  exact markAttn_kept (ht.of_eq (by simp [Drive.enterQuiescent]))

theorem becomeCutoff_kept (h : s.Kept) : (becomeCutoff s).Kept := enterQuiescent_kept (condition_kept .cutoff h)

theorem recover_kept (h : s.Kept) : (recover s).Kept := by
  unfold recover
  extract_lets _ t
  have ht : t.Kept := becomeLow_kept (setSupply_kept h rfl)
  split
  · exact coldStart_kept _ _
  · exact warmStart_kept ht (becomeLow_condition _)

@[simp] theorem supplySample_kept (b : Byte) (h : s.Kept) : (supplySample b s).Kept := by
  unfold supplySample
  extract_lets t
  have ht : t.Kept := setSupply_kept h rfl
  (repeat' split)
  · exact ht
  · exact becomeNormal_kept ht
  · exact becomeCutoff_kept ht
  · exact recover_kept ht
  · exact becomeLow_kept ht

@[simp] theorem handReading_kept (b : Byte) (a : Conversion) (discard : Bool) (h : s.Kept) :
    (handReading b a discard s).Kept := by
  unfold handReading
  (repeat' split)
  · exact h
  · exact h
  · exact scanSample_kept _ _ h
  · exact supplySample_kept _ h

@[simp] theorem conversionComplete_kept (b : Byte) (h : s.Kept) : (conversionComplete b s).Kept := by
  unfold conversionComplete
  split
  · exact setConverter_kept _ (handReading_kept _ _ _ (setConverter_kept _ h))
  · exact h

/-! ### The steps of a cold start -/

/-- A library can change while the table is empty: the player wants no pattern (R120). -/
theorem setLibrary_kept (h : s.Kept) (hempty : s.table = []) (l : Library) : (s.setLibrary l).Kept := by
  obtain ⟨hc, ht, hq, hz, ⟨hwanted, hsound⟩, hf⟩ := h
  refine ⟨hc, ht, hq, hz, ⟨?_, hsound⟩, hf⟩
  simpa [hempty, headCue] using hwanted

@[simp] theorem setBindings_kept (bindings : List Binding) (h : s.Kept) : (s.setBindings bindings).Kept :=
  h.of_eq (by simp)

theorem rejectImage_kept (h : s.Kept) (hempty : s.table = []) : (rejectImage s).Kept :=
  setFault_kept rfl (setStartup_kept _ (setLibrary_kept (setBindings_kept (List.replicate 8 Binding.disabled) h) hempty
    Library.defaults))

theorem loadImage_kept (h : s.Kept) (hempty : s.table = []) : (loadImage s).Kept := by
  unfold loadImage
  extract_lets _ t
  have ht : t.Kept :=
    setStartup_kept _ (setLibrary_kept (setBindings_kept ((List.range 8).map (imageBinding s.startup.image)) h) hempty
      (imageLibrary s.startup.image))
  split
  · exact ht
  · exact setFault_kept rfl ht

theorem rstFall_kept (h : s.Kept) : (rstFall s).Kept := by
  unfold rstFall
  split
  · exact setPins_kept _ h
  all_goals exact h

theorem resetPin_kept (h : s.Kept) : (resetPin s).Kept := by
  unfold resetPin
  (repeat' split)
  · exact coldStart_kept _ _
  all_goals exact h

theorem endWaiting_kept (h : s.Kept) : (endWaiting s).Kept := by
  unfold endWaiting
  split
  · exact setStartup_kept _ h
  · exact h

theorem rstRise_kept (h : s.Kept) : (rstRise s).Kept := by
  unfold rstRise
  extract_lets _ t
  have ht : t.Kept := setPins_kept _ h
  (repeat' split)
  · exact h
  · exact coldStart_kept _ _
  · exact endWaiting_kept ht
  · exact coldStart_kept _ _
  · exact endWaiting_kept ht

theorem settlingWaitEnd_kept (straps : BitVec 5) (h : s.Kept)
    (hmissing : s.startup.station = .starting → anyMissing s.roster = false) : (settlingWaitEnd straps s).Kept := by
  unfold settlingWaitEnd
  split
  · next hnow =>
    have hstarting : s.startup.station = .starting := by
      have hat := hnow.1
      simp only [State.startingAt, Bool.and_eq_true, beq_iff_eq] at hat
      exact hat.1
    obtain ⟨hc, ht, hq, hz, hp, hpeer, hrest⟩ := h
    refine ⟨hc, ht, hq, ⟨rosterAtStart_length _, hz.2⟩, hp, ?_, hrest⟩
    exact (hpeer.trans (hmissing hstarting)).trans (anyMissing_rosterAtStart _).symm
  · exact h

theorem headerReadComplete_kept (header : List Byte) (h : s.Kept) (hempty : s.startup.station = .starting → s.table = []) :
    (headerReadComplete header s).Kept := by
  unfold headerReadComplete
  split
  · next hnow =>
    split
    · exact setStartup_kept _ h
    · have hat := hnow.1
      simp only [State.readingAfter, State.startingAt, Bool.and_eq_true, beq_iff_eq] at hat
      exact rejectImage_kept h (hempty hat.1.1.1)
  · exact h

theorem missingAcknowledge_kept (sent : Nat) (h : s.Kept) (hempty : s.startup.station = .starting → s.table = []) :
    (missingAcknowledge sent s).Kept := by
  unfold missingAcknowledge
  split
  · next hnow =>
    have hat := hnow.1
    simp only [State.readingAfter, State.startingAt, Bool.and_eq_true, beq_iff_eq] at hat
    exact rejectImage_kept h (hempty hat.1.1.1)
  · exact h

theorem imageReadComplete_kept (rest : List Byte) (h : s.Kept) (hempty : s.startup.station = .starting → s.table = []) :
    (imageReadComplete rest s).Kept := by
  unfold imageReadComplete
  extract_lets image
  split
  · next hnow =>
    split
    · exact setStartup_kept _ h
    · have hat := hnow.1
      simp only [State.readingAfter, State.startingAt, Bool.and_eq_true, beq_iff_eq] at hat
      exact rejectImage_kept h (hempty hat.1.1.1)
  · exact h

theorem loadComplete_kept (h : s.Kept) (hempty : s.startup.station = .starting → s.table = []) :
    (loadComplete s).Kept := by
  unfold loadComplete
  split
  · next hnow =>
    simp only [State.startingAt, Bool.and_eq_true, beq_iff_eq] at hnow
    extract_lets t
    have ht : t.Kept := by
      unfold t
      split
      · exact h
      · exact loadImage_kept h (hempty hnow.1)
    exact enterJoining_kept (setStartup_kept _ ht)
  · exact h

/-! ### The panel port and the drives -/

@[simp] theorem setPort_kept (p : Port) (h : s.Kept) : (s.setPort p).Kept := h.of_eq (by simp)

theorem setDrive_kept {d : Drive} (h : s.Kept) (hd : d.cap = s.drive.cap) : (s.setDrive d).Kept :=
  h.of_eq (by simp [hd])

theorem chirpEnd_kept (h : s.Kept) : (chirpEnd s).Kept := by
  unfold chirpEnd
  (repeat' split)
  · exact setDrive_kept h (Drive.chirpEnd_frame _).1
  · exact h
  · exact h

theorem periodStart_kept (o : Output) (h : s.Kept) : (periodStart o s).Kept :=
  setDrive_kept h (Drive.periodStart_frame _ _).1

theorem PanelAction.kept {c : PanelCommand} {act : List Byte → State → Taken} (ha : PanelAction c act)
    (payload : List Byte) (h : s.Kept) : (act payload s).state.Kept := by
  cases ha
  case readSummary => exact setPort_kept _ h
  case readTable => exact h
  case readRoster =>
    unfold actReadRoster
    dsimp only
    split <;> exact h
  case readInputs => exact h
  case readCounters => exact h
  case post =>
    unfold actPost
    extract_lets i r
    (repeat' split)
    · exact postRequest_kept _ _ h
    all_goals exact h
  case withdraw =>
    unfold actWithdraw
    extract_lets i t
    split
    · exact withdrawRequest_kept _ h
    · exact h
  case silence => exact originateSilence_kept h
  case restore => exact originateRestore_kept h
  case test =>
    unfold actTest
    extract_lets r
    split
    · exact requestTest_kept h
    · exact h
  case clearCounters => exact setCounters_kept h (by simp [Counters.zero, Counters.Ok])

theorem closeWith_kept (response : List Byte) (h : s.Kept) : (closeWith response s).Kept := setPort_kept _ h

theorem closeCommand_kept {c : PanelCommand} {act : List Byte → State → Taken} (ha : PanelAction c act) (h : s.Kept) :
    (closeCommand c act s).Kept := by
  unfold closeCommand
  split
  · split
    · refine closeWith_kept _ ?_
      unfold takeCommand
      (repeat' split)
      · exact ha.kept _ h
      all_goals exact h
    · exact h
  all_goals exact h

/-! ### A wait and an operation -/

theorem elapse_kept (dt : Nat) (h : s.Kept) : (s.elapse dt).Kept := by
  have hi := setInputs_kept h (inputs := s.inputs.map (Input.elapse dt)) (by simp [Input.elapse])
  exact hi.of_eq ⟨rfl, rfl, rfl, rfl, rfl, rfl, rfl, rfl, rfl, rfl, rfl, rfl⟩

theorem setPending_kept (l : List Instr) (h : s.Kept) : (s.setPending l).Kept := h.of_eq (by simp)

/-- What a STARTING station's table and roster are for (R55, R103). -/
structure State.EmptyAtStart (s : State) : Prop where
  table : s.startup.station = .starting → s.table = []
  missing : s.startup.station = .starting → anyMissing s.roster = false

theorem State.Ok.emptyAtStart (h : s.Ok) : s.EmptyAtStart where
  table hst := (h.rest.1 (by simp [State.running, hst])).1
  missing hst := by rw [(h.rest.2 hst).1]; exact anyMissing_rosterAtStart _

theorem operation_kept {op : State → State} (hop : Operation op) (h : s.Kept) (hstart : s.EmptyAtStart) : (op s).Kept := by
  cases hop
  case nothing => exact h
  case powerOn => exact coldStart_kept _ _
  case rstFall => exact rstFall_kept h
  case resetPin => exact resetPin_kept h
  case rstRise => exact rstRise_kept h
  case settlingWaitEnd straps => exact settlingWaitEnd_kept straps h hstart.missing
  case headerReadComplete header => exact headerReadComplete_kept header h hstart.table
  case missingAcknowledge sent => exact missingAcknowledge_kept sent h hstart.table
  case imageReadComplete rest => exact imageReadComplete_kept rest h hstart.table
  case loadComplete => exact loadComplete_kept h hstart.table
  case chirpEnd => exact chirpEnd_kept h
  case periodStart output => exact periodStart_kept output h
  case transactionOpen => unfold transactionOpen; split <;> simp [h]
  case psckRise => unfold psckRise; split <;> simp [h]
  case psckFall => unfold psckFall; split <;> simp [h]
  case closeNothing => unfold closeNothing; split <;> simp [h, closeWith_kept]
  case closeBad => unfold closeBad; split <;> simp [h, closeWith_kept]
  case closeUnknown => unfold closeUnknown; split <;> simp [h, closeWith_kept]
  case closeCommand ha => exact closeCommand_kept ha h
  all_goals simp [h]

theorem EmptyAtStart_wait (l : List Instr) (dt : Nat) (h : s.EmptyAtStart) : ((s.setPending l).elapse dt).EmptyAtStart :=
  ⟨h.table, h.missing⟩

end

/-- Every step keeps the conditions that each operation keeps by itself. -/
theorem step_kept {s t : State} (h : s.Ok) (hstep : step s = .next t) : t.Kept := by
  obtain rfl | ⟨rest, dt, op, hop, rfl⟩ := step_cases hstep
  · exact h.kept
  · exact operation_kept hop (elapse_kept dt (setPending_kept rest h.kept)) (EmptyAtStart_wait rest dt h.emptyAtStart)

end Sys2Proof.Machine

open Sys2Proof Sys2Proof.Machine

/-- Settles O57: each operation keeps the counters, the table, the queue and the sizes by itself. -/
theorem everyStepKeepsCountsTableAndQueue : Obligations.EveryStepKeepsCountsTableAndQueue := by
  unfold Obligations.EveryStepKeepsCountsTableAndQueue
  intro s t h hstep
  have ht := step_kept h hstep
  exact ⟨ht.counters, ht.table, ht.queue, ht.sizes⟩

/-- Settles O59: each operation keeps the player on the table and the four faults on their causes by itself; a library
changes only while the table is empty. -/
theorem everyStepKeepsPlayerAndFaults : Obligations.EveryStepKeepsPlayerAndFaults := by
  unfold Obligations.EveryStepKeepsPlayerAndFaults
  intro s t h hstep
  have ht := step_kept h hstep
  exact ⟨ht.player, ht.faults⟩

end

section
/-! PROOFS. Resets, power-on and the steps of a cold start (chapter 10). O3 to O7. -/

namespace Sys2Proof.Machine

/-! ### The cold start -/

/-- What of a station a cold start reads and keeps, in range: the filters and the own address. -/
structure State.LevelsOk (s : State) : Prop where
  beatHeld : s.pins.beatHeld ≤ 2
  dataHeld : s.pins.dataHeld ≤ 2
  ownAddr : s.startup.ownAddr ≤ 31

theorem getD_replicate_self {α : Type} (n i : Nat) (a : α) : (List.replicate n a).getD i a = a := by
  rw [List.getD_eq_getElem?_getD, List.getElem?_replicate]
  split <;> rfl

/-- A cold start begins in a state that meets every condition, whatever went before. -/
theorem coldStart_ok {s : State} (cause : StartCause) (h : s.LevelsOk) : (coldStart cause s).Ok := by
  have hstation : (coldStart cause s).startup.station = .starting := rfl
  have hkept := coldStart_kept cause s
  refine ⟨hkept.counters, hkept.table, hkept.queue, ⟨by simp [State.running, coldStart, BeatUnit.atStart], ?_, ?_⟩, ?_,
    ⟨?_, h.beatHeld, h.dataHeld⟩, hkept.player, hkept.faults, ⟨?_, ?_, ?_⟩, hkept.sizes, ⟨h.ownAddr, ?_, ?_, ?_, ?_⟩,
    ⟨fun _ => ⟨rfl, rfl, rfl⟩, fun _ => ⟨rfl, rfl⟩⟩, ⟨?_, ?_⟩, ?_⟩
  · simp [hstation]
  · simp [coldStart]
  · simp [State.TxOk, coldStart, Transceiver.atStart]
  · simp [coldStart, BeatUnit.atStart]
  · simp [coldStart]
  · simp [coldStart, Transceiver.atStart]
  · simp [coldStart, Transceiver.atStart]
  · simp [coldStart, Binding.disabled, Request.Ok]
  · simp [coldStart]
  · simp [coldStart, TxQueue.empty]
  · simp [coldStart]
    split <;> simp
  · intro i hi hr
    exact absurd (congrArg Input.request (getD_replicate_self 12 i Input.atStart)) hr
  · simp [coldStart]
  · simp [State.DarkOk, hstation]

/-- The reset state is that of a power-on with RST high and nothing attached. -/
theorem reset_eq_powerOn : State.reset = powerOn false State.reset := rfl

/-- A conversion in progress runs on for nobody, and the supply monitor asks for its sample (R150, R151, R171). -/
theorem converter_atColdStart (dt : Nat) (c : Converter) :
    (c.elapse dt).orphaned.requestSupply
      = if c.activity = .idle then State.reset.converter
        else ⟨c.activity, min 250 (c.time + dt), true, false, true, none⟩ := by
  cases h : c.activity <;>
    simp [Converter.elapse, Converter.orphaned, Converter.requestSupply, h, tick, conversionTime, State.reset,
      Converter.begin]

/-- The station that a cold start caused by the pin leaves after a wait (R183). -/
def State.resetBy (after : Nat) (pin : RstPin) (st : StartStep) (s : State) : State :=
  { State.reset with
    pending := s.pending
    pins := { (s.elapse after).pins with rst := pin }
    roster := rosterAtStart s.startup.ownAddr
    converter :=
      if s.converter.activity = .idle then State.reset.converter
      else ⟨s.converter.activity, min 250 (s.converter.time + after), true, false, true, none⟩
    keys := ⟨⟨s.keys.ack.raw, false, if s.keys.ack.raw then some 0 else none⟩,
      ⟨s.keys.test.raw, false, if s.keys.test.raw then some 0 else none⟩, .idle, 0⟩
    startup := { State.reset.startup with cause := .resetPin, step := st, ownAddr := s.startup.ownAddr }
    port := { State.reset.port with opened := s.port.opened, dropped := s.port.opened } }

theorem coldStart_pin (after : Nat) (pin : RstPin) (s : State) :
    coldStart .resetPin ((s.elapse after).setPins { (s.elapse after).pins with rst := pin })
      = s.resetBy after pin (if pin = .high then .settlingWait else .waiting) := by
  rw [State.resetBy, ← converter_atColdStart]
  rfl

/-! ### The pin RST -/

theorem rst_elapse_timing {s : State} {held : Nat} (h : s.pins.rst = .timing held) (after : Nat) :
    (s.elapse after).pins.rst = .timing (min 1000 (held + after)) := by
  simp [State.elapse, Pins.elapse, RstPin.elapse, h, tick, resetHoldTime]

theorem rst_elapse_high {s : State} (h : s.pins.rst = .high) (after : Nat) : (s.elapse after).pins.rst = .high := by
  simp [State.elapse, Pins.elapse, RstPin.elapse, h]

theorem rst_elapse_held {s : State} (h : s.pins.rst = .held) (after : Nat) : (s.elapse after).pins.rst = .held := by
  simp [State.elapse, Pins.elapse, RstPin.elapse, h]

theorem rstFall_of_high {s : State} (h : s.pins.rst = .high) :
    rstFall s = s.setPins { s.pins with rst := .timing 0 } := by
  simp [rstFall, h]

theorem resetPin_of_taken {s : State} (h : s.pins.rst = .held) : resetPin s = s := by
  simp [resetPin, h]

theorem resetPin_of_held {s : State} {held : Nat} (h : s.pins.rst = .timing held) (hlong : 1000 ≤ held) :
    resetPin s = coldStart .resetPin (s.setPins { s.pins with rst := .held }) := by
  simp [resetPin, h, resetHoldTime, hlong]

theorem rstRise_of_held {s : State} {held : Nat} (h : s.pins.rst = .timing held) (hlong : 1000 ≤ held) :
    rstRise s = coldStart .resetPin (s.setPins { s.pins with rst := .high }) := by
  simp [rstRise, h, resetHoldTime, hlong]

theorem rstRise_of_short {s : State} {held : Nat} (h : s.pins.rst = .timing held) (hshort : held < 1000) :
    rstRise s = endWaiting (s.setPins { s.pins with rst := .high }) := by
  simp [rstRise, h, resetHoldTime, Nat.not_le.2 hshort]

theorem rstRise_of_quiescent {s : State} (h : s.pins.rst = .held) (hq : s.startup.station = .quiescent) :
    rstRise s = coldStart .resetPin (s.setPins { s.pins with rst := .high }) := by
  simp [rstRise, h, hq]

theorem rstRise_of_taken {s : State} (h : s.pins.rst = .held) (hq : s.startup.station ≠ .quiescent) :
    rstRise s = endWaiting (s.setPins { s.pins with rst := .high }) := by
  simp [rstRise, h, hq]

theorem endWaiting_of_waiting {s : State} (hs : s.startup.station = .starting) (hw : s.startup.step = .waiting) :
    endWaiting s = s.setStartup { s.startup with step := .settlingWait, stepTimer := 0 } := by
  simp [endWaiting, State.startingAt, hs, hw, Startup.toStep]

theorem endWaiting_eq_self {s : State} (h : ¬ (s.startup.station = .starting ∧ s.startup.step = .waiting)) :
    endWaiting s = s := by
  simpa [endWaiting, State.startingAt] using fun hs hw => absurd ⟨hs, hw⟩ h

/-- The rise of a hold whose start has been taken ends WAITING, after whatever wait. -/
theorem exec_rstRise_of_taken {s : State} (h : s.pins.rst = .held) (hs : s.startup.station = .starting)
    (hw : s.startup.step = .waiting) (after : Nat) :
    exec (.rstRise after) s = .next
      { s.elapse after with
        pins := { (s.elapse after).pins with rst := .high }
        startup := { s.startup with step := .settlingWait, stepTimer := 0 } } := by
  have hrise := rstRise_of_taken (rst_elapse_held h after) (by simp [hs])
  rw [endWaiting_of_waiting (by simp [hs]) (by simp [hw])] at hrise
  exact congrArg Host.Outcome.next hrise

/-! ### The settling wait -/

/-- The time since a start step began runs on while the station is STARTING (R184). -/
theorem elapse_stepTimer {s : State} (hs : s.startup.station = .starting) (dt : Nat) :
    (s.elapse dt).startup.stepTimer = s.startup.stepTimer + dt := by
  simp [State.elapse, Startup.elapse, hs]

theorem settlingWaitEnd_of_due {s : State} (straps : BitVec 5) (hs : s.startup.station = .starting)
    (hstep : s.startup.step = .settlingWait) (htime : 1000000 ≤ s.startup.stepTimer) :
    settlingWaitEnd straps s
      = { s with
          roster := rosterAtStart straps.toNat
          startup := { s.startup with
            step := .reading, stepTimer := 0, ownAddr := straps.toNat, image := [], memoryBusy := true } } := by
  simp [settlingWaitEnd, State.startingAt, hs, hstep, settlingWaitTime, htime, Startup.toStep, State.setStartup,
    State.setRoster]

/-- The entries of a start's roster: SELF at the own address, UNKNOWN at every other (R103). -/
theorem peerState_rosterAtStart (own : Nat) {a : Nat} (ha : a < 32) :
    peerState (rosterAtStart own) a = if own = a then .self else .unknown := by
  simp only [peerState, rosterAtStart, List.getD_eq_getElem?_getD, List.getElem?_modify, List.getElem?_replicate, ha,
    if_true]
  split <;> rfl

theorem peerState_rosterAtStart_eq_self (own : Nat) {a : Nat} (ha : a < 32) :
    peerState (rosterAtStart own) a = .self ↔ a = own := by
  rw [peerState_rosterAtStart own ha]
  split <;> simp_all [eq_comm]

end Sys2Proof.Machine

open Sys2Proof Sys2Proof.Machine

/-- Settles O3: the reset state is that of a power-on. -/
theorem resetMeetsEveryCondition : Obligations.ResetMeetsEveryCondition := by
  unfold Obligations.ResetMeetsEveryCondition
  rw [reset_eq_powerOn]
  exact coldStart_ok _ ⟨Nat.le_refl 2, Nat.le_refl 2, Nat.zero_le 31⟩

/-- Settles O4. -/
theorem powerOnLeavesTheResetState : Obligations.PowerOnLeavesTheResetState := by
  unfold Obligations.PowerOnLeavesTheResetState
  intro after low s
  cases low <;> rfl

/-- Settles O5: the hold has its 1 ms once the wait has passed. -/
theorem heldResetColdStarts : Obligations.HeldResetColdStarts := by
  unfold Obligations.HeldResetColdStarts
  intro after held s hrst hlong
  have hpin := rst_elapse_timing hrst after
  have hheld : 1000 ≤ min 1000 (held + after) := by omega
  exact ⟨congrArg Host.Outcome.next ((resetPin_of_held hpin hheld).trans (coldStart_pin after .held s)),
    congrArg Host.Outcome.next ((rstRise_of_held hpin hheld).trans (coldStart_pin after .high s))⟩

/-- Settles O6, a clause for each way in which the pin can stand. -/
theorem shortResetPulseCausesNothing : Obligations.ShortResetPulseCausesNothing := by
  unfold Obligations.ShortResetPulseCausesNothing
  intro after s
  refine ⟨fun hrst => ?_, fun held hrst hshort hnot => ?_, fun hrst hs hw => exec_rstRise_of_taken hrst hs hw after,
    fun low => ⟨powerOn low (s.elapse after), rfl, rfl, rfl, by cases low <;> rfl, ?_⟩, fun hrst hq => ?_⟩
  · exact congrArg Host.Outcome.next (rstFall_of_high (rst_elapse_high hrst after))
  · have hrise := rstRise_of_short (rst_elapse_timing hrst after) (by omega)
    rw [endWaiting_eq_self (by simpa using hnot)] at hrise
    exact congrArg Host.Outcome.next hrise
  · rintro rfl held
    have hpin : ((powerOn true (s.elapse after)).elapse held).pins.rst = .held := rst_elapse_held rfl held
    exact ⟨congrArg Host.Outcome.next (resetPin_of_taken hpin), exec_rstRise_of_taken rfl rfl rfl held⟩
  · have hrise := rstRise_of_quiescent (rst_elapse_held hrst after) (by simp [hq])
    exact congrArg Host.Outcome.next (hrise.trans (coldStart_pin after .high s))

/-- Settles O7: the entries of a start's roster are UNKNOWN but for the one at the own address. -/
theorem strapsGiveTheAddress : Obligations.StrapsGiveTheAddress := by
  unfold Obligations.StrapsGiveTheAddress
  intro after straps s hs hstep htime
  refine ⟨?_, ?_, fun a ha => peerState_rosterAtStart_eq_self straps.toNat ha⟩
  · have hend := settlingWaitEnd_of_due (s := s.elapse after) straps (by simp [hs]) (by simp [hstep])
      (by rw [elapse_stepTimer hs]; exact htime)
    exact congrArg Host.Outcome.next hend
  · simp [State.memoryCondition, State.memoryReading, hs]

end

section
/-! PROOFS. The read of the configuration image: its header, its acknowledges and its checks (section 10.3). O8 and O9. -/

namespace Sys2Proof.Machine

variable {s : State}

/-! ### The checks -/

/-- Checks 1 to 3 of R187 in the image's words. -/
theorem headerOk_iff (bs : List Byte) :
    headerOk bs = true ↔ wordAt bs 0 = 0x5E1C ∧ wordAt bs 2 = 208 + 4 * wordAt bs 5 ∧ wordAt bs 2 ≤ 2048
      ∧ 1 ≤ (byteAt bs 4).toNat ∧ (byteAt bs 4).toNat ≤ 24 ∧ wordAt bs 5 ≤ 256 := by
  simp only [headerOk, Bool.and_eq_true, beq_iff_eq, decide_eq_true_eq]
  constructor
  · rintro ⟨⟨⟨⟨⟨hmagic, hlong⟩, hlen⟩, hfirst⟩, hlast⟩, hsteps⟩
    exact ⟨hmagic, hlen, hlong, hfirst, hlast, hsteps⟩
  · rintro ⟨hmagic, hlen, hlong, hfirst, hlast, hsteps⟩
    exact ⟨⟨⟨⟨⟨hmagic, hlong⟩, hlen⟩, hfirst⟩, hlast⟩, hsteps⟩

theorem wordAt_lt (bs : List Byte) (i : Nat) : wordAt bs i < 65536 := by
  have h := (byteAt bs i).isLt
  have h' := (byteAt bs (i + 1)).isLt
  simp only [wordAt]; omega

theorem imageCheckOk_iff (bs : List Byte) :
    imageCheckOk bs = true ↔ (crc16 (bs.take (bs.length - 2))).toNat = wordAt bs (bs.length - 2) := by
  rw [imageCheckOk, beq_iff_eq, ← BitVec.toNat_inj, BitVec.toNat_ofNat, Nat.mod_eq_of_lt (wordAt_lt _ _)]

theorem bindingOk_iff (bs : List Byte) (n : Nat) :
    bindingOk bs n = true ↔ 1 ≤ bitsOf (byteAt bs (7 + 2 * n)) 0 3 ∧ 1 ≤ bitsOf (byteAt bs (8 + 2 * n)) 0 6
      ∧ bitsOf (byteAt bs (8 + 2 * n)) 6 2 = 0 := by
  simp only [bindingOk, Bool.and_eq_true, beq_iff_eq, decide_eq_true_eq, and_assoc]
  rfl

/-- Checks 4 and 5 of R187 on the image's bytes. -/
theorem imageOk_iff (bs : List Byte) :
    imageOk bs = true ↔ (crc16 (bs.take (bs.length - 2))).toNat = wordAt bs (bs.length - 2)
      ∧ ∀ n, n < 8 → 1 ≤ bitsOf (byteAt bs (7 + 2 * n)) 0 3 ∧ 1 ≤ bitsOf (byteAt bs (8 + 2 * n)) 0 6
        ∧ bitsOf (byteAt bs (8 + 2 * n)) 6 2 = 0 := by
  simp only [imageOk, Bool.and_eq_true, imageCheckOk_iff, List.all_eq_true, List.mem_range, bindingOk_iff]

/-! ### The read -/

/-- The image is rejected whole at one moment (R189). -/
theorem rejectImage_eq (s : State) : rejectImage s = s.imageRejected := by
  rw [rejectImage, setFault_eq]
  rfl

theorem readingAfter_of {n : Nat} (hs : s.startup.station = .starting) (hstep : s.startup.step = .reading)
    (hbusy : s.startup.memoryBusy = true) (hlen : s.startup.image.length = n) : s.readingAfter n = true := by
  simp [State.readingAfter, State.startingAt, hs, hstep, hbusy, hlen]

theorem headerReadComplete_of_due {header : List Byte} (hread : s.readingAfter 0 = true) (hlen : header.length = 7)
    (htime : 990 ≤ s.startup.stepTimer) :
    headerReadComplete header s
      = if headerOk header then s.setStartup { s.startup with image := header } else s.imageRejected := by
  simp [headerReadComplete, hread, hlen, headerLength, State.readTimeOf, memoryByteTime, htime, rejectImage_eq]

theorem missingAcknowledge_of_due {sent : Nat} (hread : s.readingAfter 0 = true) (hsent : sent < 4)
    (htime : 90 * (sent + 1) ≤ s.startup.stepTimer) : missingAcknowledge sent s = s.imageRejected := by
  simp [missingAcknowledge, hread, hsent, State.readTimeOf, memoryByteTime, htime, rejectImage_eq]

theorem imageReadComplete_of_due {rest : List Byte} (hread : s.readingAfter 7 = true)
    (hlen : (s.startup.image ++ rest).length = wordAt (s.startup.image ++ rest) 2)
    (htime : 90 * (4 + (s.startup.image ++ rest).length) ≤ s.startup.stepTimer) :
    imageReadComplete rest s
      = if imageOk (s.startup.image ++ rest) then
          s.setStartup { s.startup with
            step := .checking, stepTimer := 0, image := s.startup.image ++ rest, memoryBusy := false }
        else s.imageRejected := by
  unfold imageReadComplete
  extract_lets image
  rw [if_pos ⟨hread, hlen, decide_eq_true htime⟩, rejectImage_eq]
  rfl

/-- A read ends with a stop condition and both lines released, however it ends (R186). -/
theorem read_ended (hs : s.startup.station = .starting) (hstep : s.startup.step = .checking)
    (htimer : s.startup.stepTimer = 0) :
    s.memoryCondition = some .stop ∧ s.cfgClk = true ∧ ∀ header, s.memoryData header = none := by
  have hreleased : s.memoryReading = false := by simp [State.memoryReading, hstep]
  refine ⟨by simp [State.memoryCondition, hreleased, hs, hstep, htimer], ?_, fun header => ?_⟩
  · exact (released_lines [] s hreleased).1
  · obtain ⟨-, -, hdata, -⟩ := released_lines header s hreleased
    exact hdata

end Sys2Proof.Machine

open Sys2Proof Sys2Proof.Machine

/-- Settles O8: the acknowledge bit of the seventh byte and the end of that byte look at the same checks. -/
theorem headerOrAcknowledgeDecidesTheRead : Obligations.HeaderOrAcknowledgeDecidesTheRead := by
  unfold Obligations.HeaderOrAcknowledgeDecidesTheRead
  intro after s hs hstep hbusy himage
  have hread : (s.elapse after).readingAfter 0 = true :=
    readingAfter_of (by simp [hs]) (by simp [hstep]) (by simp [hbusy]) (by simp [himage])
  refine ⟨fun header hlen htime => ?_, fun sent hsent htime => ?_⟩
  · have hend := headerReadComplete_of_due hread hlen (by rwa [elapse_stepTimer hs])
    extract_lets good
    have hgood : good ↔ headerOk header = true := (headerOk_iff header).symm
    refine ⟨fun dt hfrom hto => ?_, fun h => ?_, fun h => ?_⟩
    · have hack := header_acknowledged header (s.elapse dt) (by simp [State.memoryReading, hs, hstep, hbusy])
        (by simp [himage]) (by rw [elapse_stepTimer hs]; omega) (by rw [elapse_stepTimer hs]; omega)
      rw [hack, hgood]
      constructor <;> intro h <;> simp [headerAcknowledge, h]
    · rw [if_pos (hgood.1 h)] at hend
      rw [← elapse_stepTimer hs]
      exact congrArg Host.Outcome.next hend
    · rw [if_neg (mt hgood.2 h)] at hend
      exact congrArg Host.Outcome.next hend
  · refine ⟨congrArg Host.Outcome.next (missingAcknowledge_of_due hread hsent (by rwa [elapse_stepTimer hs])), ?_⟩
    exact (read_ended (s := (s.elapse after).imageRejected) hs rfl rfl).1

/-- Settles O9: both ends of the check leave the station at CHECKING with its lines released. -/
theorem wholeImageIsCheckedWhenRead : Obligations.WholeImageIsCheckedWhenRead := by
  unfold Obligations.WholeImageIsCheckedWhenRead
  intro after rest s hs hstep hbusy hseven
  extract_lets image good _ _
  intro hlen htime
  have hgood : good ↔ imageOk image = true := (imageOk_iff image).symm
  have hend := imageReadComplete_of_due (s := s.elapse after) (rest := rest)
    (readingAfter_of (by simp [hs]) (by simp [hstep]) (by simp [hbusy]) (by simp [hseven])) hlen
    (by rw [elapse_stepTimer hs]; exact htime)
  refine ⟨imageReadComplete rest (s.elapse after), rfl, fun h => ?_, fun h => ?_, ?_⟩
  · exact hend.trans (if_pos (hgood.1 h))
  · exact hend.trans (if_neg (mt hgood.2 h))
  · rw [hend]
    split
    · exact read_ended hs rfl rfl
    · exact read_ended hs rfl rfl

end

section
/-! PROOFS. The load of an accepted image: its bindings, its library and the entry to JOINING (sections 10.3 and 10.4). O10. -/

namespace Sys2Proof.Machine

/-! ### Fields of the image's bytes -/

theorem bitsOf_one_eq (b : Byte) (lo : Nat) : (bitsOf b lo 1 == 1) = b.getLsbD lo := by
  rw [bitsOf, BitVec.getLsbD, Nat.testBit_eq_decide_div_mod_eq]
  rfl

theorem imageBinding_eq (bs : List Byte) (n : Nat) :
    imageBinding bs n = ⟨(byteAt bs (7 + 2 * n)).getLsbD 7, (byteAt bs (7 + 2 * n)).getLsbD 6,
      (byteAt bs (7 + 2 * n)).toNat / 8 % 4,
      ⟨(byteAt bs (8 + 2 * n)).toNat % 64, (byteAt bs (7 + 2 * n)).toNat % 8, (byteAt bs (7 + 2 * n)).getLsbD 5⟩⟩ := by
  simp only [imageBinding, bitsOf_one_eq]
  simp [bitsOf]

theorem imageStep_eq (bs : List Byte) (k : Nat) : imageStep bs k = stepInImage bs k := by
  have h := (byteAt bs (207 + 4 * k)).isLt
  simp only [imageStep, stepInImage, bitsOf, stepsAt, StoredStep.mk.injEq, true_and, and_true]
  omega

theorem imageRecord_eq (bs : List Byte) (p : Nat) : imageRecord bs p = recordInImage bs p := by
  simp only [imageRecord, recordInImage, Nat.add_zero, show ∀ j, 86 + 5 * p + j = (86 + j) + 5 * p by omega]

/-! ### The library -/

/-- The steps of a list that lies in the pool. -/
theorem stored_imageLibrary (bs : List Byte) {start count : Nat} (h : start + count ≤ imageSteps bs) :
    (imageLibrary bs).stored start count = listInImage bs start count := by
  apply List.ext_getElem?
  intro i
  simp only [Library.stored, imageLibrary, Library.validated, listInImage, List.getElem?_take, List.getElem?_drop,
    List.getElem?_map]
  split
  · next hi =>
    rw [List.getElem?_range (by omega), List.getElem?_range hi]
    simp [imageStep_eq]
  · next hi =>
    rw [List.getElem?_eq_none (by simpa using hi)]
    rfl

theorem record_imageLibrary (bs : List Byte) {p : Nat} (h : p < 24) : (imageLibrary bs).record p = recordInImage bs p := by
  simp [Library.record, imageLibrary, Library.validated, List.getD_eq_getElem?_getD, List.getElem?_map,
    List.getElem?_range h, imageRecord_eq]

theorem pool_imageLibrary (bs : List Byte) : (imageLibrary bs).pool.length = imageSteps bs := by
  simp [imageLibrary, Library.validated]

theorem StoredStep.inRange_iff (st : StoredStep) :
    st.inRange = true ↔ 1 ≤ st.duration ∧ st.duration ≤ 128 ∧ st.envelopeCode ≤ 2 := by
  have henvelope : (envelopeOf st.envelopeCode).isSome = true ↔ st.envelopeCode ≤ 2 := by
    unfold envelopeOf
    split <;> simp_all
    omega
  simp [StoredStep.inRange, henvelope, and_assoc]

/-- The conditions of R117 are made of the image's own bytes. -/
theorem patternOk_imageLibrary (bs : List Byte) {p : Nat} (h : p < 24) :
    (imageLibrary bs).patternOk p = validInImage bs (imageSteps bs) p := by
  rw [Bool.eq_iff_iff]
  simp only [Library.patternOk, validInImage, record_imageLibrary bs h, pool_imageLibrary, Bool.and_eq_true,
    Bool.or_eq_true, beq_iff_eq, decide_eq_true_eq, List.all_eq_true, StoredStep.inRange_iff, List.mem_cons,
    List.not_mem_nil, or_false, List.mem_append]
  constructor
  · rintro ⟨⟨⟨⟨⟨⟨⟨⟨⟨hbars, hsixteen⟩, hone⟩, hmost⟩, hintro⟩, hcycle⟩, hintroSteps⟩, hcycleSteps⟩, hintroSum⟩, hcycleSum⟩
    rw [stored_imageLibrary bs hintro] at hintroSteps hintroSum
    rw [stored_imageLibrary bs hcycle] at hcycleSteps hcycleSum
    exact ⟨or_assoc.1 hbars, hsixteen, hone, hmost, hintro, hcycle,
      fun st hst => hst.elim (hintroSteps st) (hcycleSteps st), hintroSum, hcycleSum⟩
  · rintro ⟨hbars, hsixteen, hone, hmost, hintro, hcycle, hsteps, hintroSum, hcycleSum⟩
    rw [stored_imageLibrary bs hintro, stored_imageLibrary bs hcycle]
    exact ⟨⟨⟨⟨⟨⟨⟨⟨⟨or_assoc.2 hbars, hsixteen⟩, hone⟩, hmost⟩, hintro⟩, hcycle⟩, fun st hst => hsteps st (.inl hst)⟩,
      fun st hst => hsteps st (.inr hst)⟩, hintroSum⟩, hcycleSum⟩

theorem playable_iff (bs : List Byte) (hcount : imagePatterns bs ≤ 24) (p : Nat) :
    (imageLibrary bs).playable p = true
      ↔ 1 ≤ p ∧ p < imagePatterns bs ∧ validInImage bs (imageSteps bs) p = true := by
  have hpatterns : (imageLibrary bs).patternCount = imagePatterns bs := rfl
  simp only [Library.playable, Bool.and_eq_true, decide_eq_true_eq, hpatterns, and_assoc]
  refine and_congr_right fun _ => and_congr_right fun hlt => ?_
  rw [patternOk_imageLibrary bs (by omega)]

theorem rejected_imageLibrary (bs : List Byte) (hcount : imagePatterns bs ≤ 24) :
    (imageLibrary bs).rejected
      = ((List.range (imagePatterns bs)).filter fun p =>
          decide (1 ≤ p) && !validInImage bs (imageSteps bs) p).length := by
  have hrejected : (imageLibrary bs).rejected
      = ((List.range (imagePatterns bs)).filter fun p => decide (1 ≤ p) && !(imageLibrary bs).patternOk p).length := rfl
  rw [hrejected]
  congr 1
  refine List.filter_congr fun p hp => ?_
  rw [patternOk_imageLibrary bs (by have := List.mem_range.1 hp; omega)]

theorem patternOf_imageLibrary (bs : List Byte) (hcount : imagePatterns bs ≤ 24) {cue : Nat} (hfirst : 1 ≤ cue)
    (hlast : cue ≤ 63) :
    (imageLibrary bs).patternOf cue
      = if 1 ≤ (byteAt bs (22 + cue)).toNat ∧ (byteAt bs (22 + cue)).toNat < imagePatterns bs
            ∧ validInImage bs (imageSteps bs) (byteAt bs (22 + cue)).toNat = true then (byteAt bs (22 + cue)).toNat
        else 0 := by
  have heffective : (imageLibrary bs).effective = ((List.range 63).map fun c => byteAt bs (23 + c)).map
      fun b => if (imageLibrary bs).playable b.toNat then b.toNat else 0 := rfl
  simp only [Library.patternOf, heffective, List.getD_eq_getElem?_getD, List.getElem?_map,
    List.getElem?_range (show cue - 1 < 63 by omega), Option.map_some, Option.getD_some, playable_iff bs hcount,
    show 23 + (cue - 1) = 22 + cue by omega]

theorem step_eq_playedStep (st : StoredStep) (h : st.envelopeCode ≤ 2) : st.step = playedStep st := by
  simp only [StoredStep.step, playedStep, Step.mk.injEq, true_and, and_true]
  obtain hcode | hcode | hcode : st.envelopeCode = 0 ∨ st.envelopeCode = 1 ∨ st.envelopeCode = 2 := by omega
  all_goals simp [hcode, envelopeOf]

/-- A pattern that passed its checks plays its own record's lists (R115). -/
theorem pattern_imageLibrary (bs : List Byte) {p : Nat} (hp : 1 ≤ p) (h24 : p < 24)
    (hvalid : validInImage bs (imageSteps bs) p = true) :
    (imageLibrary bs).intro p
        = (listInImage bs (recordInImage bs p).introStart (recordInImage bs p).introCount).map playedStep
      ∧ (imageLibrary bs).cycle p
        = (listInImage bs (recordInImage bs p).cycleStart (recordInImage bs p).cycleCount).map playedStep
      ∧ (imageLibrary bs).bars p = (recordInImage bs p).cycleBars := by
  have hzero : p ≠ 0 := by omega
  obtain ⟨-, -, -, -, hintro, hcycle, hsteps, -, -⟩ := of_decide_eq_true hvalid
  simp only [Library.intro, Library.cycle, Library.bars, hzero, if_false, record_imageLibrary bs h24,
    stored_imageLibrary bs hintro, stored_imageLibrary bs hcycle, and_true]
  refine ⟨List.map_congr_left fun st hst => step_eq_playedStep st ?_,
    List.map_congr_left fun st hst => step_eq_playedStep st ?_⟩
  · exact (hsteps st (List.mem_append_left _ hst)).2.2
  · exact (hsteps st (List.mem_append_right _ hst)).2.2

/-! ### The end of the load -/

/-- What the end of CHECKING leaves of a station whose image was loaded or rejected (R184, R189). -/
def State.afterLoad (s : State) : State :=
  if s.startup.validity = .rejected then s else loadImage s

theorem loadComplete_of_checking {s : State} (hs : s.startup.station = .starting) (hstep : s.startup.step = .checking) :
    loadComplete s
      = enterJoining (s.afterLoad.setStartup { s.afterLoad.startup.toStep .done with image := [] }) := by
  simp [loadComplete, State.startingAt, hs, hstep, State.afterLoad]

/-- An accepted image takes effect: its bindings, its library, and CONFIG where a pattern was replaced. -/
theorem loadImage_eq (s : State) :
    loadImage s = { s with
      bindings := (List.range 8).map (imageBinding s.startup.image)
      library := imageLibrary s.startup.image
      startup := { s.startup with validity := .accepted }
      faults := if (imageLibrary s.startup.image).rejected = 0 then s.faults else s.faults ||| 0x10#8
      port := (loadImage s).port } := by
  unfold loadImage
  extract_lets _ t
  by_cases h : (imageLibrary s.startup.image).rejected = 0
  · have ht : t.library.rejected = 0 := h
    rw [if_pos ht, if_pos h]
  · have ht : t.library.rejected ≠ 0 := h
    rw [if_neg ht, if_neg h, setFault_eq]
    rfl

/-- The blocks at the entry to JOINING, before the scanner asks for its first conversion (R190). -/
def State.atJoining (s : State) : State :=
  { s with
    beat := s.beat.join
    line := { s.line with phase := .idle, lowTimer := 0, stuckTold := false }
    loop := { s.loop with slotTimer := 0, part := .mark }
    scanner := ⟨0, some 0⟩
    keys := s.keys.join
    supply := { s.supply with ownTimer := none }
    startup := { s.startup with station := .joining, membership := 0 }
    port := { s.port with attn := true } }

theorem enterJoining_eq (s : State) : enterJoining s = requestScan s.atJoining := rfl

theorem afterLoad_of_rejected {s : State} (h : s.startup.validity = .rejected) : s.afterLoad = s := if_pos h

theorem afterLoad_of_accepted {s : State} (h : s.startup.validity ≠ .rejected) : s.afterLoad = loadImage s := if_neg h

/-- A load touches nothing but the configuration, CONFIG and the latch. -/
theorem afterLoad_frame (s : State) :
    s.afterLoad.beat = s.beat ∧ s.afterLoad.line = s.line ∧ s.afterLoad.loop = s.loop ∧ s.afterLoad.keys = s.keys
      ∧ s.afterLoad.supply = s.supply ∧ s.afterLoad.table = s.table ∧ s.afterLoad.queue = s.queue
      ∧ s.afterLoad.roster = s.roster ∧ s.afterLoad.counters = s.counters
      ∧ s.afterLoad.startup.cause = s.startup.cause ∧ s.afterLoad.startup.ownAddr = s.startup.ownAddr := by
  by_cases h : s.startup.validity = .rejected
  · simp [afterLoad_of_rejected h]
  · rw [afterLoad_of_accepted h, loadImage_eq]
    simp

end Sys2Proof.Machine

open Sys2Proof Sys2Proof.Machine

/-- Settles O10: the entry to JOINING sets the modes and timers, the load the rest. -/
theorem loadCompleteEntersJoining : Obligations.LoadCompleteEntersJoining := by
  unfold Obligations.LoadCompleteEntersJoining
  intro after s hs hstep
  refine ⟨loadComplete (s.elapse after), rfl, ?_⟩
  rw [loadComplete_of_checking (by simp [hs]) (by simp [hstep]), enterJoining_eq]
  have hframe := afterLoad_frame (s.elapse after)
  simp only [requestScan_frame, State.atJoining, State.setStartup, Startup.toStep, hframe, BeatUnit.join, KeyUnit.join,
    elapse_frame, elapse_beat, elapse_keys, elapse_startup, true_and]
  split
  · next h => simp [afterLoad_of_rejected (s := s.elapse after) h, h]
  · next h =>
    rw [afterLoad_of_accepted (s := s.elapse after) h, loadImage_eq]
    simp only [elapse_startup, elapse_frame]
    have hsteps : imageSteps s.startup.image
        = (byteAt s.startup.image 5).toNat * 256 + (byteAt s.startup.image 6).toNat := rfl
    refine ⟨trivial, ?_, trivial, fun hcount => ⟨?_, fun cue hfirst hlast => ?_, fun p hp hlt hvalid => ?_⟩⟩
    · exact List.map_congr_left fun n _ => imageBinding_eq _ n
    · rw [← hsteps]
      exact rejected_imageLibrary _ hcount
    · rw [← hsteps]
      exact patternOf_imageLibrary _ hcount hfirst hlast
    · rw [← hsteps] at hvalid
      exact pattern_imageLibrary _ hp (by omega) hvalid

end

section
/-! PROOFS. What a wait does, unit by unit, and that waits add up. O11. -/

namespace Sys2Proof.Machine

/-! ### Two waits in a row -/

theorem timer_map_tick (cap a b : Nat) (t : Option Nat) :
    (t.map (tick cap a)).map (tick cap b) = t.map (tick cap (a + b)) := by
  cases t
  · rfl
  · simp [tick_tick]

theorem RstPin.elapse_elapse (a b : Nat) (p : RstPin) : (p.elapse a).elapse b = p.elapse (a + b) := by
  cases p <;> simp [RstPin.elapse, tick_tick]

/-- The mark as a wait leaves it. -/
def Mark.elapse (dt : Nat) (m : Mark) : Mark :=
  { m with remaining := m.remaining - dt }

theorem Mark.elapse_elapse (a b : Nat) (m : Mark) : (m.elapse a).elapse b = m.elapse (a + b) := by
  simp [Mark.elapse, Nat.sub_sub]

theorem Mark.unseen_elapse (a : Nat) (m : Mark) : (m.elapse a).unseen = m.unseen - a := Machine.unseen_elapse a m

theorem BeatUnit.elapse_mark (low : Bool) (dt : Nat) (b : BeatUnit) : (b.elapse low dt).mark = b.mark.map (Mark.elapse dt) := rfl

theorem Pins.elapse_elapse (mark : Option Mark) (a b : Nat) (p : Pins) :
    (p.elapse mark a).elapse (mark.map (Mark.elapse a)) b = p.elapse mark (a + b) := by
  cases mark with
  | none => simp [Pins.elapse, tick_tick, RstPin.elapse_elapse]
  | some m =>
    have hseen : (decide (m.unseen ≤ a) || decide (m.unseen - a ≤ b)) = decide (m.unseen ≤ a + b) := by
      rw [← Bool.decide_or]
      exact decide_eq_decide.2 (by omega)
    simp only [Pins.elapse, Option.map_some, Option.any_some, Option.isSome_some, Mark.unseen_elapse, Bool.or_assoc,
      hseen, Bool.true_and, tick_tick, RstPin.elapse_elapse, Pins.mk.injEq, true_and, and_true]
    by_cases hlow : (p.beatLow || decide (m.unseen ≤ a + b)) = true
    · simp only [hlow, if_true]
    · have hfirst : (p.beatLow || decide (m.unseen ≤ a)) = false := by
        simp only [Bool.or_eq_true, decide_eq_true_eq] at hlow
        simp only [Bool.or_eq_false_iff, decide_eq_false_iff_not]
        exact ⟨by simpa using fun h => hlow (.inl h), fun h => hlow (.inr (by omega))⟩
      simp only [hlow, hfirst, if_false, Bool.false_eq_true, tick_tick]

/-- How long BEAT reads low in two waits is how long it does in one of both lengths. -/
theorem lowWithin_add (low : Bool) (mark : Option Mark) (a b : Nat) :
    lowWithin low mark a
        + lowWithin (low || mark.any fun m => decide (m.unseen ≤ a)) (mark.map (Mark.elapse a)) b
      = lowWithin low mark (a + b) := by
  cases low with
  | true => simp [lowWithin]
  | false =>
    cases mark with
    | none => simp [lowWithin]
    | some m =>
      by_cases h : m.unseen ≤ a
      · simp only [lowWithin, Option.any_some, decide_eq_true h, Bool.or_true, if_true, Bool.false_eq_true, if_false]
        omega
      · simp only [lowWithin, Option.any_some, decide_eq_false h, Bool.or_false, if_false, Bool.false_eq_true,
          Option.map_some, Mark.unseen_elapse]
        omega

theorem BeatUnit.elapse_elapse (low : Bool) (a b : Nat) (u : BeatUnit) :
    (u.elapse low a).elapse (low || u.mark.any fun m => decide (m.unseen ≤ a)) b = u.elapse low (a + b) := by
  have hlow := lowWithin_add low u.mark a b
  have hmark : (u.mark.map (Mark.elapse a)).map (Mark.elapse b) = u.mark.map (Mark.elapse (a + b)) := by
    cases u.mark
    · rfl
    · simp [Mark.elapse_elapse]
  simp only [BeatUnit.elapse, BeatUnit.mk.injEq, true_and, and_true]
  refine ⟨?_, hmark, (Nat.add_assoc _ _ _).trans (congrArg _ hlow)⟩
  split <;> simp [tick_tick]

theorem Line.elapse_elapse (running low : Bool) (a b : Nat) (l : Line) :
    (l.elapse running low a).elapse running low b = l.elapse running low (a + b) := by
  have hgap : (l.elapse running low a).inGap = l.inGap := rfl
  rw [Line.elapse, hgap]
  simp only [Line.elapse, Line.mk.injEq, true_and, and_true]
  refine ⟨?_, ?_, ?_, ?_⟩
  · split <;> omega
  · cases l.inGap
    · rfl
    · simp only [if_true]
      omega
  · cases l.inGap
    · rfl
    · simp only [if_true]
      omega
  · split <;> omega

theorem Transceiver.elapse_elapse (running : Bool) (a b : Nat) (t : Transceiver) :
    (t.elapse running a).elapse running b = t.elapse running (a + b) := by
  simp only [Transceiver.elapse, Transceiver.mk.injEq, true_and]
  refine ⟨?_, ?_⟩
  · cases running <;> simp [Nat.add_assoc]
  · cases t.tx <;> simp [Nat.add_assoc]

theorem Drive.elapse_elapse (a b : Nat) (d : Drive) : (d.elapse a).elapse b = d.elapse (a + b) := by
  have hsounding : (d.elapse a).sounding = d.sounding := rfl
  rw [Drive.elapse, hsounding]
  simp only [Drive.elapse, timer_map_tick, Drive.mk.injEq, true_and, and_true, Nat.mul_add]
  refine ⟨?_, ?_⟩
  · cases d.sounding <;> simp only [if_true, if_false, Bool.false_eq_true, Nat.add_assoc]
  · by_cases hdark : d.beaconLevel = 0 <;> simp [hdark, Nat.add_assoc]

theorem Converter.elapse_elapse (a b : Nat) (c : Converter) : (c.elapse a).elapse b = c.elapse (a + b) := by
  simp only [Converter.elapse, Converter.mk.injEq, true_and, and_true]
  refine ⟨?_, ?_⟩
  · split <;> simp [tick_tick]
  · rw [Bool.and_assoc, Bool.eq_iff_iff]
    simp

theorem Input.elapse_elapse (a b : Nat) (x : Input) : (x.elapse a).elapse b = x.elapse (a + b) := by
  simp only [Input.elapse, timer_map_tick]

theorem KeyLine.elapse_elapse (a b : Nat) (k : KeyLine) : (k.elapse a).elapse b = k.elapse (a + b) := by
  simp only [KeyLine.elapse, timer_map_tick]

theorem Startup.elapse_elapse (a b : Nat) (u : Startup) : (u.elapse a).elapse b = u.elapse (a + b) := by
  simp only [Startup.elapse, Startup.mk.injEq, true_and, and_true]
  split <;> simp [Nat.add_assoc]

theorem State.elapse_elapse (a b : Nat) (s : State) : (s.elapse a).elapse b = s.elapse (a + b) := by
  have hinputs : (s.inputs.map (Input.elapse a)).map (Input.elapse b) = s.inputs.map (Input.elapse (a + b)) := by
    simp [Function.comp_def, Input.elapse_elapse]
  have hpins := Pins.elapse_elapse s.beat.mark a b s.pins
  have hbeat := BeatUnit.elapse_elapse s.pins.beatLow a b s.beat
  simp only [State.elapse, BeatUnit.elapse_mark, hpins, hinputs, timer_map_tick, Drive.elapse_elapse, Converter.elapse_elapse,
    KeyLine.elapse_elapse, Startup.elapse_elapse, State.mk.injEq, true_and, and_true]
  exact ⟨hbeat, Line.elapse_elapse s.running s.pins.dataLow a b s.line, Transceiver.elapse_elapse s.running a b s.loop⟩

end Sys2Proof.Machine

open Sys2Proof Sys2Proof.Machine

/-- Settles O11. -/
theorem waitsAddUp : Obligations.WaitsAddUp := by
  unfold Obligations.WaitsAddUp
  refine ⟨fun a b s => State.elapse_elapse a b s, ?_⟩
  intro n s
  extract_lets inGap unseen low
  simp only [State.elapse, State.mk.injEq, true_and, and_true]
  have hunseen : ∀ m : Mark, m.unseen = unseen m := fun m => by cases m with | mk kind _ => cases kind <;> rfl
  refine ⟨?_, ?_, ?_, rfl, ?_, ?_, rfl, rfl, rfl, rfl, rfl⟩
  · have hlow : (s.pins.beatLow || s.beat.mark.any fun m => decide (m.unseen ≤ n)) = low := by
      cases h : s.beat.mark <;> simp [low, h, hunseen]
    simp only [Pins.elapse, Pins.mk.injEq, hlow, Bool.and_eq_true, true_and]
    refine ⟨rfl, rfl, rfl, ?_⟩
    cases s.pins.rst <;> rfl
  · simp only [BeatUnit.elapse, BeatUnit.mk.injEq, lowWithin]
    refine ⟨rfl, rfl, rfl, rfl, rfl, rfl, rfl, rfl, rfl, rfl, trivial, ?_, rfl, rfl⟩
    cases s.pins.beatLow <;> cases h : s.beat.mark <;> simp [hunseen]
  · simp only [Line.elapse, Line.mk.injEq]
    refine ⟨rfl, ?_, rfl, rfl, rfl, rfl, rfl, rfl, ?_, rfl⟩
    · simp
    · simp
  · simp only [Drive.elapse, Drive.mk.injEq, Drive.sounding]
    refine ⟨rfl, rfl, rfl, rfl, rfl, rfl, rfl, rfl, rfl, rfl, rfl, ?_, ?_, rfl, rfl⟩
    · by_cases htone : s.drive.tone = 0 <;> by_cases hlevel : s.drive.level = 0 <;> simp [htone, hlevel]
    · by_cases hdark : s.drive.beaconLevel = 0 <;> simp [hdark, beaconHz]
  · simp only [Converter.elapse, Converter.mk.injEq]
    refine ⟨rfl, rfl, rfl, ?_, rfl, rfl⟩
    by_cases hn : n = 0 <;> simp [hn]

end

section
/-! PROOFS. What the beat unit's operations do to the beat unit itself, what a wait leaves of its edges, and what a beat
hands on (chapter 1). -/

namespace Sys2Proof.Machine

variable {s : State} {dt : Nat}

/-! ### The beat unit's own part of a beat -/

@[simp] theorem modifyBeat_beat (f : BeatUnit → BeatUnit) (s : State) : (modifyBeat f s).beat = f s.beat := rfl

@[simp] theorem indexZeroReport_beat (s : State) : (indexZeroReport s).beat = s.beat := by simp

/-- A beat's own part at the beat unit: the index advances, and at 0 the bar count does (R1, R2). -/
def BeatUnit.begun (kind : BeatKind) (b : BeatUnit) : BeatUnit :=
  { b with
    timer := 0, lastKind := kind, eighth := 0, beatIndex := b.beatIndex + 1#4
    measuring := kind == .followed || kind == .own
    barCount := if b.beatIndex = 15#4 then b.barCount + 1#8 else b.barCount
    strayTally := if b.beatIndex = 15#4 then 0 else b.strayTally }

theorem nextIndex_eq_zero (i : BitVec 4) : i + 1#4 = 0#4 ↔ i = 15#4 := by
  revert i; decide

theorem startBeat_beat (kind : BeatKind) (s : State) : (startBeat kind s).beat = s.beat.begun kind := by
  by_cases h : s.beat.beatIndex = 15#4
  · have hzero : s.beat.beatIndex + 1#4 = 0#4 := (nextIndex_eq_zero _).2 h
    unfold startBeat becomeZero
    dsimp only
    rw [if_pos (by exact hzero)]
    split <;> simp [BeatUnit.begun, h]
  · have hzero : ¬ s.beat.beatIndex + 1#4 = 0#4 := fun hz => h ((nextIndex_eq_zero _).1 hz)
    unfold startBeat
    dsimp only
    rw [if_neg (by exact hzero)]
    simp [BeatUnit.begun, h]

/-- Outside LOCKED a beat reports no index of 0 (R2). -/
theorem startBeat_reports (kind : BeatKind) (h : s.beat.lock ≠ .locked) :
    (startBeat kind s).startup = s.startup ∧ (startBeat kind s).port = s.port := by
  unfold startBeat becomeZero
  dsimp only
  (repeat' split) <;> simp_all

@[simp] theorem holdMark_pins (s : State) : (holdMark s).pins = s.pins := rfl

theorem holdMark_beat (s : State) : (holdMark s).beat = { s.beat with
    mark := some (markAt s.beat.beatIndex s.beat.phaseConfirmed)
    lowTimer := if s.pins.beatLow then s.beat.lowTimer else 0 } := rfl

theorem enterLocked_beat (s : State) :
    (enterLocked s).beat = { s.beat with lock := .locked, strayTally := 0, settle := 0, freeBeats := 0 } := by
  simp [enterLocked]

theorem enterLocked_startup (s : State) : (enterLocked s).startup = { s.startup with membership := 0 } := rfl

theorem settleTo_locks {n : Nat} (h : 4 ≤ n) (s : State) : settleTo n s = enterLocked s := if_pos h

theorem settleTo_goes_on {n : Nat} (h : ¬ 4 ≤ n) (s : State) :
    settleTo n s = s.setBeat { s.beat with lock := .settling, settle := n, freeBeats := 0 } := if_neg h

theorem enterFree_beat (s : State) :
    (enterFree s).beat = { s.beat with
      lock := .free, mark := none, strayTally := 0, settle := 0, freeBeats := 0, phaseConfirmed := false } := by
  simp [enterFree]

/-! ### The entry to FREE and the frame being sent -/

theorem setStation_startup (st : StationState) (s : State) :
    (setStation st s).startup = { s.startup with station := st } := rfl

theorem freeReport_startup (s : State) :
    (freeReport s).startup = { s.startup with
      membership := 0, station := if s.startup.station = .member then .joining else s.startup.station } := by
  unfold freeReport
  dsimp only
  split <;> simp [setStation_startup]

theorem abandonTx_of_sending {r : TxRecord} (h : s.loop.tx = some r) (hr : r.outcome = .sending) :
    (abandonTx s).loop = { s.loop with tx := some { r with outcome := .abandoned } }
      ∧ (abandonTx s).queue = s.queue.backFromLine := by
  simp [abandonTx, h, hr]

/-- A MEMBER that becomes JOINING gives up the frame it is sending (R192). -/
theorem freeReport_of_sending {r : TxRecord} (hm : s.startup.station = .member) (h : s.loop.tx = some r)
    (hr : r.outcome = .sending) :
    (freeReport s).loop = { s.loop with tx := some { r with outcome := .abandoned } }
      ∧ (freeReport s).queue = s.queue.backFromLine := by
  have habandon := abandonTx_of_sending
    (s := setStation .joining (s.setStartup { s.startup with membership := 0 })) (by simpa using h) hr
  simpa [freeReport, hm] using habandon

theorem enterFree_startup (s : State) :
    (enterFree s).startup = { s.startup with
      membership := 0, station := if s.startup.station = .member then .joining else s.startup.station } := by
  rw [enterFree, freeReport_startup]
  simp

theorem enterFree_of_sending {r : TxRecord} (hm : s.startup.station = .member) (h : s.loop.tx = some r)
    (hr : r.outcome = .sending) :
    (enterFree s).loop = { s.loop with tx := some { r with outcome := .abandoned } }
      ∧ (enterFree s).queue = s.queue.backFromLine := by
  rw [enterFree]
  obtain ⟨hloop, hqueue⟩ := freeReport_of_sending (s := modifyBeat _ s) hm h hr
  exact ⟨hloop, hqueue⟩

/-! ### The edges of BEAT after a wait -/

theorem elapse_beat_timer (h : s.beat.lock ≠ .halted) (dt : Nat) :
    (s.elapse dt).beat.timer = min 250000 (s.beat.timer + dt) := by
  simp [State.elapse, BeatUnit.elapse, h, tick, beatTime]

theorem elapse_guarded (h : s.beat.lock ≠ .halted) (dt : Nat) :
    (s.elapse dt).beat.timer < guardTime ↔ s.beat.timer + dt < 20000 := by
  rw [elapse_beat_timer h, guardTime]; omega

theorem elapse_early (h : s.beat.lock ≠ .halted) (dt : Nat) :
    (s.elapse dt).beat.timer < captureTime ↔ s.beat.timer + dt < 230000 := by
  rw [elapse_beat_timer h, captureTime]; omega

/-- What a wait leaves of the line for the filter to take a fall (R3, R197). -/
theorem seesBeatFall_elapse (s : State) (dt : Nat) : (s.elapse dt).seesBeatFall = true ↔ s.beatFallSeen dt := by
  have hlow := elapse_beatLow dt s
  cases hmark : s.beat.mark with
  | none =>
    have hheld := (elapse_pins_noMark dt s hmark).2
    simp only [State.seesBeatFall, hlow, hheld, hmark, State.beatFallSeen, tick, filterTime, Bool.and_eq_true,
      Bool.not_eq_true', decide_eq_true_eq, Option.any_none, Bool.or_false]
    simp
  | some m =>
    have hheld : (s.elapse dt).pins.beatHeld
        = if (s.pins.beatLow || decide (m.unseen ≤ dt)) then 0 else min 2 (s.pins.beatHeld + dt) := by
      simp [State.elapse, Pins.elapse, hmark, tick, filterTime]
    simp only [State.seesBeatFall, hlow, hheld, hmark, State.beatFallSeen, filterTime, Bool.and_eq_true,
      Bool.not_eq_true', decide_eq_true_eq, Option.any_some]
    by_cases hseen : m.unseen ≤ dt
    · simp [hseen]
    · simp [hseen, Nat.lt_of_not_le hseen]
      intro hhigh
      simp [hhigh]

/-- The station once a fall of BEAT has been taken at the line: the level and the low timer (R197). -/
def State.fallen (s : State) : State :=
  { s with pins := { s.pins with beatLow := true, beatHeld := 0 }, beat := { s.beat with lowTimer := 0 } }

theorem beatFall_of_seen (h : s.beatFallSeen dt) : beatFall (s.elapse dt) = takeFall (s.elapse dt).fallen :=
  if_pos ((seesBeatFall_elapse s dt).2 h)

theorem beatFall_of_unseen (h : ¬ s.beatFallSeen dt) : beatFall (s.elapse dt) = s.elapse dt :=
  if_neg (mt (seesBeatFall_elapse s dt).1 h)

theorem beatExpired_elapse (s : State) (dt : Nat) :
    (s.elapse dt).beatExpired = true ↔ s.beat.lock ≠ .halted ∧ 250000 ≤ s.beat.timer + dt := by
  by_cases h : s.beat.lock = .halted
  · simp [State.beatExpired, h]
  · simp [State.beatExpired, h, elapse_beat_timer h, beatTime]

/-! ### What a beat does to the frame being received -/

theorem bump_get_of_ne {n m : CounterName} (h : m ≠ n) (s : State) :
    (bump n s).counters.get m = s.counters.get m := by
  unfold bump
  dsimp only
  (repeat' split) <;> simp [h.symm]

theorem bumpTimes_get_of_ne {n m : CounterName} (h : m ≠ n) (k : Nat) (s : State) :
    (bumpTimes n k s).counters.get m = s.counters.get m := by
  induction k generalizing s with
  | zero => rfl
  | succ k ih => rw [bumpTimes, ih, bump_get_of_ne h]

theorem bump_get_self (n : CounterName) (h : s.counters.get n ≤ 255) :
    (bump n s).counters.get n = min 255 (s.counters.get n + 1) := by
  rw [bump_eq n s h]
  simp [State.counted]

theorem enqueue_get_of_ne {m : CounterName} (h : m ≠ .txqDiscard) (n : News) (s : State) :
    (enqueue n s).counters.get m = s.counters.get m := by
  unfold enqueue
  dsimp only
  split
  · rw [bump_get_of_ne h]
    simp
  · simp

theorem restoreAction_get_of_ne {m : CounterName} (h : m ≠ .txqDiscard) (s : State) :
    (restoreAction s).counters.get m = s.counters.get m := by
  simp [restoreAction, originateRestore, enqueue_get_of_ne h]

theorem keyMark_get_of_ne {m : CounterName} (h : m ≠ .txqDiscard) (s : State) :
    (keyMark s).counters.get m = s.counters.get m := by
  unfold keyMark
  (repeat' split)
  · rfl
  · exact restoreAction_get_of_ne h s
  · simp

theorem handMark_get_of_ne {m : CounterName} (h : m ≠ .txqDiscard) {part : State → State}
    (hpart : ∀ s, (part s).counters = s.counters) (s : State) :
    (handMark part s).counters.get m = s.counters.get m := by
  unfold handMark
  split
  · rw [hpart, keyMark_get_of_ne h]
  · rw [keyMark_get_of_ne h, hpart]

/-- A beat counts, of the receiver's two counters, only the frame it cuts. -/
theorem handBeat_get {m : CounterName} (hd : m ≠ .txqDiscard) (he : m ≠ .txExpired) (s : State) :
    (handBeat s).counters.get m = (endReception s).counters.get m := by
  rw [handBeat, handMark_get_of_ne hd fun _ => by simp]
  simp [ageQueue, bumpTimes_get_of_ne he, restartSlots]

theorem handMark_line {part : State → State} (hpart : ∀ s, (part s).line = s.line) (s : State) :
    (handMark part s).line = s.line := by
  unfold handMark
  split <;> simp [hpart]

theorem handBeat_phase (s : State) : (handBeat s).line.phase = (endReception s).line.phase := by
  rw [handBeat, handMark_line fun _ => by simp]
  simp [restartSlots, restartSlotTimer]

/-- A frame that a slot's end or a beat cuts (R65, R66, R200). -/
theorem endReception_of_some {r : Reception} {n : CounterName} (hr : s.loop.rx = some r)
    (hn : (if r.slot.isSome then CounterName.rxErr else .misplaced) = n) (hle : s.counters.get n ≤ 255) :
    (endReception s).counters.get n = min 255 (s.counters.get n + 1)
      ∧ (∀ m, m ≠ n → (endReception s).counters.get m = s.counters.get m)
      ∧ (endReception s).line.phase = (if s.pins.dataLow then .waitHigh else .idle) := by
  have heq : endReception s
      = bump n ((s.setLoop { s.loop with rx := none }).setLine (s.line.rest s.pins.dataLow)) := by
    simp only [endReception, hr, hn]
  rw [heq]
  refine ⟨bump_get_self n (by exact hle), fun m hm => (bump_get_of_ne hm _).trans rfl, ?_⟩
  simp only [bump_frame]
  rfl

theorem endReception_of_none (h : s.loop.rx = none) : endReception s = s := by
  simp only [endReception, h]

/-- A beat cuts the frame being received and counts it, wherever the beat unit took it from. -/
theorem handBeat_cutIsCounted {u : State} (hrx : u.loop.rx = s.loop.rx) (hcounters : u.counters = s.counters)
    (hphase : u.line.phase = s.line.phase) (hdata : u.pins.dataLow = s.pins.dataLow) : s.cutIsCounted (handBeat u) := by
  have herr : (handBeat u).counters.rxErr = (endReception u).counters.rxErr :=
    handBeat_get (m := .rxErr) (by decide) (by decide) u
  have hmisplaced : (handBeat u).counters.misplaced = (endReception u).counters.misplaced :=
    handBeat_get (m := .misplaced) (by decide) (by decide) u
  rw [State.cutIsCounted, herr, hmisplaced, handBeat_phase, ← hrx, ← hcounters, ← hphase, ← hdata]
  refine ⟨fun hnone => by simp [endReception_of_none hnone], fun r hr hok => ?_⟩
  obtain ⟨herrOk, hmisplacedOk, -⟩ := hok
  cases hslot : r.slot with
  | none =>
    obtain ⟨hself, hne, hcut⟩ := endReception_of_some (n := .misplaced) hr (by simp [hslot]) hmisplacedOk
    exact ⟨(hne .rxErr (by decide)).trans (if_pos rfl).symm, hself.trans (if_pos rfl).symm, hcut⟩
  | some slot =>
    obtain ⟨hself, hne, hcut⟩ := endReception_of_some (n := .rxErr) hr (by simp [hslot]) herrOk
    exact ⟨hself.trans (if_neg (Option.some_ne_none _)).symm,
      (hne .misplaced (by decide)).trans (if_neg (Option.some_ne_none _)).symm, hcut⟩

/-- The slots begin anew at every beat (R56, R65). -/
theorem handBeat_loop (s : State) :
    (handBeat s).loop = ⟨0, .mark, none, false, false, .ahead, none, none, none⟩ := by
  have hmark : ∀ t, (handMark playerBeat t).loop = t.loop := by
    intro t
    unfold handMark
    split <;> simp
  rw [handBeat, hmark]
  simp [restartSlots_loop]

theorem requestSupply_asks (c : Converter) :
    c.requestSupply.activity = .supply ∨ c.requestSupply.pendingSupply = true := by
  unfold Converter.requestSupply
  (repeat' split) <;> simp [Converter.begin]

/-- Every beat asks for a supply sample (R171). -/
theorem handBeat_converter (s : State) :
    (handBeat s).converter.activity = .supply ∨ (handBeat s).converter.pendingSupply = true := by
  have hmark : ∀ t, (handMark playerBeat t).converter = t.converter := by
    intro t
    unfold handMark
    split <;> simp
  rw [handBeat, hmark]
  simpa [requestSupply] using requestSupply_asks s.converter

end Sys2Proof.Machine
end

section
/-! PROOFS. Falls and expiries of the beat: what is ignored, what is a stray, and the beats of each kind (section 1.3). O12 to
O16. -/

namespace Sys2Proof.Machine

variable {s : State} {dt : Nat}

/-! ### A fall by lock state and time since the last beat -/

theorem takeFall_of_halted (h : s.beat.lock = .halted) : takeFall s = s := by
  simp only [takeFall, h]

theorem takeFall_of_guarded (hguard : s.beat.timer < guardTime)
    (hkind : s.beat.lock = .free → s.beat.lastKind = .followed ∨ s.beat.lastKind = .own) : takeFall s = s := by
  have hg : decide (s.beat.timer < guardTime) = true := decide_eq_true hguard
  cases hl : s.beat.lock with
  | free =>
    obtain hk | hk := hkind hl <;> simp [takeFall, hl, hg, hk]
  | halted => exact takeFall_of_halted hl
  | settling => simp [takeFall, hl, hguard]
  | locked => simp [takeFall, hl, hguard]

theorem takeFall_same (hl : s.beat.lock = .free) (hguard : s.beat.timer < guardTime)
    (hkind : s.beat.lastKind = .start ∨ s.beat.lastKind = .internal) : takeFall s = sameBeat s := by
  simp [takeFall, hl, hguard, hkind]

theorem takeFall_stray (hl : s.beat.lock = .locked) (hguard : ¬ s.beat.timer < guardTime)
    (hearly : s.beat.timer < captureTime) : takeFall s = stray s := by
  simp [takeFall, hl, hguard, hearly]

theorem takeFall_locked (hl : s.beat.lock = .locked) (hguard : ¬ s.beat.timer < guardTime)
    (hearly : ¬ s.beat.timer < captureTime) : takeFall s = lockedBeat .followed s := by
  simp [takeFall, hl, hguard, hearly]

/-- The settle count that a FOLLOWED beat leaves outside LOCKED (R9, R11, R12). -/
def State.settledBy (s : State) : Nat :=
  if s.beat.lock = .settling ∧ captureTime ≤ s.beat.timer then s.beat.settle + 1 else 1

theorem takeFall_settling (hh : s.beat.lock ≠ .halted) (hl : s.beat.lock ≠ .locked)
    (hguard : ¬ s.beat.timer < guardTime) : takeFall s = settlingBeat .followed s.settledBy s := by
  cases h : s.beat.lock with
  | halted => exact absurd h hh
  | locked => exact absurd h hl
  | free => simp [takeFall, State.settledBy, h, hguard]
  | settling =>
    by_cases hearly : s.beat.timer < captureTime
    · simp [takeFall, State.settledBy, h, hguard, hearly, Nat.not_le.2 hearly]
    · simp [takeFall, State.settledBy, h, hguard, hearly, Nat.not_lt.1 hearly]

/-- The station once a stray is counted (R14, R22). -/
def State.strayCounted (s : State) : State :=
  State.counted .stray (s.setBeat { s.beat with strayTally := s.beat.strayTally + 1 })

theorem stray_of_few (hc : s.counters.stray ≤ 255) (h : s.beat.strayTally < 2) : stray s = s.strayCounted := by
  unfold stray
  dsimp only
  rw [if_neg (by omega)]
  exact bump_eq .stray (s.setBeat { s.beat with strayTally := s.beat.strayTally + 1 }) hc

theorem stray_third (hc : s.counters.stray ≤ 255) (h : 2 ≤ s.beat.strayTally) : stray s = enterFree s.strayCounted := by
  unfold stray
  dsimp only
  rw [if_pos (by omega)]
  exact congrArg enterFree (bump_eq .stray (s.setBeat { s.beat with strayTally := s.beat.strayTally + 1 }) hc)

theorem thirdStrayNow_elapse (hl : s.beat.lock = .locked) (hseen : s.beatFallSeen dt) (hguard : 20000 ≤ s.beat.timer + dt)
    (hearly : s.beat.timer + dt < 230000) (hmany : 2 ≤ s.beat.strayTally) : (s.elapse dt).thirdStrayNow = true := by
  have hh : s.beat.lock ≠ .halted := by simp [hl]
  have hg : ¬ (s.elapse dt).beat.timer < guardTime := mt (elapse_guarded hh dt).1 (by omega)
  have he : (s.elapse dt).beat.timer < captureTime := (elapse_early hh dt).2 hearly
  simp [State.thirdStrayNow, State.fallSeen, (seesBeatFall_elapse s dt).2 hseen, hl, Nat.not_lt.1 hg, he, hmany]

/-! ### The beats as they are handed on -/

/-- The state that a beat of a SETTLING or FREE unit hands on. -/
def State.settlingHead (kind : BeatKind) (n : Nat) (s : State) : State :=
  holdMark (settleTo n (startBeat kind s))

/-- The state that a beat of a LOCKED unit hands on. -/
def State.lockedHead (kind : BeatKind) (s : State) : State :=
  holdMark (startBeat kind s)

theorem settlingBeat_eq (kind : BeatKind) (n : Nat) (s : State) : settlingBeat kind n s = handBeat (s.settlingHead kind n) := rfl

theorem lockedBeat_eq (kind : BeatKind) (s : State) : lockedBeat kind s = handBeat (s.lockedHead kind) := rfl

theorem lockedHead_beat (kind : BeatKind) (s : State) :
    (s.lockedHead kind).beat = { s.beat.begun kind with
      mark := some (markAt (s.beat.beatIndex + 1#4) s.beat.phaseConfirmed)
      lowTimer := if s.pins.beatLow then s.beat.lowTimer else 0 } := by
  rw [State.lockedHead, holdMark_beat, startBeat_beat]
  simp [BeatUnit.begun]

theorem settlingHead_beat (kind : BeatKind) (n : Nat) (s : State) :
    (s.settlingHead kind n).beat = { s.beat.begun kind with
      lock := if 4 ≤ n then .locked else .settling
      settle := if 4 ≤ n then 0 else n
      freeBeats := 0
      strayTally := if 4 ≤ n then 0 else (s.beat.begun kind).strayTally
      mark := some (markAt (s.beat.beatIndex + 1#4) s.beat.phaseConfirmed)
      lowTimer := if s.pins.beatLow then s.beat.lowTimer else 0 } := by
  rw [State.settlingHead, holdMark_beat]
  by_cases h : 4 ≤ n
  · simp [settleTo_locks h, enterLocked_beat, startBeat_beat, h, BeatUnit.begun]
  · simp [settleTo_goes_on h, startBeat_beat, h, BeatUnit.begun]

theorem indexZeroReport_ownAddr (s : State) : (indexZeroReport s).startup.ownAddr = s.startup.ownAddr := by
  unfold indexZeroReport setStation
  dsimp only
  (repeat' split) <;> simp

@[simp] theorem startBeat_ownAddr (kind : BeatKind) (s : State) :
    (startBeat kind s).startup.ownAddr = s.startup.ownAddr := by
  unfold startBeat becomeZero
  dsimp only
  (repeat' split) <;> simp [indexZeroReport_ownAddr]

@[simp] theorem settleTo_ownAddr (n : Nat) (s : State) : (settleTo n s).startup.ownAddr = s.startup.ownAddr := by
  unfold settleTo
  split <;> simp [enterLocked_startup]

/-- The blocks that a beat leaves to its event: all but the beat unit, the pins, the membership and the latch. -/
structure BeatKeeps (s u : State) : Prop where
  line : u.line = s.line
  loop : u.loop = s.loop
  queue : u.queue = s.queue
  table : u.table = s.table
  roster : u.roster = s.roster
  faults : u.faults = s.faults
  counters : u.counters = s.counters
  library : u.library = s.library
  player : u.player = s.player
  drive : u.drive = s.drive
  converter : u.converter = s.converter
  scanner : u.scanner = s.scanner
  bindings : u.bindings = s.bindings
  inputs : u.inputs = s.inputs
  keys : u.keys = s.keys
  supply : u.supply = s.supply
  own : u.startup.ownAddr = s.startup.ownAddr

theorem settlingHead_keeps (kind : BeatKind) (n : Nat) (s : State) : BeatKeeps s (s.settlingHead kind n) := by
  constructor <;> simp [State.settlingHead]

theorem lockedHead_keeps (kind : BeatKind) (s : State) : BeatKeeps s (s.lockedHead kind) := by
  constructor <;> simp [State.lockedHead]

theorem settlingHead_pins (kind : BeatKind) (n : Nat) (s : State) : (s.settlingHead kind n).pins = s.pins := by
  simp [State.settlingHead]

theorem lockedHead_pins (kind : BeatKind) (s : State) : (s.lockedHead kind).pins = s.pins := by
  simp [State.lockedHead]

@[simp] theorem fallen_beat (s : State) : s.fallen.beat = { s.beat with lowTimer := 0 } := rfl

@[simp] theorem fallen_pins (s : State) : s.fallen.pins = { s.pins with beatLow := true, beatHeld := 0 } := rfl

theorem fallen_keeps (s : State) : BeatKeeps s s.fallen := by
  constructor <;> rfl

theorem BeatKeeps.trans {s t u : State} (h : BeatKeeps s t) (h' : BeatKeeps t u) : BeatKeeps s u where
  line := h'.line.trans h.line
  loop := h'.loop.trans h.loop
  queue := h'.queue.trans h.queue
  table := h'.table.trans h.table
  roster := h'.roster.trans h.roster
  faults := h'.faults.trans h.faults
  counters := h'.counters.trans h.counters
  library := h'.library.trans h.library
  player := h'.player.trans h.player
  drive := h'.drive.trans h.drive
  converter := h'.converter.trans h.converter
  scanner := h'.scanner.trans h.scanner
  bindings := h'.bindings.trans h.bindings
  inputs := h'.inputs.trans h.inputs
  keys := h'.keys.trans h.keys
  supply := h'.supply.trans h.supply
  own := h'.own.trans h.own

/-- A beat after a wait cuts and counts the frame that was being received before it. -/
theorem handBeat_cuts_after {u : State} (hkeeps : BeatKeeps (s.elapse dt) u) (hdata : u.pins.dataLow = s.pins.dataLow) :
    s.cutIsCounted (handBeat u) :=
  handBeat_cutIsCounted (by simp [hkeeps.loop]) (by simp [hkeeps.counters]) (by simp [hkeeps.line]) hdata

/-! ### An INTERNAL beat -/

/-- The count of INTERNAL beats without a low line that this one makes (R10). -/
def State.freeCount (s : State) : Nat :=
  if s.pins.beatLow then 0 else s.beat.freeBeats + 1

/-- The state that an INTERNAL beat of a unit that stays FREE hands on. -/
def State.internalHead (s : State) : State :=
  modifyBeat (fun b => { b with freeBeats := s.freeCount }) (startBeat .internal s)

/-- The state that the sixteenth INTERNAL beat hands on (R10). -/
def State.aloneHead (s : State) : State :=
  holdMark (enterLocked (modifyBeat (fun b => { b with phaseConfirmed := true }) (startBeat .internal s)))

theorem internalBeat_of_few (h : s.freeCount < 16) : internalBeat s = handBeat s.internalHead := by
  unfold internalBeat
  dsimp only
  exact if_neg (Nat.not_le.2 h)

theorem internalBeat_of_sixteen (h : 16 ≤ s.freeCount) : internalBeat s = handBeat s.aloneHead := by
  unfold internalBeat
  dsimp only
  exact if_pos h

theorem internalHead_beat (s : State) :
    s.internalHead.beat = { s.beat.begun .internal with freeBeats := s.freeCount } := by
  simp [State.internalHead, startBeat_beat]

theorem aloneHead_beat (s : State) :
    s.aloneHead.beat = { s.beat.begun .internal with
      phaseConfirmed := true, lock := .locked, strayTally := 0, settle := 0, freeBeats := 0
      mark := some (markAt (s.beat.beatIndex + 1#4) true)
      lowTimer := if s.pins.beatLow then s.beat.lowTimer else 0 } := by
  rw [State.aloneHead, holdMark_beat, enterLocked_beat]
  simp [startBeat_beat, BeatUnit.begun]

theorem internalHead_keeps (s : State) : BeatKeeps s s.internalHead := by
  constructor <;> simp [State.internalHead]

theorem aloneHead_keeps (s : State) : BeatKeeps s s.aloneHead := by
  constructor <;> simp [State.aloneHead, enterLocked_startup]

theorem internalHead_pins (s : State) : s.internalHead.pins = s.pins := by simp [State.internalHead]

/-- At the entry to LOCKED the count of indices of 0 begins (R17, R191). -/
theorem settlingHead_startup {n : Nat} (h : 4 ≤ n) (hl : s.beat.lock ≠ .locked) (kind : BeatKind) :
    (s.settlingHead kind n).startup = { s.startup with membership := 0 } := by
  have hreports := (startBeat_reports kind hl).1
  simp [State.settlingHead, settleTo_locks h, enterLocked_startup, hreports]

theorem aloneHead_startup (hl : s.beat.lock ≠ .locked) : s.aloneHead.startup = { s.startup with membership := 0 } := by
  have hreports := (startBeat_reports .internal hl).1
  simp [State.aloneHead, enterLocked_startup, hreports]

/-! ### The own mark seen through the filter -/

theorem markAt_unseen (index : BitVec 4) (confirmed : Bool) : (markAt index confirmed).unseen = 2 := by
  unfold markAt
  split <;> rfl

/-- The station sees its own mark 2 µs after it began, and not sooner (R197). -/
theorem mark_seen {u : State} {i : BitVec 4} {c : Bool} (h : u.beat.mark = some (markAt i c)) :
    (u.elapse 2).pins.beatLow = true ∧ (u.elapse 1).pins.beatLow = u.pins.beatLow := by
  simp [elapse_beatLow, h, markAt_unseen]

end Sys2Proof.Machine

open Sys2Proof Sys2Proof.Machine

/-- Settles O12. -/
theorem fallsOfTheGuardTime : Obligations.FallsOfTheGuardTime := by
  unfold Obligations.FallsOfTheGuardTime
  intro after s
  refine ⟨fun hunseen => congrArg Host.Outcome.next (beatFall_of_unseen hunseen), fun hseen hignored => ?_,
    fun hseen hfree hguard hkind => ?_⟩
  · refine congrArg Host.Outcome.next ((beatFall_of_seen hseen).trans ?_)
    by_cases hh : s.beat.lock = .halted
    · exact takeFall_of_halted hh
    · obtain ⟨hguard, hkind⟩ := hignored.resolve_left hh
      exact takeFall_of_guarded ((elapse_guarded hh after).2 hguard) hkind
  · have hh : s.beat.lock ≠ .halted := by simp [hfree]
    refine congrArg Host.Outcome.next ((beatFall_of_seen hseen).trans ?_)
    exact takeFall_same hfree ((elapse_guarded hh after).2 hguard) hkind

/-- Settles O13. -/
theorem strayIsCountedAndNotFollowed : Obligations.StrayIsCountedAndNotFollowed := by
  unfold Obligations.StrayIsCountedAndNotFollowed
  intro after s hl hseen hcount hguard hearly
  have hh : s.beat.lock ≠ .halted := by simp [hl]
  have hfall : beatFall (s.elapse after) = stray (s.elapse after).fallen :=
    (beatFall_of_seen hseen).trans (takeFall_stray hl (mt (elapse_guarded hh after).1 (by omega))
      ((elapse_early hh after).2 hearly))
  refine ⟨fun hfew => congrArg Host.Outcome.next (hfall.trans (stray_of_few hcount hfew)), fun hmany => ?_⟩
  refine ⟨beatFall (s.elapse after), rfl, ?_, ?_⟩
  · exact congrArg Host.Outcome.next (if_pos (thirdStrayNow_elapse hl hseen hguard hearly hmany))
  · rw [hfall, stray_third (s := (s.elapse after).fallen) hcount hmany]
    have hbeat := enterFree_beat (s.elapse after).fallen.strayCounted
    have hstartup := enterFree_startup (s.elapse after).fallen.strayCounted
    refine ⟨hbeat, hstartup, by simp [State.strayCounted, State.counted, State.fallen, Counters.get],
      fun hm r hr hsending => ?_,
      by simp [State.strayCounted, State.counted, State.fallen]⟩
    have htx : (s.elapse after).fallen.strayCounted.loop.tx = some { r with bitTimer := r.bitTimer + after } := by
      simp [State.strayCounted, State.counted, State.fallen, elapse_tx, hr]
    obtain ⟨hloop, hqueue⟩ := enterFree_of_sending (s := (s.elapse after).fallen.strayCounted) hm htx hsending
    rw [hloop, hqueue]
    exact ⟨rfl, rfl⟩

/-- Settles O14: in SETTLING and FREE the settle count decides, in LOCKED the unit goes on. -/
theorem followedBeat : Obligations.FollowedBeat := by
  unfold Obligations.FollowedBeat
  intro after s hseen hh hguard hlate n locks
  have htimer := mt (elapse_guarded hh after).1 (by omega)
  by_cases hl : s.beat.lock = .locked
  · have hearly := mt (elapse_early hh after).1 (by have := hlate hl; omega)
    have hfall : beatFall (s.elapse after) = handBeat ((s.elapse after).fallen.lockedHead .followed) :=
      (beatFall_of_seen hseen).trans (takeFall_locked hl htimer hearly)
    have hkeeps := (fallen_keeps (s.elapse after)).trans (lockedHead_keeps .followed _)
    have hpins := lockedHead_pins .followed (s.elapse after).fallen
    have hcut := handBeat_cuts_after hkeeps (by rw [hpins]; rfl)
    refine ⟨handBeat ((s.elapse after).fallen.lockedHead .followed), congrArg Host.Outcome.next hfall, ?_⟩
    have hlocks : locks := .inl hl
    simp only [handBeat_frame, lockedHead_beat, hpins, handBeat_loop]
    simp [hlocks, hl, BeatUnit.begun, handBeat_converter, hcut]
  · have hfall : beatFall (s.elapse after)
        = handBeat ((s.elapse after).fallen.settlingHead .followed (s.elapse after).settledBy) :=
      (beatFall_of_seen hseen).trans (takeFall_settling hh hl htimer)
    have hn : (s.elapse after).settledBy = n := by
      have hcapture := elapse_early hh after
      simp only [State.settledBy, n, elapse_beat]
      congr 2
      exact propext (by omega)
    rw [hn] at hfall
    have hkeeps := (fallen_keeps (s.elapse after)).trans (settlingHead_keeps .followed n _)
    have hpins := settlingHead_pins .followed n (s.elapse after).fallen
    have hcut := handBeat_cuts_after hkeeps (by rw [hpins]; rfl)
    refine ⟨handBeat ((s.elapse after).fallen.settlingHead .followed n), congrArg Host.Outcome.next hfall, ?_⟩
    have hlocks : locks ↔ 4 ≤ n := or_iff_right hl
    simp only [handBeat_frame, settlingHead_beat, hpins, handBeat_loop]
    simp [hlocks, hl, BeatUnit.begun, handBeat_converter, hcut]
    by_cases hfour : 4 ≤ n <;> simp [hfour]

/-- Settles O15: the beat's head has the mark, the event behind it clears the slots and cuts the frame. -/
theorem ownAndInternalBeats : Obligations.OwnAndInternalBeats := by
  unfold Obligations.OwnAndInternalBeats
  intro after s hdue
  refine ⟨fun hlock => ?_, fun hfree hfew => ?_⟩
  · have hh : s.beat.lock ≠ .halted := by rcases hlock with ⟨h, -⟩ | h <;> simp [h]
    have hexpired := (beatExpired_elapse s after).2 ⟨hh, hdue⟩
    rcases hlock with ⟨hl, hfew⟩ | hl
    · have hbeat : beatTimerExpiry (s.elapse after)
          = handBeat ((s.elapse after).settlingHead .own (s.beat.settle + 1)) := by
        simp [beatTimerExpiry, hexpired, hl, settlingBeat_eq]
      have hkeeps := settlingHead_keeps .own (s.beat.settle + 1) (s.elapse after)
      have hpins := settlingHead_pins .own (s.beat.settle + 1) (s.elapse after)
      have hhead := settlingHead_beat .own (s.beat.settle + 1) (s.elapse after)
      have hcut := handBeat_cuts_after hkeeps (by rw [hpins]; rfl)
      have hseen := mark_seen (u := handBeat ((s.elapse after).settlingHead .own (s.beat.settle + 1)))
        (by simp only [handBeat_frame, hhead]; rfl)
      refine ⟨_, congrArg Host.Outcome.next hbeat, ?_⟩
      simp only [hseen, hcut, handBeat_frame, hhead, hpins, handBeat_loop]
      simp [BeatUnit.begun, hl, show ¬ 3 ≤ s.beat.settle by omega]
    · have hbeat : beatTimerExpiry (s.elapse after) = handBeat ((s.elapse after).lockedHead .own) := by
        simp [beatTimerExpiry, hexpired, hl, lockedBeat_eq]
      have hkeeps := lockedHead_keeps .own (s.elapse after)
      have hpins := lockedHead_pins .own (s.elapse after)
      have hhead := lockedHead_beat .own (s.elapse after)
      have hcut := handBeat_cuts_after hkeeps (by rw [hpins]; rfl)
      have hseen := mark_seen (u := handBeat ((s.elapse after).lockedHead .own))
        (by simp only [handBeat_frame, hhead]; rfl)
      refine ⟨_, congrArg Host.Outcome.next hbeat, ?_⟩
      simp only [hseen, hcut, handBeat_frame, hhead, hpins, handBeat_loop]
      simp [BeatUnit.begun, hl]
  · have hh : s.beat.lock ≠ .halted := by simp [hfree]
    have hexpired := (beatExpired_elapse s after).2 ⟨hh, hdue⟩
    have hcount : (s.elapse after).freeCount = if (s.elapse after).pins.beatLow then 0 else s.beat.freeBeats + 1 := rfl
    have hbeat : beatTimerExpiry (s.elapse after) = handBeat (s.elapse after).internalHead := by
      have hinternal : internalBeat (s.elapse after) = handBeat (s.elapse after).internalHead := by
        refine internalBeat_of_few ?_
        rw [hcount]
        rcases hfew with h | h
        · simp [h]
        · split <;> omega
      simp [beatTimerExpiry, hexpired, hfree, hinternal]
    have hkeeps := internalHead_keeps (s.elapse after)
    have hpins := internalHead_pins (s.elapse after)
    have hhead := internalHead_beat (s.elapse after)
    have hcut := handBeat_cuts_after hkeeps (by rw [hpins]; rfl)
    have hstartup : (s.elapse after).internalHead.startup = (s.elapse after).startup := by
      simp [State.internalHead, (startBeat_reports .internal (s := s.elapse after) (by simp [hfree])).1]
    refine ⟨_, congrArg Host.Outcome.next hbeat, ?_⟩
    simp only [hcut, handBeat_frame, hhead, hpins, hstartup, handBeat_loop, hcount]
    simp [BeatUnit.begun, hfree]

/-- Settles O16: the fourth settle at a fall or at an OWN beat, and the sixteenth INTERNAL beat. -/
theorem enterLocked : Obligations.EnterLocked := by
  unfold Obligations.EnterLocked
  intro after cause s hcases
  rcases hcases with ⟨rfl, hl, hseen, hlate, hsettle⟩ | ⟨rfl, hl, hdue, hsettle⟩ | ⟨rfl, hl, hlow, hdue, hmany⟩
  · have hh : s.beat.lock ≠ .halted := by simp [hl]
    have hcapture : captureTime ≤ (s.elapse after).beat.timer := Nat.not_lt.1 (mt (elapse_early hh after).1 (by omega))
    have hlocks : (s.elapse after).locksNow .fall = true := by
      simp [State.locksNow, State.fallSeen, (seesBeatFall_elapse s after).2 hseen, hl, hcapture, hsettle]
    have hfall : beatFall (s.elapse after)
        = handBeat ((s.elapse after).fallen.settlingHead .followed (s.elapse after).settledBy) :=
      (beatFall_of_seen hseen).trans
        (takeFall_settling hh (by simp [hl]) (mt (elapse_guarded hh after).1 (by omega)))
    refine ⟨_, (congrArg Host.Outcome.next (if_pos hlocks)).trans (congrArg Host.Outcome.next hfall),
      congrArg Host.Outcome.next hfall, ?_⟩
    have hn : (s.elapse after).settledBy = s.beat.settle + 1 := by simp [State.settledBy, hl, hcapture]
    rw [hn]
    have hhead := settlingHead_beat .followed (s.beat.settle + 1) (s.elapse after).fallen
    have hstartup := settlingHead_startup (s := (s.elapse after).fallen) (n := s.beat.settle + 1) (by omega)
      (by simp [hl]) .followed
    have hmark := (mark_seen (u := handBeat ((s.elapse after).fallen.settlingHead .followed (s.beat.settle + 1)))
      (by simp only [handBeat_frame, hhead]; rfl)).1
    simp only [hmark, handBeat_frame, hhead, hstartup]
    simp [BeatUnit.begun, hl, hsettle, State.fallen]
  · have hh : s.beat.lock ≠ .halted := by simp [hl]
    have hexpired := (beatExpired_elapse s after).2 ⟨hh, hdue⟩
    have hlocks : (s.elapse after).locksNow .expiry = true := by simp [State.locksNow, hl, hexpired, hsettle]
    have hbeat : beatTimerExpiry (s.elapse after)
        = handBeat ((s.elapse after).settlingHead .own (s.beat.settle + 1)) := by
      simp [beatTimerExpiry, hexpired, hl, settlingBeat_eq]
    refine ⟨_, (congrArg Host.Outcome.next (if_pos hlocks)).trans (congrArg Host.Outcome.next hbeat),
      congrArg Host.Outcome.next hbeat, ?_⟩
    have hhead := settlingHead_beat .own (s.beat.settle + 1) (s.elapse after)
    have hstartup := settlingHead_startup (s := s.elapse after) (n := s.beat.settle + 1) (by omega) (by simp [hl]) .own
    have hmark := (mark_seen (u := handBeat ((s.elapse after).settlingHead .own (s.beat.settle + 1)))
      (by simp only [handBeat_frame, hhead]; rfl)).1
    simp only [hmark, handBeat_frame, hhead, hstartup]
    simp [BeatUnit.begun, hl, hsettle]
  · have hh : s.beat.lock ≠ .halted := by simp [hl]
    have hexpired := (beatExpired_elapse s after).2 ⟨hh, hdue⟩
    have hlocks : (s.elapse after).locksNow .expiry = true := by simp [State.locksNow, hl, hexpired, hlow, hmany]
    have hcount : 16 ≤ (s.elapse after).freeCount := by simp [State.freeCount, hlow, hmany]
    have hbeat : beatTimerExpiry (s.elapse after) = handBeat (s.elapse after).aloneHead := by
      simp [beatTimerExpiry, hexpired, hl, internalBeat_of_sixteen hcount]
    refine ⟨_, (congrArg Host.Outcome.next (if_pos hlocks)).trans (congrArg Host.Outcome.next hbeat),
      congrArg Host.Outcome.next hbeat, ?_⟩
    have hhead := aloneHead_beat (s.elapse after)
    have hstartup := aloneHead_startup (s := s.elapse after) (by simp [hl])
    have hmark := (mark_seen (u := handBeat (s.elapse after).aloneHead) (by simp only [handBeat_frame, hhead]; rfl)).1
    simp only [hmark, handBeat_frame, hhead, hstartup]
    simp [BeatUnit.begun, hl]

end

section
/-! PROOFS. Eighth marks and beats at the player and the key unit, and what each of the player's marks does (chapters 1 and
6). -/

namespace Sys2Proof.Machine

variable {s : State} {dt : Nat}

/-! ### Marks and beats, however they come -/

theorem beatComes_elapse (cause : BeatCause) (s : State) (dt : Nat) :
    (s.elapse dt).beatComes cause = true ↔ s.beatDue cause dt := by
  cases cause with
  | expiry => exact beatExpired_elapse s dt
  | fall =>
    by_cases hh : s.beat.lock = .halted
    · simp [State.beatComes, State.fallSeen, State.beatDue, hh]
    · have hguard : guardTime ≤ (s.elapse dt).beat.timer ↔ 20000 ≤ s.beat.timer + dt := by
        have := elapse_guarded hh dt
        omega
      have hearly : captureTime ≤ (s.elapse dt).beat.timer ↔ 230000 ≤ s.beat.timer + dt := by
        have := elapse_early hh dt
        omega
      have hlock : (s.elapse dt).beat.lock = s.beat.lock := rfl
      simp only [State.beatComes, State.fallSeen, State.beatDue, Bool.and_eq_true, Bool.or_eq_true, decide_eq_true_eq,
        bne_iff_ne, seesBeatFall_elapse, hguard, hearly, hlock]
      constructor
      · rintro ⟨⟨⟨hseen, -⟩, hg⟩, hc⟩
        exact ⟨hh, hseen, hg, fun hl => hc.resolve_left (not_not.2 hl)⟩
      · rintro ⟨-, hseen, hg, hc⟩
        exact ⟨⟨⟨hseen, hh⟩, hg⟩, (em (s.beat.lock = .locked)).symm.imp_right hc⟩

theorem eighthDue_elapse (s : State) (dt : Nat) : (s.elapse dt).eighthDue = true ↔ s.eighthIsDue .mark dt := by
  by_cases hh : s.beat.lock = .halted
  · simp [State.eighthDue, State.eighthIsDue, hh]
  · simp only [State.eighthDue, State.eighthIsDue, elapse_beat, elapse_beat_timer hh, eighthTime, Bool.and_eq_true,
      bne_iff_ne, ne_eq, decide_eq_true_eq, and_assoc]
    refine and_congr_right fun _ => and_congr_right fun hlt => ?_
    omega

theorem eighthComes_elapse (cause : EighthCause) (s : State) (dt : Nat) :
    (s.elapse dt).eighthComes cause = true ↔ s.eighthIsDue cause dt := by
  cases cause with
  | mark => exact eighthDue_elapse s dt
  | beat c => exact beatComes_elapse c s dt

/-- A beat hands on a state that only its own part has changed. -/
theorem beat_handsOn {cause : BeatCause} (h : s.beatDue cause dt) :
    ∃ u, beatBy cause (s.elapse dt) = handBeat u ∧ BeatKeeps (s.elapse dt) u ∧ u.beat.eighth = 0 := by
  obtain ⟨hh, hcause⟩ := h
  cases cause with
  | expiry =>
    have hexpired := (beatExpired_elapse s dt).2 ⟨hh, hcause⟩
    cases hl : s.beat.lock with
    | halted => exact absurd hl hh
    | free =>
      by_cases hmany : 16 ≤ (s.elapse dt).freeCount
      · refine ⟨_, ?_, aloneHead_keeps _, by rw [aloneHead_beat]; rfl⟩
        simp [beatBy, beatTimerExpiry, hexpired, hl, internalBeat_of_sixteen hmany]
      · refine ⟨_, ?_, internalHead_keeps _, by rw [internalHead_beat]; rfl⟩
        simp [beatBy, beatTimerExpiry, hexpired, hl, internalBeat_of_few (Nat.lt_of_not_le hmany)]
    | settling =>
      refine ⟨_, ?_, settlingHead_keeps .own (s.beat.settle + 1) _, by rw [settlingHead_beat]; rfl⟩
      simp [beatBy, beatTimerExpiry, hexpired, hl, settlingBeat_eq]
    | locked =>
      refine ⟨_, ?_, lockedHead_keeps .own _, by rw [lockedHead_beat]; rfl⟩
      simp [beatBy, beatTimerExpiry, hexpired, hl, lockedBeat_eq]
  | fall =>
    obtain ⟨hseen, hguard, hlate⟩ := hcause
    have htimer := mt (elapse_guarded hh dt).1 (by omega)
    by_cases hl : s.beat.lock = .locked
    · have hearly := mt (elapse_early hh dt).1 (by have := hlate hl; omega)
      exact ⟨(s.elapse dt).fallen.lockedHead .followed, (beatFall_of_seen hseen).trans (takeFall_locked hl htimer hearly),
        (fallen_keeps _).trans (lockedHead_keeps .followed _), by rw [lockedHead_beat]; rfl⟩
    · exact ⟨(s.elapse dt).fallen.settlingHead .followed (s.elapse dt).fallen.settledBy,
        (beatFall_of_seen hseen).trans (takeFall_settling hh hl htimer),
        (fallen_keeps _).trans (settlingHead_keeps .followed _ _), by rw [settlingHead_beat]; rfl⟩

/-! ### A mark at which no chord ends -/

/-- The key unit after an eighth mark at which no chord ends (R167). -/
def KeyUnit.counted (k : KeyUnit) : KeyUnit :=
  if k.state = .chord then { k with hold := k.hold + 1 } else k

theorem keyMark_goes_on (h : s.chordDue = false) : keyMark s = s.setKeys s.keys.counted := by
  unfold keyMark KeyUnit.counted
  by_cases hc : s.keys.state = .chord
  · have hfew : ¬ chordMarks ≤ s.keys.hold + 1 := by simpa [State.chordDue, hc] using h
    simp [hc, hfew]
  · simp [hc]
    rfl

theorem handMark_goes_on {part : State → State} (h : s.chordDue = false) (hkeys : (part s).keys = s.keys) :
    handMark part s = (part s).setKeys s.keys.counted := by
  have hdue : (part s).chordDue = false := by simpa [State.chordDue, hkeys] using h
  rw [handMark, h, Bool.false_and, if_neg (by simp), keyMark_goes_on hdue, hkeys]

theorem chordDue_of_chordGoesOn (h : s.chordGoesOn) : s.chordDue = false := by
  simp only [State.chordDue, Bool.and_eq_false_imp, beq_iff_eq, chordMarks]
  intro hc
  have := h hc
  exact decide_eq_false (by omega)

/-- A beat at which no chord ends: what its event leaves as it was. -/
theorem handBeat_goes_on {u : State} (h : u.chordDue = false) :
    (handBeat u).playing = u.playing.beat u.library u.clock ∧ (handBeat u).keys = u.keys.counted
      ∧ (handBeat u).table = u.table ∧ (handBeat u).roster = u.roster ∧ (handBeat u).faults = u.faults
      ∧ (handBeat u).inputs = u.inputs ∧ (handBeat u).queue = (ageQueue (restartSlots u)).queue := by
  have hv : (requestSupply (ageQueue (restartSlots u))).chordDue = false := by
    simpa [State.chordDue] using h
  rw [handBeat, handMark_goes_on hv (by simp)]
  simp [playerBeat, State.setPlaying, State.playing, State.clock]

/-- An eighth mark within a beat, at which no chord ends. -/
theorem eighthMark_goes_on (hdue : s.eighthDue = true) (h : s.chordDue = false) :
    eighthMark s = (playerMark (s.setBeat { s.beat with eighth := s.beat.eighth + 1 })).setKeys s.keys.counted := by
  rw [eighthMark, if_pos hdue]
  exact handMark_goes_on (s := s.setBeat { s.beat with eighth := s.beat.eighth + 1 }) h (by simp)

/-! ### The drives at a hand-over -/

theorem handIntensity_dark {d : Drive} (h : d.quiescent = false) :
    (d.handIntensity 0).intensity = 0 ∧ (d.handIntensity 0).beaconLevel = 0
      ∧ (d.handIntensity 0).source = d.source ∧ (d.handIntensity 0).level = d.level
      ∧ (d.handIntensity 0).chirpTimer = d.chirpTimer := by
  have hcapped : d.capped 0 = 0 := by simp [Drive.capped]
  simp [Drive.handIntensity, h, hcapped]

theorem handIntensity_intensity {d : Drive} (h : d.quiescent = false) (n : Nat) : (d.handIntensity n).intensity = n := by
  simp [Drive.handIntensity, h]

/-- A hand-over of intensity leaves the sounder alone. -/
theorem handIntensity_sounder (d : Drive) (n : Nat) :
    (d.handIntensity n).source = d.source ∧ (d.handIntensity n).tone = d.tone ∧ (d.handIntensity n).level = d.level
      ∧ (d.handIntensity n).envelopeLevel = d.envelopeLevel ∧ (d.handIntensity n).sndPhase = d.sndPhase
      ∧ (d.handIntensity n).chirpTimer = d.chirpTimer ∧ (d.handIntensity n).behind = d.behind := by
  unfold Drive.handIntensity
  split <;> simp

/-- A hand-over of tone leaves the beacon alone. -/
theorem handPattern_beacon (d : Drive) (t : ToneStep) :
    (d.handPattern t).intensity = d.intensity ∧ (d.handPattern t).beaconLevel = d.beaconLevel
      ∧ (d.handPattern t).bcnPhase = d.bcnPhase := by
  unfold Drive.handPattern
  (repeat' split) <;> simp [Drive.setTone]

theorem silentMark_beacon (d : Drive) :
    d.silentMark.intensity = d.intensity ∧ d.silentMark.beaconLevel = d.beaconLevel := by
  unfold Drive.silentMark
  (repeat' split) <;> simp [Drive.hush]

/-- A SILENT mark ends every source but a chirp, behind which it discards a rest (R141). -/
theorem silentMark_sounder {d : Drive} (h : d.quiescent = false) :
    (d.source ≠ .chirp → d.silentMark.source = .none)
      ∧ (d.source = .test → d.silentMark.source = .none ∧ d.silentMark.level = 0)
      ∧ (d.source = .chirp → d.silentMark = { d with behind := none }) := by
  cases hs : d.source <;> simp [Drive.silentMark, h, hs, Drive.hush]

/-- The test tone is handed whatever sounds (R130, R141). -/
theorem handTest_sounder {d : Drive} (h : d.quiescent = false) (offset : Nat) :
    (d.handTest offset).source = .test ∧ (d.handTest offset).tone = 7 ∧ (d.handTest offset).envelopeLevel = 1
      ∧ (d.handTest offset).intensity = d.intensity ∧ (d.handTest offset).chirpTimer = none
      ∧ (d.handTest offset).behind = none := by
  simp [Drive.handTest, h, Drive.setTone, testTone, envelopeLevelOf]

/-! ### The player's marks -/

/-- A SILENT mark: the beacon dark, the sounder's pattern and test tone ended (R129). -/
theorem Playing.silentMark_drive {g : Playing} (h : g.drive.quiescent = false) :
    g.silentMark.drive.intensity = 0 ∧ g.silentMark.drive.beaconLevel = 0
      ∧ (g.drive.source ≠ .chirp → g.silentMark.drive.source = .none)
      ∧ (g.drive.source = .test → g.silentMark.drive.source = .none ∧ g.silentMark.drive.level = 0)
      ∧ (g.drive.source = .chirp → g.silentMark.drive.source = .chirp ∧ g.silentMark.drive.behind = none
          ∧ g.silentMark.drive.level = g.drive.level ∧ g.silentMark.drive.chirpTimer = g.drive.chirpTimer) := by
  obtain ⟨hintensity, hlevel, hsource, hsnd, htimer⟩ := handIntensity_dark h
  obtain ⟨hkeepI, hkeepL⟩ := silentMark_beacon (g.drive.handIntensity 0)
  have hq : (g.drive.handIntensity 0).quiescent = false := by simpa using h
  obtain ⟨hother, htest, hchirp⟩ := silentMark_sounder hq
  rw [hsource] at hother htest hchirp
  refine ⟨hkeepI.trans hintensity, hkeepL.trans hlevel, hother, htest, fun hc => ?_⟩
  simp only [Playing.silentMark, hchirp hc]
  exact ⟨hc, trivial, hsnd, htimer⟩

theorem Playing.testMark_drive {g : Playing} (h : g.drive.quiescent = false) (offset : Nat) :
    (g.testMark offset).drive.source = .test ∧ (g.testMark offset).drive.tone = 7
      ∧ (g.testMark offset).drive.envelopeLevel = 1 ∧ (g.testMark offset).drive.intensity = 2
      ∧ (g.testMark offset).drive.chirpTimer = none ∧ (g.testMark offset).drive.behind = none := by
  have hq : (g.drive.handIntensity 2).quiescent = false := by simpa using h
  obtain ⟨hsource, htone, hlevel, hintensity, htimer, hbehind⟩ := handTest_sounder hq offset
  exact ⟨hsource, htone, hlevel, hintensity.trans (handIntensity_intensity h 2), htimer, hbehind⟩

theorem Playing.hand_intensity {g : Playing} (h : g.drive.quiescent = false) (st : Step) (offset : Nat) :
    (g.hand st offset).drive.intensity = st.intensity := by
  unfold Playing.hand
  dsimp only
  split
  · rw [(handPattern_beacon _ _).1, handIntensity_intensity h]
  · rw [handIntensity_intensity h]

/-- A step handed changes of the player its offset alone, and so does a position without a step. -/
theorem Playing.cycleMark_player (l : Library) (c : Clock) (p : Nat) (g : Playing) :
    ∃ n, (g.cycleMark l c p).player = { g.player with stepOffset := n } := by
  unfold Playing.cycleMark
  split
  · exact ⟨_, rfl⟩
  · exact ⟨g.player.stepOffset, rfl⟩

theorem Playing.introMark_of_span {l : Library} {c : Clock} {p : Nat} {g : Playing} {st : Step} {offset : Nat}
    (h : spanAt (l.intro p) g.player.introCount = some (st, offset)) :
    (g.introMark l c p).player = { g.player with stepOffset := offset, introCount := g.player.introCount + 1 }
      ∧ (g.introMark l c p).drive = (g.hand st offset).drive := by
  simp only [Playing.introMark, h]
  exact ⟨rfl, trivial⟩

theorem Playing.introMark_of_over {l : Library} {c : Clock} {p : Nat} {g : Playing}
    (h : spanAt (l.intro p) g.player.introCount = none) :
    g.introMark l c p = Playing.cycleMark l c p { g with player := { g.player with mode := .cycle, introCount := 0 } } := by
  simp only [Playing.introMark, h]

/-- No step stands past the total duration of a list. -/
theorem spanAt_eq_none_iff (steps : List Step) (pos : Nat) :
    spanAt steps pos = none ↔ (steps.map Step.duration).sum ≤ pos := by
  induction steps generalizing pos with
  | nil => simp [spanAt]
  | cons st rest ih =>
    simp only [spanAt, List.map_cons, List.sum_cons]
    split
    · simp; omega
    · rw [ih]; omega

/-! ### An eighth mark by mode -/

theorem Playing.mark_of_ends {g : Playing} (h : g.player.ends = true) (l : Library) (c : Clock) :
    g.mark l c = Playing.silentMark { g with player := g.player.ended } := if_pos h

theorem Playing.mark_of_silent {g : Playing} (h : g.player.mode = .silent) (l : Library) (c : Clock) :
    g.mark l c = g.silentMark := by
  simp [Playing.mark, Player.ends, h]

theorem Playing.mark_of_test {g : Playing} (h : g.player.mode = .test) (l : Library) (c : Clock) :
    g.mark l c = g.testMark (g.player.stepOffset + 1) := by
  simp [Playing.mark, Player.ends, h]

theorem Playing.mark_of_cycle {g : Playing} {p : Nat} (hw : g.player.wanted ≠ none) (h : g.player.mode = .cycle)
    (hp : g.player.current = some p) (l : Library) (c : Clock) : g.mark l c = g.cycleMark l c p := by
  have hends : g.player.ends = false := by simp [Player.ends, Option.isNone_eq_false_iff.2 (Option.isSome_iff_ne_none.2 hw)]
  simp [Playing.mark, hends, h, hp]

theorem Playing.mark_of_intro {g : Playing} {p : Nat} (hw : g.player.wanted ≠ none) (h : g.player.mode = .intro)
    (hp : g.player.current = some p) (l : Library) (c : Clock) : g.mark l c = g.introMark l c p := by
  have hends : g.player.ends = false := by simp [Player.ends, Option.isNone_eq_false_iff.2 (Option.isSome_iff_ne_none.2 hw)]
  simp [Playing.mark, hends, h, hp]

/-! ### A beat by what the player has to do -/

theorem Playing.beat_of_testDue {g : Playing} (h : g.player.testDue = true) (l : Library) (c : Clock) :
    g.beat l c = Playing.testMark 0 { g with player := { g.player with
      restart := false, testDue := false, mode := .test, testBeats := 0, current := none, introCount := 0 } } := by
  simp [Playing.beat, h]

theorem Playing.beat_of_test {g : Playing} (h : g.player.testDue = false) (hm : g.player.mode = .test) (l : Library)
    (c : Clock) :
    g.beat l c = if 3 ≤ g.player.testBeats then
        Playing.silentMark { g with player := { g.player with restart := false, mode := .silent, testBeats := 4 } }
      else Playing.testMark (g.player.stepOffset + 1)
        { g with player := { g.player with restart := false, testBeats := g.player.testBeats + 1 } } := by
  simp [Playing.beat, h, hm]

theorem Playing.beat_of_start {g : Playing} {w : Nat} (h : g.player.testDue = false) (hm : g.player.mode ≠ .test)
    (hs : g.player.starts = some w) (l : Library) (c : Clock) :
    g.beat l c = Playing.mark l c { g with player := Player.start l w { g.player with restart := false } } := by
  simp [Playing.beat, h, hm, hs]

theorem Playing.beat_of_none {g : Playing} (h : g.player.testDue = false) (hm : g.player.mode ≠ .test)
    (hs : g.player.starts = none) (l : Library) (c : Clock) :
    g.beat l c = Playing.mark l c { g with player := { g.player with restart := false } } := by
  simp [Playing.beat, h, hm, hs]

end Sys2Proof.Machine
end

section
/-! PROOFS. Eighth marks, beat events and intros at the player, and the ageing of the queue (chapters 1, 4 and 6). O17, O20 and
O21. -/

namespace Sys2Proof.Machine

variable {s : State} {dt : Nat}

theorem exec_eighthCommand (dt : Nat) (cause : EighthCause) (s : State) :
    exec (eighthCommand dt cause) s = .next (eighthBy cause (s.elapse dt)) := by
  cases cause with
  | mark => rfl
  | beat c => cases c <;> rfl

theorem exec_beatCommand (dt : Nat) (cause : BeatCause) (s : State) :
    exec (beatCommand dt cause) s = .next (beatBy cause (s.elapse dt)) := by
  cases cause <;> rfl

theorem keysCounted_eq (s : State) (dt : Nat) : s.keysCounted dt = (s.elapse dt).keys.counted := rfl

/-- An eighth mark at the player: a mark within a beat, or a beat's eighth 0 (R20). -/
def Playing.eighth (cause : EighthCause) (l : Library) (c : Clock) (g : Playing) : Playing :=
  match cause with
  | .mark => g.mark l c
  | .beat _ => g.beat l c

/-- The player and the drives when a command's wait has passed. -/
def State.playingAt (dt : Nat) (s : State) : Playing :=
  ⟨s.player, (s.elapse dt).drive⟩

/-- An eighth mark at which no chord ends: what it leaves, and what it does to the player and the key unit (R20, R167). -/
theorem eighthBy_goes_on {cause : EighthCause} (hdue : s.eighthIsDue cause dt) (hchord : s.chordGoesOn) :
    (eighthBy cause (s.elapse dt)).beat.eighth = (if cause = .mark then s.beat.eighth + 1 else 0)
      ∧ (eighthBy cause (s.elapse dt)).table = s.table ∧ (eighthBy cause (s.elapse dt)).faults = s.faults
      ∧ (eighthBy cause (s.elapse dt)).roster = s.roster
      ∧ (eighthBy cause (s.elapse dt)).inputs = (s.elapse dt).inputs
      ∧ (eighthBy cause (s.elapse dt)).keys = s.keysCounted dt
      ∧ (eighthBy cause (s.elapse dt)).playing
          = (s.playingAt dt).eighth cause s.library (eighthBy cause (s.elapse dt)).clock := by
  have hchord' : (s.elapse dt).chordDue = false := chordDue_of_chordGoesOn hchord
  cases cause with
  | mark =>
    have heq : eighthBy .mark (s.elapse dt) = _ := eighthMark_goes_on ((eighthDue_elapse s dt).2 hdue) hchord'
    rw [heq, keysCounted_eq]
    simp [playerMark, State.setPlaying, State.playing, State.playingAt, Playing.eighth, State.clock]
  | beat c =>
    obtain ⟨u, hu, hkeeps, heighth⟩ := beat_handsOn (cause := c) hdue
    have hdue' : u.chordDue = false := by simpa [State.chordDue, hkeeps.keys] using hchord'
    obtain ⟨hplaying, hkeys, htable, hroster, hfaults, hinputs, -⟩ := handBeat_goes_on hdue'
    have heq : eighthBy (.beat c) (s.elapse dt) = handBeat u := hu
    have hclock : (handBeat u).clock = u.clock := by simp [State.clock]
    have hstart : u.playing = s.playingAt dt := by simp [State.playing, State.playingAt, hkeeps.player, hkeeps.drive]
    rw [heq, hplaying, hkeys, htable, hroster, hfaults, hinputs, hclock, hstart, keysCounted_eq, hkeeps.table,
      hkeeps.roster, hkeeps.faults, hkeeps.inputs, hkeeps.keys, hkeeps.library]
    simp [heighth, Playing.eighth]

theorem playing_eq_iff {t : State} {g : Playing} (h : t.playing = g) : t.player = g.player ∧ t.drive = g.drive := by
  subst h
  exact ⟨rfl, rfl⟩

/-- Where a beat starts neither a test nor a pattern, its eighth 0 plays as any other eighth does (R121 to R124). -/
theorem Playing.eighth_eq_mark {cause : EighthCause} {g : Playing} {p : Nat} (hm : g.player.mode = .intro ∨ g.player.mode = .cycle)
    (hp : g.player.current = some p)
    (h : cause = .mark ∨ g.player.testDue = false ∧ g.player.restart = false ∧ g.player.wanted = some p)
    (l : Library) (c : Clock) : g.eighth cause l c = g.mark l c := by
  cases cause with
  | mark => rfl
  | beat b =>
    obtain ⟨hdue, hrestart, hwanted⟩ := h.resolve_left (by simp)
    have hnone : g.player.starts = none := by
      rcases hm with hm | hm <;> simp [Player.starts, hwanted, hp, hrestart, hm]
    rw [Playing.eighth, Playing.beat_of_none hdue (by rcases hm with hm | hm <;> simp [hm]) hnone, ← hrestart]

/-! ### A beat event at the player -/

/-- A mark keeps the restart flag, and the pattern unless playback ends. -/
theorem Playing.mark_restart (l : Library) (c : Clock) (g : Playing) : (g.mark l c).player.restart = g.player.restart := by
  have hcycle : ∀ p g, (Playing.cycleMark l c p g).player.restart = g.player.restart := by
    intro p g
    obtain ⟨n, hn⟩ := Playing.cycleMark_player l c p g
    rw [hn]
  unfold Playing.mark
  split
  · rfl
  · split
    · unfold Playing.introMark
      split
      · rfl
      · exact hcycle _ _
    · exact hcycle _ _
    all_goals rfl

theorem Playing.beat_restart (l : Library) (c : Clock) (g : Playing) : (g.beat l c).player.restart = false := by
  unfold Playing.beat
  dsimp only
  split
  · rfl
  · split
    · split <;> rfl
    · split <;> exact Playing.mark_restart ..

theorem Playing.beat_given (l : Library) (c : Clock) (g : Playing) :
    (g.beat l c).player.wanted = g.player.wanted ∧ (g.beat l c).player.sound = g.player.sound := by
  have h := Playing.given_beat l c g
  simp only [Playing.given, Prod.mk.injEq] at h
  exact ⟨h.1, h.2.1⟩

/-- A mark in a pattern that is wanted keeps playing it. -/
theorem Playing.mark_current {g : Playing} {w : Nat} (hw : g.player.wanted ≠ none)
    (hm : g.player.mode = .intro ∨ g.player.mode = .cycle) (hp : g.player.current = some w) (l : Library) (c : Clock) :
    (g.mark l c).player.current = some w := by
  have hcycle : ∀ g' : Playing, g'.player.current = some w → (g'.cycleMark l c w).player.current = some w := by
    intro g' h
    obtain ⟨n, hn⟩ := Playing.cycleMark_player l c w g'
    rw [hn]
    exact h
  rcases hm with hm | hm
  · rw [Playing.mark_of_intro hw hm hp]
    cases hspan : spanAt (l.intro w) g.player.introCount with
    | none =>
      rw [Playing.introMark_of_over hspan]
      exact hcycle _ hp
    | some x =>
      rw [(Playing.introMark_of_span (c := c) hspan).1]
      exact hp
  · rw [Playing.mark_of_cycle hw hm hp]
    exact hcycle g hp

/-- The first eighth of a pattern without an intro (R122, R124). -/
theorem Playing.start_cycle {g : Playing} {w : Nat} (hw : g.player.wanted = some w) {l : Library} (hi : l.intro w = [])
    (c : Clock) :
    (Playing.mark l c { g with player := Player.start l w { g.player with restart := false } }).player.mode = .cycle
      ∧ (Playing.mark l c { g with player := Player.start l w { g.player with restart := false } }).player.introCount
          = 0 := by
  rw [Playing.mark_of_cycle (p := w) (by simp [Player.start, hw]) (by simp [Player.start, hi]) rfl]
  obtain ⟨n, hn⟩ := Playing.cycleMark_player l c w { g with player := Player.start l w { g.player with restart := false } }
  rw [hn]
  simp [Player.start, hi]

/-- The first eighth of a pattern with an intro (R122, R123). -/
theorem Playing.start_intro {g : Playing} {w : Nat} (hw : g.player.wanted = some w) {l : Library} {st : Step}
    {rest : List Step} (hi : l.intro w = st :: rest) (hd : 1 ≤ st.duration) (c : Clock) :
    let t := Playing.mark l c { g with player := Player.start l w { g.player with restart := false } }
    t.player.mode = .intro ∧ t.player.introCount = 1 ∧ t.player.stepOffset = 0
      ∧ (g.drive.quiescent = false → t.drive.intensity = st.intensity) := by
  have hspan : spanAt (l.intro w) (Player.start l w { g.player with restart := false }).introCount = some (st, 0) := by
    simp [Player.start, hi, spanAt, Nat.lt_of_succ_le hd]
  dsimp only
  rw [Playing.mark_of_intro (p := w) (by simp [Player.start, hw]) (by simp [Player.start, hi]) rfl]
  obtain ⟨hplayer, hdrive⟩ := Playing.introMark_of_span (c := c)
    (g := { g with player := Player.start l w { g.player with restart := false } }) hspan
  rw [hplayer, hdrive]
  refine ⟨by simp [Player.start, hi], rfl, rfl, fun hq => Playing.hand_intensity hq _ _⟩

/-- Where a pattern is wanted and no test runs, the beat plays it. -/
theorem Playing.beat_current {g : Playing} {w : Nat} (h : g.player.testDue = false) (hm : g.player.mode ≠ .test)
    (hw : g.player.wanted = some w) (l : Library) (c : Clock) : (g.beat l c).player.current = some w := by
  cases hs : g.player.starts with
  | some w' =>
    have hww : w' = w := by
      simp only [Player.starts, hw] at hs
      split at hs <;> simp_all
    subst hww
    rw [Playing.beat_of_start h hm hs]
    refine Playing.mark_current (by simp [Player.start, hw]) ?_ rfl l c
    cases hi : l.intro w' <;> simp [Player.start, hi]
  | none =>
    rw [Playing.beat_of_none h hm hs]
    simp only [Player.starts, hw, ite_eq_right_iff, reduceCtorEq, Bool.or_eq_true, beq_iff_eq, bne_iff_ne] at hs
    refine Playing.mark_current (by simp [hw]) ?_ ?_ l c
    · cases hmode : g.player.mode <;> simp_all
    · by_contra hne
      exact hs (.inl (.inr hne))

/-- Playback with no wanted pattern ends with the beat (R126). -/
theorem Playing.beat_unwanted {g : Playing} (h : g.player.testDue = false) (hm : g.player.mode ≠ .test)
    (hw : g.player.wanted = none) (l : Library) (c : Clock) :
    (g.beat l c).player.mode = .silent
      ∧ (g.drive.quiescent = false → (g.beat l c).drive.intensity = 0 ∧ (g.beat l c).drive.beaconLevel = 0
          ∧ (g.drive.source ≠ .chirp → (g.beat l c).drive.source = .none)) := by
  rw [Playing.beat_of_none h hm (by simp [Player.starts, hw])]
  cases hmode : g.player.mode with
  | test => exact absurd hmode hm
  | silent =>
    rw [Playing.mark_of_silent (g := { g with player := { g.player with restart := false } }) hmode]
    refine ⟨hmode, fun hq => ?_⟩
    obtain ⟨hintensity, hlevel, hother, -⟩ := Playing.silentMark_drive
      (g := { g with player := { g.player with restart := false } }) hq
    exact ⟨hintensity, hlevel, hother⟩
  | intro | cycle =>
    rw [Playing.mark_of_ends (by simp [Player.ends, hw, hmode])]
    refine ⟨rfl, fun hq => ?_⟩
    obtain ⟨hintensity, hlevel, hother, -⟩ := Playing.silentMark_drive
      (g := { g with player := Player.ended { g.player with restart := false } }) hq
    exact ⟨hintensity, hlevel, hother⟩

/-! ### A step handed to the drives -/

theorem Drive.capped_eq_zero (d : Drive) (n : Nat) : d.capped n = 0 ↔ n = 0 := by
  unfold Drive.capped
  split <;> omega

/-- A beacon that is lit and stays lit keeps its wave (R139). -/
theorem handIntensity_beacon {d : Drive} (h : d.quiescent = false) (n : Nat) :
    if d.beaconLevel ≠ 0 ∧ n ≠ 0 then
      (d.handIntensity n).beaconLevel = d.beaconLevel ∧ (d.handIntensity n).bcnPhase = d.bcnPhase
    else (d.handIntensity n).beaconLevel = d.capped n ∧ (d.handIntensity n).bcnPhase = 0 := by
  by_cases hl : d.beaconLevel = 0 <;> by_cases hn : n = 0
  all_goals
    have hzero := Drive.capped_eq_zero d n
    simp [Drive.handIntensity, h, hl, hn, hzero]
  simp [hn] at hzero
  simp [hzero]

theorem ToneStep.audible_iff (t : ToneStep) :
    t.audible = true ↔ t.tone ≠ 0 ∧ envelopeLevelOf t.volume t.envelope t.offset ≠ 0 := by
  simp [ToneStep.audible]

/-- A rest is stored behind a chirp (R141). -/
theorem handPattern_behind {d : Drive} {t : ToneStep} (h : d.quiescent = false) (hc : d.source = .chirp)
    (hrest : t.tone = 0 ∨ envelopeLevelOf t.volume t.envelope t.offset = 0) :
    d.handPattern t = { d with behind := some t } := by
  have haudible : t.audible = false := by
    rw [Bool.eq_false_iff, ne_eq, ToneStep.audible_iff]
    tauto
  simp [Drive.handPattern, h, hc, haudible]

/-- A step taken up by the sounder: a tone that goes on keeps its wave, and another begins at once (R138, R141). -/
theorem handPattern_taken {d : Drive} {t : ToneStep} (h : d.quiescent = false)
    (htaken : d.source ≠ .chirp ∨ t.tone ≠ 0 ∧ envelopeLevelOf t.volume t.envelope t.offset ≠ 0) :
    (d.handPattern t).source = .pattern ∧ (d.handPattern t).tone = t.tone ∧ (d.handPattern t).offset = t.offset
      ∧ (d.handPattern t).envelopeLevel = envelopeLevelOf t.volume t.envelope t.offset
      ∧ (d.source = .chirp → (d.handPattern t).chirpTimer = none ∧ (d.handPattern t).behind = none)
      ∧ (if d.tone ≠ 0 ∧ d.level ≠ 0 ∧ t.tone = d.tone ∧ envelopeLevelOf t.volume t.envelope t.offset ≠ 0 then
          (d.handPattern t).level = d.level ∧ (d.handPattern t).sndPhase = d.sndPhase
        else (d.handPattern t).level = d.capped (envelopeLevelOf t.volume t.envelope t.offset)
          ∧ (d.handPattern t).sndPhase = 0) := by
  have htone : if d.tone ≠ 0 ∧ d.level ≠ 0 ∧ t.tone = d.tone ∧ envelopeLevelOf t.volume t.envelope t.offset ≠ 0 then
      (d.setTone .pattern t).level = d.level ∧ (d.setTone .pattern t).sndPhase = d.sndPhase
      else (d.setTone .pattern t).level = d.capped (envelopeLevelOf t.volume t.envelope t.offset)
        ∧ (d.setTone .pattern t).sndPhase = 0 := by
    have hzero := Drive.capped_eq_zero d (envelopeLevelOf t.volume t.envelope t.offset)
    have hunbroken : (d.sounding && d.tone == t.tone && d.capped (envelopeLevelOf t.volume t.envelope t.offset) != 0) = true
        ↔ d.tone ≠ 0 ∧ d.level ≠ 0 ∧ t.tone = d.tone ∧ envelopeLevelOf t.volume t.envelope t.offset ≠ 0 := by
      simp only [Drive.sounding, Bool.and_eq_true, bne_iff_ne, beq_iff_eq, ne_eq, hzero, and_assoc, @eq_comm _ d.tone t.tone]
    split
    · next hcond => simp [Drive.setTone, hunbroken.2 hcond]
    · next hcond => simp [Drive.setTone, Bool.eq_false_iff.2 (mt hunbroken.1 hcond)]
  by_cases hc : d.source = .chirp
  · have haudible := (ToneStep.audible_iff t).2 (htaken.resolve_left (not_not.2 hc))
    have heq : d.handPattern t = { d.setTone .pattern t with chirpTimer := none, behind := none } := by
      simp [Drive.handPattern, h, hc, haudible]
    rw [heq]
    exact ⟨rfl, rfl, rfl, rfl, fun _ => ⟨rfl, rfl⟩, htone⟩
  · have heq : d.handPattern t = d.setTone .pattern t := by
      cases hs : d.source <;> simp_all [Drive.handPattern]
    rw [heq]
    exact ⟨rfl, rfl, rfl, rfl, fun hs => absurd hs hc, htone⟩

theorem Playing.hand_drive_of_sound {g : Playing} (h : g.player.sound = true) (st : Step) (offset : Nat) :
    (g.hand st offset).drive = (g.drive.handIntensity st.intensity).handPattern ⟨st.tone, st.volume, st.envelope, offset⟩ := by
  simp [Playing.hand, h]

theorem Playing.hand_drive_of_silence {g : Playing} (h : g.player.sound = false) (st : Step) (offset : Nat) :
    (g.hand st offset).drive = g.drive.handIntensity st.intensity := by
  simp [Playing.hand, h]

/-- The beacon takes a step's intensity whatever the sounder does (R128, R139). -/
theorem Playing.hand_beacon {g : Playing} (h : g.drive.quiescent = false) (st : Step) (offset : Nat) :
    if g.drive.beaconLevel ≠ 0 ∧ st.intensity ≠ 0 then
      (g.hand st offset).drive.beaconLevel = g.drive.beaconLevel ∧ (g.hand st offset).drive.bcnPhase = g.drive.bcnPhase
    else (g.hand st offset).drive.beaconLevel = g.drive.capped st.intensity ∧ (g.hand st offset).drive.bcnPhase = 0 := by
  have hhand := handIntensity_beacon h st.intensity
  cases hs : g.player.sound with
  | false => rwa [Playing.hand_drive_of_silence hs]
  | true =>
    obtain ⟨-, hlevel, hphase⟩ := handPattern_beacon (g.drive.handIntensity st.intensity)
      ⟨st.tone, st.volume, st.envelope, offset⟩
    rwa [Playing.hand_drive_of_sound hs, hlevel, hphase]

/-- A rest handed to a sounder that chirps (R141). -/
theorem Playing.hand_behind {g : Playing} {st : Step} {offset : Nat} (h : g.drive.quiescent = false)
    (hs : g.player.sound = true) (hc : g.drive.source = .chirp)
    (hrest : st.tone = 0 ∨ envelopeLevelOf st.volume st.envelope offset = 0) :
    (g.hand st offset).drive.source = .chirp ∧ (g.hand st offset).drive.tone = g.drive.tone
      ∧ (g.hand st offset).drive.level = g.drive.level ∧ (g.hand st offset).drive.chirpTimer = g.drive.chirpTimer
      ∧ (g.hand st offset).drive.sndPhase = g.drive.sndPhase
      ∧ (g.hand st offset).drive.behind = some ⟨st.tone, st.volume, st.envelope, offset⟩ := by
  obtain ⟨hsource, htone, hsnd, -, hphase, htimer, -⟩ := handIntensity_sounder g.drive st.intensity
  rw [Playing.hand_drive_of_sound hs, handPattern_behind (by simpa using h) (hsource.trans hc) hrest]
  exact ⟨hsource.trans hc, htone, hsnd, htimer, hphase, rfl⟩

/-- A step that the sounder takes up from the player (R138, R141). -/
theorem Playing.hand_taken {g : Playing} {st : Step} {offset n : Nat} (h : g.drive.quiescent = false)
    (hs : g.player.sound = true) (hn : envelopeLevelOf st.volume st.envelope offset = n)
    (htaken : g.drive.source ≠ .chirp ∨ st.tone ≠ 0 ∧ n ≠ 0) :
    (g.hand st offset).drive.source = .pattern ∧ (g.hand st offset).drive.tone = st.tone
      ∧ (g.hand st offset).drive.offset = offset ∧ (g.hand st offset).drive.envelopeLevel = n
      ∧ (g.drive.source = .chirp →
          (g.hand st offset).drive.chirpTimer = none ∧ (g.hand st offset).drive.behind = none)
      ∧ (if g.drive.tone ≠ 0 ∧ g.drive.level ≠ 0 ∧ st.tone = g.drive.tone ∧ n ≠ 0 then
          (g.hand st offset).drive.level = g.drive.level ∧ (g.hand st offset).drive.sndPhase = g.drive.sndPhase
        else (g.hand st offset).drive.level = g.drive.capped n ∧ (g.hand st offset).drive.sndPhase = 0) := by
  subst hn
  obtain ⟨hsource, htone, hsnd, -, hphase, -⟩ := handIntensity_sounder g.drive st.intensity
  have hcapped : (g.drive.handIntensity st.intensity).capped (envelopeLevelOf st.volume st.envelope offset)
      = g.drive.capped (envelopeLevelOf st.volume st.envelope offset) := by
    simp [Drive.capped]
  have hstep := handPattern_taken (d := g.drive.handIntensity st.intensity)
    (t := ⟨st.tone, st.volume, st.envelope, offset⟩) (by simpa using h) (by rw [hsource]; exact htaken)
  rwa [Playing.hand_drive_of_sound hs, ← hsource, ← htone, ← hsnd, ← hphase, ← hcapped]

/-- The waves of the drives when a command's wait has passed (R135, R139). -/
theorem elapse_waves (s : State) (dt : Nat) :
    (s.drive.beaconLevel ≠ 0 → (s.elapse dt).drive.bcnPhase = s.drive.bcnPhase + 1000 * dt)
      ∧ (s.drive.tone ≠ 0 → s.drive.level ≠ 0 →
          (s.elapse dt).drive.sndPhase = s.drive.sndPhase + toneHz s.drive.tone * dt) := by
  obtain ⟨-, hsnd, hbcn⟩ := elapse_drive_timers dt s
  rw [hsnd, hbcn]
  exact ⟨fun h => by simp [h, beaconHz], fun htone hlevel => by simp [Drive.sounding, htone, hlevel]⟩

end Sys2Proof.Machine

open Sys2Proof Sys2Proof.Machine

/-- Settles O17: a clause for each thing a beat event can find the player at. -/
theorem beatEventAtThePlayer : Obligations.BeatEventAtThePlayer := by
  unfold Obligations.BeatEventAtThePlayer
  intro after cause s hdue hchord
  obtain ⟨-, htable, hfaults, hroster, hinputs, hkeys, hplaying⟩ :=
    eighthBy_goes_on (cause := .beat cause) (dt := after) hdue hchord
  have hbeat : (beatBy cause (s.elapse after)).playing
      = (s.playingAt after).beat s.library (beatBy cause (s.elapse after)).clock := hplaying
  generalize (beatBy cause (s.elapse after)).clock = clock at hbeat
  obtain ⟨hplayer, hdrive⟩ := playing_eq_iff hbeat
  refine ⟨beatBy cause (s.elapse after), exec_beatCommand after cause s, htable, hroster, hfaults,
    by cases cause <;> simp [beatBy], by cases cause <;> simp [beatBy], hinputs, hkeys,
    by cases cause <;> simp [beatBy], by cases cause <;> simp [beatBy], ?_⟩
  rw [hplayer, hdrive]
  obtain ⟨hwanted, hsound⟩ := Playing.beat_given s.library clock (s.playingAt after)
  refine ⟨Playing.beat_restart .., hwanted, hsound, fun htest => ?_, fun htest hmode hfew => ?_,
    fun htest hmode hmany => ⟨?_, ?_⟩, fun htest hmode w hw => ⟨Playing.beat_current htest hmode hw .., fun hstart => ?_⟩,
    fun htest hmode hw => Playing.beat_unwanted htest hmode hw ..⟩
  · rw [Playing.beat_of_testDue htest]
    refine ⟨rfl, rfl, rfl, rfl, fun hq => ?_⟩
    obtain ⟨hsource, htone, hlevel, hintensity, -⟩ := Playing.testMark_drive (g := { s.playingAt after with
      player := { s.player with
        restart := false, testDue := false, mode := .test, testBeats := 0, current := none, introCount := 0 } }) hq 0
    exact ⟨hsource, htone, hlevel, hintensity⟩
  · rw [Playing.beat_of_test htest hmode, if_neg (by exact Nat.not_le.2 hfew)]
    exact ⟨hmode, rfl⟩
  · have hends : (s.elapse after).testEndsNow cause = true := by
      simp [State.testEndsNow, (beatComes_elapse cause s after).2 hdue, hmode, htest, hmany]
    exact congrArg Host.Outcome.next (if_pos hends)
  · rw [Playing.beat_of_test htest hmode, if_pos (by exact hmany)]
    refine ⟨rfl, fun hq => ?_⟩
    obtain ⟨hintensity, hlevel, -, hsource, -⟩ := Playing.silentMark_drive (g := { s.playingAt after with
      player := { s.player with restart := false, mode := .silent, testBeats := 4 } }) hq
    exact ⟨hintensity, hlevel, hsource⟩
  · have hs : s.player.starts = some w := by
      rcases hstart with h | h | h <;> simp [Player.starts, hw, h]
    rw [Playing.beat_of_start (g := s.playingAt after) htest hmode hs]
    exact ⟨fun hi => Playing.start_cycle hw hi clock, fun st rest hi hd => Playing.start_intro hw hi hd clock⟩

/-- Settles O20: in CYCLE the step at the clock's position is handed to both drives. -/
theorem eighthMarkPlaysThePosition : Obligations.EighthMarkPlaysThePosition := by
  unfold Obligations.EighthMarkPlaysThePosition
  intro after cause s hdue hchord
  obtain ⟨heighth, htable, hfaults, hroster, -, hkeys, hplaying⟩ := eighthBy_goes_on hdue hchord
  refine ⟨eighthBy cause (s.elapse after), exec_eighthCommand after cause s, heighth, htable, hfaults, hroster, hkeys,
    fun hmode hwanted p hp hplays st offset hspan => ?_, fun hcause => ?_⟩
  · rw [Playing.eighth_eq_mark (g := s.playingAt after) (.inr hmode) hp hplays,
      Playing.mark_of_cycle (g := s.playingAt after) hwanted hmode hp] at hplaying
    have hhand : (s.playingAt after).cycleMark s.library (eighthBy cause (s.elapse after)).clock p
        = (s.playingAt after).hand st offset := by
      have hat : spanAt (s.library.cycle p)
          (cyclePosition (s.library.bars p) (eighthBy cause (s.elapse after)).clock) = some (st, offset) := hspan
      simp only [Playing.cycleMark, hat]
    rw [hhand] at hplaying
    obtain ⟨hplayer, hdrive⟩ := playing_eq_iff hplaying
    rw [hplayer, hdrive]
    extract_lets produced envelopeLevel
    have hlevel : envelopeLevelOf st.volume st.envelope offset = envelopeLevel := by
      unfold envelopeLevelOf envelopeLevel
      cases st.envelope <;> rfl
    obtain ⟨hbeaconWave, htoneWave⟩ := elapse_waves s after
    refine ⟨rfl, fun hq => ⟨Playing.hand_intensity hq _ _, ?_, fun hs => ?_, fun hs hc hrest => ?_, fun hs htaken => ?_⟩⟩
    · have hbeacon := Playing.hand_beacon (g := s.playingAt after) hq st offset
      split
      · next hlit =>
        rw [if_pos (by exact hlit)] at hbeacon
        exact ⟨hbeacon.1, hbeacon.2.trans (hbeaconWave hlit.1)⟩
      · next hdark =>
        rw [if_neg (by exact hdark)] at hbeacon
        exact hbeacon
    · rw [Playing.hand_drive_of_silence (g := s.playingAt after) hs]
      obtain ⟨hsource, -, hsnd, -⟩ := handIntensity_sounder (s.elapse after).drive st.intensity
      exact ⟨hsource, hsnd⟩
    · exact Playing.hand_behind (g := s.playingAt after) hq hs hc (by rwa [hlevel])
    · obtain ⟨hpattern, htone, hoffset, henvelope, hcut, hwave⟩ :=
        Playing.hand_taken (g := s.playingAt after) (st := st) hq hs hlevel htaken
      refine ⟨hpattern, htone, hoffset, henvelope, hcut, ?_⟩
      rw [henvelope]
      split
      · next hgoes =>
        rw [if_pos (by exact hgoes)] at hwave
        obtain ⟨hsounding, hlit, hsame, -⟩ := hgoes
        rw [hsame]
        exact ⟨hwave.1, hwave.2.trans (htoneWave hsounding hlit)⟩
      · next hbegins =>
        rw [if_neg (by exact hbegins)] at hwave
        exact hwave
  · subst hcause
    have heq : eighthBy .mark (s.elapse after) = _ :=
      eighthMark_goes_on ((eighthDue_elapse s after).2 hdue) (chordDue_of_chordGoesOn hchord)
    obtain ⟨hplayer, hdrive⟩ := playing_eq_iff hplaying
    rw [hplayer, hdrive]
    refine ⟨by rw [heq]; simp, by rw [heq]; simp, by rw [heq]; simp, by rw [heq]; simp, by rw [heq]; simp,
      fun hmode => ?_, fun hmode => ?_, fun hmode hw => ?_⟩
    · rw [Playing.eighth, Playing.mark_of_silent (g := s.playingAt after) hmode]
      refine ⟨rfl, fun hq => ?_⟩
      obtain ⟨hintensity, hbeacon, hother, -, hchirp⟩ := Playing.silentMark_drive (g := s.playingAt after) hq
      exact ⟨hintensity, hbeacon, hother, hchirp⟩
    · rw [Playing.eighth, Playing.mark_of_test (g := s.playingAt after) hmode]
      exact ⟨rfl, fun hq => Playing.testMark_drive (g := s.playingAt after) hq _⟩
    · rw [Playing.eighth, Playing.mark_of_ends (g := s.playingAt after)
        (by rcases hmode with h | h <;> simp [Player.ends, State.playingAt, hw, h])]
      rfl

/-- Settles O21: an intro's step, or past its last one the cycle. -/
theorem introRunsItsLengthThenTheCycle : Obligations.IntroRunsItsLengthThenTheCycle := by
  unfold Obligations.IntroRunsItsLengthThenTheCycle
  intro after cause s hdue hchord hmode hwanted p hp hplays
  obtain ⟨heighth, -, -, -, -, -, hplaying⟩ := eighthBy_goes_on hdue hchord
  rw [Playing.eighth_eq_mark (g := s.playingAt after) (.inl hmode) hp hplays,
    Playing.mark_of_intro (g := s.playingAt after) hwanted hmode hp] at hplaying
  obtain ⟨hplayer, hdrive⟩ := playing_eq_iff hplaying
  refine ⟨fun st offset hspan => ⟨eighthBy cause (s.elapse after), exec_eighthCommand after cause s, ?_⟩, fun hover =>
    ⟨eighthBy cause (s.elapse after), exec_eighthCommand after cause s, congrArg Host.Outcome.next (if_pos ?_), ?_⟩⟩
  · obtain ⟨hstepped, hhanded⟩ := Playing.introMark_of_span (g := s.playingAt after)
      (c := (eighthBy cause (s.elapse after)).clock) hspan
    rw [hplayer, hdrive, hstepped, hhanded]
    exact ⟨rfl, fun hq => Playing.hand_intensity (g := s.playingAt after) hq _ _⟩
  · have hplayed : (s.elapse after).atPlayer = s.elapse after := by
      simp [State.atPlayer, chordDue_of_chordGoesOn (s := s.elapse after) hchord]
    have hends : s.player.ends = false := by
      simp [Player.ends, Option.isNone_eq_false_iff.2 (Option.isSome_iff_ne_none.2 hwanted)]
    simp only [State.introEndsNow, (eighthComes_elapse cause s after).2 hdue, hplayed, elapse_frame, Player.introOver,
      hends, hmode, hp, totalDuration, decide_eq_true hover]
    cases cause with
    | mark => rfl
    | beat c =>
      obtain ⟨hdueTest, hrestart, hw⟩ := hplays.resolve_left (by simp)
      simp [hdueTest, Player.starts, hw, hp, hrestart, hmode]
  · have hnone := (spanAt_eq_none_iff (s.library.intro p) s.player.introCount).2 hover
    rw [Playing.introMark_of_over (g := s.playingAt after) hnone] at hplayer hdrive
    obtain ⟨n, hn⟩ := Playing.cycleMark_player s.library (eighthBy cause (s.elapse after)).clock p
      { s.playingAt after with player := { s.player with mode := .cycle, introCount := 0 } }
    have hcycled : (eighthBy cause (s.elapse after)).player
        = { s.player with mode := .cycle, introCount := 0, stepOffset := n } := hplayer.trans hn
    refine ⟨by rw [hcycled], by rw [hcycled], by rw [hcycled]; exact hp, by rw [hcycled], heighth,
      fun st offset hspan => ?_⟩
    have hat : spanAt (s.library.cycle p)
        (cyclePosition (s.library.bars p) (eighthBy cause (s.elapse after)).clock) = some (st, offset) := hspan
    simp only [Playing.cycleMark, hat] at hplayer hdrive
    rw [hplayer, hdrive]
    exact ⟨rfl, fun hq => Playing.hand_intensity hq _ _⟩

end

section
/-! PROOFS. The low period of a beat, the stuck line, the ageing of the queue and membership (chapters 1, 4 and 10). O18, O19,
O22 and O23. -/

namespace Sys2Proof.Machine

variable {s : State} {dt : Nat}

/-! ### Marks and the line -/

theorem markRelease_of_run {m : Mark} (h : s.beat.mark = some m) (hm : m.remaining ≤ dt) :
    markRelease (s.elapse dt) = (s.elapse dt).setBeat { (s.elapse dt).beat with mark := none } := by
  have hmark : (s.elapse dt).beat.mark = some { m with remaining := 0 } := by
    simp [State.elapse, BeatUnit.elapse, h, Nat.sub_eq_zero_of_le hm]
  simp [markRelease, hmark, modifyBeat]

/-- Whether a low period has lasted to the bar mark threshold when a wait has passed (R4). -/
theorem barMarkNow_elapse (s : State) (dt : Nat) :
    (s.elapse dt).barMarkNow = true ↔ s.beat.measuring = true ∧ (s.elapse dt).pins.beatLow = true
      ∧ s.beat.lock ≠ .halted ∧ 8000 ≤ s.beat.timer + dt := by
  by_cases hh : s.beat.lock = .halted
  · simp [State.barMarkNow, hh]
  · simp [State.barMarkNow, hh, elapse_beat_timer hh, barThreshold, and_assoc]

/-- A bar mark recognised: the index is 0, the phase confirmed, and the bar count goes on where the index changes (R4). -/
theorem recogniseBarMark_beat (s : State) :
    (recogniseBarMark s).beat = { s.beat with
      measuring := false, phaseConfirmed := true, beatIndex := 0#4
      barCount := if s.beat.beatIndex = 0#4 then s.beat.barCount else s.beat.barCount + 1#8
      strayTally := if s.beat.beatIndex = 0#4 then s.beat.strayTally else 0 } := by
  unfold recogniseBarMark becomeZero
  dsimp only
  (repeat' split) <;> simp_all

theorem barMark_of_due (h : s.barMarkNow = true) : barMark s = recogniseBarMark s := if_pos h

theorem barMark_of_short (h : ¬ s.barMarkNow = true) : barMark s = s := if_neg h

theorem seesBeatRise_elapse (s : State) (dt : Nat) : (s.elapse dt).seesBeatRise = true ↔ s.beatRiseSeen dt := by
  cases hmark : s.beat.mark with
  | none =>
    obtain ⟨hlow, hheld⟩ := elapse_pins_noMark dt s hmark
    have hnone : (s.elapse dt).beat.mark = none := by simp [State.elapse, BeatUnit.elapse, hmark]
    simp [State.seesBeatRise, hlow, hheld, hnone, State.beatRiseSeen, hmark, tick, filterTime]
  | some m =>
    have hsome : (s.elapse dt).beat.mark.isSome = true := by simp [hmark]
    simp [State.seesBeatRise, State.beatRiseSeen, hmark, Option.isSome_iff_ne_none.1 hsome]

/-- A rise that ends a low period: it is measured no longer, and a stuck line is no longer stuck (R4, R21). -/
theorem beatRise_of_short (hsees : s.seesBeatRise = true) (hshort : ¬ s.barMarkNow = true) :
    beatRise s = (let u := { s with
        pins := { s.pins with beatLow := false, beatHeld := 0 }
        beat := { s.beat with lowTimer := 0, measuring := false, stuck := false } }
      if s.beat.stuck then u.withoutFault .beatStuck else u) := by
  unfold beatRise
  rw [if_pos hsees, barMark_of_short hshort]
  dsimp only
  rw [clearFault_eq]
  rfl

/-! ### The stuck line -/

theorem elapse_lowTimer (h : s.pins.beatLow = true) (dt : Nat) :
    (s.elapse dt).beat.lowTimer = s.beat.lowTimer + dt ∧ (s.elapse dt).pins.beatLow = true := by
  simp [State.elapse, BeatUnit.elapse, Pins.elapse, lowWithin, h]

/-- The station once BEAT is found stuck, before what that does to the lock (R21). -/
def State.stuckFound (s : State) : State :=
  State.withFault .beatStuck (s.setBeat { s.beat with stuck := true })

theorem beatStuck_of_due (hlow : s.pins.beatLow = true) (hh : s.beat.lock ≠ .halted) (hs : s.beat.stuck = false)
    (hlong : 40000 < s.beat.lowTimer) :
    beatStuck s = if s.beat.lock = .free then s.stuckFound else enterFree s.stuckFound := by
  have hnow : s.pins.beatLow ∧ s.beat.lock ≠ .halted ∧ ¬ s.beat.stuck ∧ beatStuckTime < s.beat.lowTimer :=
    ⟨hlow, hh, by simp [hs], hlong⟩
  unfold beatStuck
  rw [if_pos hnow, setFault_eq]
  dsimp only
  cases hl : s.beat.lock with
  | halted => exact absurd hl hh
  | free => rfl
  | settling => rfl
  | locked => rfl

theorem beatStuck_of_not (h : s.beat.lock = .halted ∨ s.beat.stuck = true ∨ s.beat.lowTimer ≤ 40000) :
    beatStuck s = s := by
  refine if_neg ?_
  rintro ⟨-, hh, hs, hlong⟩
  rcases h with h | h | h
  · exact hh h
  · exact hs h
  · exact absurd hlong (Nat.not_lt.2 h)

/-! ### Ageing and expiry -/

theorem bumpTimes_get_self (n : CounterName) (k : Nat) (h : s.counters.get n ≤ 255) :
    (bumpTimes n k s).counters.get n = min 255 (s.counters.get n + k) := by
  induction k generalizing s with
  | zero => simp [bumpTimes, h]
  | succ k ih =>
    have hone := bump_get_self n h
    rw [bumpTimes, ih (by omega), hone]
    omega

/-- Whether a message ages: all but SILENCE and RESTORE (R85). -/
theorem News.ages_eq (n : News) : n.ages = (n != .silence && n != .restore) := by
  cases n <;> rfl

/-- A message expires at the beat that would make its age 16 (R85). -/
theorem Message.aged_expired (m : Message) : m.aged.expired = (m.news.ages && decide (15 ≤ m.age)) := by
  unfold Message.aged Message.expired
  cases h : m.news.ages
  · simp [h]
  · simp [h, expiryAge]

theorem Message.aged_eq (m : Message) : m.aged = { m with age := if m.news.ages then m.age + 1 else m.age } := by
  unfold Message.aged
  split <;> rfl

/-- What a beat leaves of the queue: every message aged, those that expire gone and counted (R85, R94). -/
theorem ageQueue_effect (s : State) :
    (ageQueue s).queue.messages
        = (s.queue.messages.filter fun m => !(m.news.ages && decide (15 ≤ m.age))).map Message.aged
      ∧ (s.counters.txExpired ≤ 255 → (ageQueue s).counters.txExpired
        = min 255 (s.counters.txExpired + (s.queue.messages.filter fun m => m.news.ages && decide (15 ≤ m.age)).length)) := by
  have hnot : (fun m : Message => !m.aged.expired) = fun m => !(m.news.ages && decide (15 ≤ m.age)) :=
    funext fun m => by rw [Message.aged_expired]
  have hyes : (fun m : Message => m.aged.expired) = fun m => m.news.ages && decide (15 ≤ m.age) :=
    funext Message.aged_expired
  refine ⟨?_, fun h => ?_⟩
  · have hqueue : (ageQueue s).queue = s.queue.age.1 := by simp [ageQueue]
    rw [hqueue, TxQueue.age]
    simp only [List.filter_map, Function.comp_def, hnot]
  · have hcount := bumpTimes_get_self .txExpired s.queue.age.2 (s := s.setQueue s.queue.age.1) h
    refine hcount.trans ?_
    simp only [TxQueue.age, List.filter_map, Function.comp_def, hyes, List.length_map]
    rfl

/-- Whether a frame is being sent. -/
def State.isSending (s : State) : Bool :=
  match s.loop.tx with
  | some r => r.outcome == .sending
  | none => false

theorem abandonTx_queue (s : State) :
    (abandonTx s).queue.messages = s.queue.messages.map fun m => { m with onLine := !s.isSending && m.onLine } := by
  cases h : s.loop.tx with
  | none => simp [abandonTx, State.isSending, h]
  | some r =>
    by_cases hr : r.outcome = .sending
    · simp [abandonTx, State.isSending, h, hr, TxQueue.backFromLine]
    · have hb : (r.outcome == .sending) = false := by simpa using hr
      simp [abandonTx, State.isSending, h, hr, hb]

/-- A beat abandons a frame still being sent, whose message waits again (R76, R92). -/
theorem restartSlots_queue (s : State) :
    (restartSlots s).queue.messages = s.queue.messages.map fun m => { m with onLine := !s.isSending && m.onLine } := by
  have htx : (endReception s).loop.tx = s.loop.tx := by
    unfold endReception
    split <;> simp
  have hsending : (endReception s).isSending = s.isSending := by simp only [State.isSending, htx]
  have hqueue : (restartSlots s).queue = (abandonTx (endReception s)).queue := by
    simp [restartSlots, clearSlot]
  rw [hqueue, abandonTx_queue, hsending]
  simp

/-! ### What marks ATTN leaves it marked -/

theorem setFault_attn (f : FaultName) (h : s.port.attn = true) : (setFault f s).port.attn = true := by
  unfold setFault
  split
  · exact h
  · rfl

theorem clearFault_attn (f : FaultName) (h : s.port.attn = true) : (clearFault f s).port.attn = true := by
  unfold clearFault
  split
  · rfl
  · exact h

theorem bump_attn (n : CounterName) (h : s.port.attn = true) : (bump n s).port.attn = true := by
  unfold bump
  dsimp only
  (repeat' split)
  · exact h
  · rfl
  · exact h

theorem bumpTimes_attn (n : CounterName) (k : Nat) (h : s.port.attn = true) : (bumpTimes n k s).port.attn = true := by
  induction k generalizing s with
  | zero => exact h
  | succ k ih => exact ih (bump_attn n h)

theorem enqueue_attn (n : News) (h : s.port.attn = true) : (enqueue n s).port.attn = true := by
  unfold enqueue
  dsimp only
  split
  · exact bump_attn _ h
  · exact h

theorem takeClaim_attn (after : List Entry) (h : s.port.attn = true) : (takeClaim after s).port.attn = true := by
  unfold takeClaim handSound handHead State.setPlaying
  (repeat' split) <;> simp [h, markAttn]

theorem moveRoster_attn (r : List RosterEntry) (h : s.port.attn = true) : (moveRoster r s).port.attn = true := by
  unfold moveRoster
  dsimp only
  (repeat' split)
  · exact h
  · exact setFault_attn _ h
  · exact clearFault_attn _ h
  · exact h

theorem restoreAction_attn (h : s.port.attn = true) : (restoreAction s).port.attn = true := by
  unfold restoreAction requestChirp originateRestore applyRestore
  exact enqueue_attn _ (takeClaim_attn _ (clearFault_attn _ (clearFault_attn _ (moveRoster_attn _ h))))

theorem keyMark_attn (h : s.port.attn = true) : (keyMark s).port.attn = true := by
  unfold keyMark
  (repeat' split)
  · exact h
  · exact restoreAction_attn h
  · exact h

theorem handBeat_attn (h : s.port.attn = true) : (handBeat s).port.attn = true := by
  have hslots : (restartSlots s).port.attn = true := by
    have hend : (endReception s).port.attn = true := by
      unfold endReception
      split
      · exact h
      · exact bump_attn _ h
    simpa [restartSlots] using hend
  have hqueue : (requestSupply (ageQueue (restartSlots s))).port.attn = true := by
    exact bumpTimes_attn _ _ (s := (restartSlots s).setQueue (restartSlots s).queue.age.1) hslots
  unfold handBeat handMark
  split
  · simpa using keyMark_attn hqueue
  · exact keyMark_attn (by simpa using hqueue)

/-! ### The second index of 0 -/

/-- The report of an index of 0 at a JOINING station (R191). -/
theorem indexZeroReport_of_joining (h : s.startup.station = .joining) :
    indexZeroReport s = if 1 ≤ s.startup.membership then
        { s with
          startup := { s.startup with membership := s.startup.membership + 1, station := .member }
          port := { s.port with attn := true } }
      else { s with startup := { s.startup with membership := s.startup.membership + 1 } } := by
  unfold indexZeroReport
  rw [if_pos h]
  dsimp only
  split
  · next hmany =>
    rw [if_pos (by omega)]
    rfl
  · next hfew =>
    rw [if_neg (by omega)]
    rfl

/-- The start-up controller after the report of an index of 0 at a JOINING station (R191). -/
theorem indexZeroReport_startup (h : s.startup.station = .joining) :
    (indexZeroReport s).startup = { s.startup with
      membership := s.startup.membership + 1
      station := if 1 ≤ s.startup.membership then .member else s.startup.station } := by
  rw [indexZeroReport_of_joining h]
  split <;> rfl

/-- A station that becomes MEMBER marks ATTN. -/
theorem indexZeroReport_attn_of_second (h : s.startup.station = .joining) (hm : 1 ≤ s.startup.membership) :
    (indexZeroReport s).port.attn = true := by
  rw [indexZeroReport_of_joining h, if_pos hm]

/-- A LOCKED unit's bar mark at an index that is not 0. -/
theorem recogniseBarMark_of_locked (hl : s.beat.lock = .locked) (h : s.beat.beatIndex ≠ 0#4) :
    recogniseBarMark s = indexZeroReport (s.setBeat { s.beat with
      measuring := false, phaseConfirmed := true, beatIndex := 0#4, barCount := s.beat.barCount + 1#8, strayTally := 0 }) := by
  unfold recogniseBarMark becomeZero
  dsimp only
  rw [if_neg h, if_pos (by exact hl)]
  rfl

theorem elapse_startup_of_joining (h : s.startup.station = .joining) (dt : Nat) : (s.elapse dt).startup = s.startup := by
  have hstill : (if s.startup.station = .starting then s.startup.stepTimer + dt else s.startup.stepTimer)
      = s.startup.stepTimer := if_neg (by rw [h]; decide)
  exact congrArg (fun timer => { s.startup with stepTimer := timer }) hstill

theorem startBeat_of_last {kind : BeatKind} (h : s.beat.beatIndex = 15#4) (hl : s.beat.lock = .locked) :
    startBeat kind s = indexZeroReport (s.setBeat (s.beat.begun kind)) := by
  have hzero : s.beat.beatIndex + 1#4 = 0#4 := (nextIndex_eq_zero _).2 h
  have hbegun : ({ s.beat with
      timer := 0, lastKind := kind, eighth := 0, beatIndex := s.beat.beatIndex + 1#4
      measuring := kind == .followed || kind == .own, barCount := s.beat.barCount + 1#8, strayTally := 0 } : BeatUnit)
      = s.beat.begun kind := by
    simp [BeatUnit.begun, h]
  unfold startBeat becomeZero
  dsimp only
  rw [if_pos (by exact hzero), if_pos (by exact hl), ← hbegun]
  rfl

/-- The state that a LOCKED beat hands on, whatever brings it. -/
theorem beatBy_locked {cause : BeatCause} (hl : s.beat.lock = .locked) (h : s.beatDue cause dt) :
    ∃ (u : State) (kind : BeatKind), beatBy cause (s.elapse dt) = handBeat (u.lockedHead kind) ∧ u.beat.lock = .locked
      ∧ u.beat.beatIndex = s.beat.beatIndex ∧ u.beat.barCount = s.beat.barCount
      ∧ u.startup = (s.elapse dt).startup ∧ u.port = s.port := by
  obtain ⟨hh, hcause⟩ := h
  cases cause with
  | expiry =>
    refine ⟨s.elapse dt, .own, ?_, hl, rfl, rfl, rfl, rfl⟩
    simp [beatBy, beatTimerExpiry, (beatExpired_elapse s dt).2 ⟨hh, hcause⟩, hl, lockedBeat_eq]
  | fall =>
    obtain ⟨hseen, hguard, hlate⟩ := hcause
    have htimer := mt (elapse_guarded hh dt).1 (by omega)
    have hearly := mt (elapse_early hh dt).1 (by have := hlate hl; omega)
    exact ⟨(s.elapse dt).fallen, .followed, (beatFall_of_seen hseen).trans
      (takeFall_locked (s := (s.elapse dt).fallen) hl htimer hearly), hl, rfl, rfl, rfl, rfl⟩

end Sys2Proof.Machine

open Sys2Proof Sys2Proof.Machine

/-- Settles O18, a clause for each thing that can happen in a low period. -/
theorem lowPeriodOfABeat : Obligations.LowPeriodOfABeat := by
  unfold Obligations.LowPeriodOfABeat
  intro after s
  refine ⟨fun m hmark hrun => congrArg Host.Outcome.next (markRelease_of_run hmark hrun),
    fun hmeasuring hlow hh hlong => ⟨barMark (s.elapse after), rfl, ?_⟩, fun hseen hshort => ?_, fun hunseen => ?_⟩
  · rw [barMark_of_due ((barMarkNow_elapse s after).2 ⟨hmeasuring, hlow, hh, hlong⟩)]
    refine ⟨recogniseBarMark_beat _, by simp⟩
  · have hnot : ¬ (s.elapse after).barMarkNow = true := by
      rw [barMarkNow_elapse]
      rintro ⟨hmeasuring, -, hh, hlong⟩
      rcases hshort with h | h | h
      · exact hh h
      · simp [h] at hmeasuring
      · omega
    exact congrArg Host.Outcome.next (beatRise_of_short ((seesBeatRise_elapse s after).2 hseen) hnot)
  · exact congrArg Host.Outcome.next (if_neg (mt (seesBeatRise_elapse s after).1 hunseen))

/-- Settles O19. -/
theorem beatLowForFortyMilliseconds : Obligations.BeatLowForFortyMilliseconds := by
  unfold Obligations.BeatLowForFortyMilliseconds
  intro after s hlow
  obtain ⟨htimer, hlow'⟩ := elapse_lowTimer hlow after
  refine ⟨fun hh hstuck hlong => ⟨beatStuck (s.elapse after), rfl, ?_⟩, fun hnot =>
    congrArg Host.Outcome.next (beatStuck_of_not (by rw [htimer]; exact hnot))⟩
  have hdue := beatStuck_of_due (s := s.elapse after) hlow' hh hstuck (by rw [htimer]; exact hlong)
  rw [hdue]
  by_cases hfree : s.beat.lock = .free
  · rw [if_pos (by exact hfree)]
    refine ⟨rfl, rfl, fun h => absurd hfree h, fun _ => ⟨rfl, rfl, rfl⟩, rfl, rfl, rfl, rfl⟩
  · rw [if_neg (by exact hfree)]
    have hbeat := enterFree_beat (s.elapse after).stuckFound
    have hstartup := enterFree_startup (s.elapse after).stuckFound
    simp only [enterFree_frame]
    rw [hbeat, hstartup]
    refine ⟨rfl, rfl, fun _ => ⟨rfl, rfl, rfl, rfl, rfl, rfl, rfl, fun hm r hr hsending => ?_⟩,
      fun h => absurd h hfree, rfl, rfl, rfl, rfl⟩
    have htx : (s.elapse after).stuckFound.loop.tx = some { r with bitTimer := r.bitTimer + after } := by
      simp [State.stuckFound, State.withFault, elapse_tx, hr]
    obtain ⟨hloop, hqueue⟩ := enterFree_of_sending (s := (s.elapse after).stuckFound) hm htx hsending
    rw [hloop, hqueue]
    exact ⟨rfl, rfl⟩

/-- Settles O22: the slots let the message go back before the queue ages. -/
theorem messagesExpireAtSixteenBeats : Obligations.MessagesExpireAtSixteenBeats := by
  unfold Obligations.MessagesExpireAtSixteenBeats
  intro after cause s hdue hchord hcount aging expires cut
  obtain ⟨u, hu, hkeeps, -⟩ := beat_handsOn hdue
  have hdue' : u.chordDue = false := by
    simpa [State.chordDue, hkeeps.keys] using chordDue_of_chordGoesOn (s := s) hchord
  obtain ⟨-, -, htable, hroster, hfaults, -, hqueue⟩ := handBeat_goes_on hdue'
  have hexpires : ∀ m : Message, (m.news.ages && decide (15 ≤ m.age)) = expires m := fun m => by
    simp only [expires, aging, News.ages_eq]
  have hnow : (s.elapse after).expiresNow cause = s.queue.messages.any expires := by
    simp only [State.expiresNow, (beatComes_elapse cause s after).2 hdue, Bool.true_and, elapse_frame,
      Message.aged_expired, hexpires]
  refine ⟨beatBy cause (s.elapse after), exec_beatCommand after cause s, ?_, ?_, ?_, ?_, ?_, fun hsome => ?_, fun hnone => ?_⟩
  · have hslots := restartSlots_queue u
    have hsending : u.isSending = cut := by
      simp only [State.isSending, hkeeps.loop, elapse_tx, cut]
      cases s.loop.tx <;> rfl
    rw [hu, hqueue, (ageQueue_effect _).1, hslots, hkeeps.queue, hsending]
    simp only [elapse_frame, List.filter_map, List.map_map, Function.comp_def, Message.aged_eq, News.ages_eq]
    refine List.map_congr_left fun m _ => ?_
    cases cut <;> rfl
  · have hkept : (beatBy cause (s.elapse after)).counters.txExpired
        = (ageQueue (restartSlots u)).counters.txExpired := by
      rw [hu, handBeat]
      exact handMark_get_of_ne (m := .txExpired) (by decide) (fun _ => by simp) _
    have hsame : (restartSlots u).counters.txExpired = s.counters.txExpired := by
      have hend : (endReception u).counters.get .txExpired = u.counters.get .txExpired := by
        unfold endReception
        split
        · rfl
        · rw [bump_get_of_ne (by split <;> decide)]
          rfl
      rw [hkeeps.counters] at hend
      have hcounted : (endReception u).counters.txExpired = s.counters.txExpired := hend
      simpa [restartSlots] using hcounted
    rw [hkept, (ageQueue_effect _).2 (by rw [hsame]; exact hcount), hsame, restartSlots_queue, hkeeps.queue]
    simp only [elapse_frame, List.filter_map, Function.comp_def, List.length_map, hexpires]
    rfl
  · rw [hu, htable, hkeeps.table, (elapse_frame after s).2.2.1]
  · rw [hu, hroster, hkeeps.roster]; simp
  · rw [hu, hfaults, hkeeps.faults]; simp
  · exact congrArg Host.Outcome.next (if_pos (hnow.trans (List.any_eq_true.2 hsome)))
  · have hfalse : ¬ (s.elapse after).expiresNow cause = true := by
      rw [hnow, List.any_eq_true]
      rintro ⟨m, hm, he⟩
      simp [hnone m hm] at he
    exact congrArg Host.Outcome.next (if_neg hfalse)

/-- Settles O23: the first index of 0 counts, the second makes a MEMBER, at a beat and at a bar mark alike. -/
theorem secondIndexZeroMakesAMember : Obligations.SecondIndexZeroMakesAMember := by
  unfold Obligations.SecondIndexZeroMakesAMember
  intro after s hjoining hl
  have hstill : (s.elapse after).startup = s.startup := elapse_startup_of_joining hjoining after
  refine ⟨fun cause hindex hdue => ?_, fun hindex hmeasuring hlow hlong hmany => ?_⟩
  · obtain ⟨u, kind, hbeat, hul, huindex, hubar, hustartup, huport⟩ := beatBy_locked hl hdue
    have hlast : u.beat.beatIndex = 15#4 := huindex.trans hindex
    have hustartup' : u.startup = s.startup := hustartup.trans hstill
    have hstartup : (u.lockedHead kind).startup = (indexZeroReport (u.setBeat (u.beat.begun kind))).startup := by
      simp [State.lockedHead, startBeat_of_last hlast hul]
    have hport : (u.lockedHead kind).port = (indexZeroReport (u.setBeat (u.beat.begun kind))).port := by
      simp [State.lockedHead, startBeat_of_last hlast hul]
    have hjoin := indexZeroReport_startup (s := u.setBeat (u.beat.begun kind)) (by simp [hustartup', hjoining])
    change _ = { u.startup with
      membership := u.startup.membership + 1
      station := if 1 ≤ u.startup.membership then .member else u.startup.station } at hjoin
    rw [hustartup'] at hjoin
    refine ⟨beatBy cause (s.elapse after), exec_beatCommand after cause s, ?_⟩
    have hthis : (beatBy cause (s.elapse after)).startup = { s.startup with
        membership := s.startup.membership + 1
        station := if 1 ≤ s.startup.membership then .member else s.startup.station } := by
      rw [hbeat, ← hjoin, ← hstartup]
      simp
    have hbegun : (beatBy cause (s.elapse after)).beat.beatIndex = u.beat.beatIndex + 1#4
        ∧ (beatBy cause (s.elapse after)).beat.barCount = u.beat.barCount + 1#8 := by
      simp [hbeat, lockedHead_beat, BeatUnit.begun, hlast]
    refine ⟨by rw [hthis], ?_, by rw [hbegun.2, hubar], fun hnone => by simp [hthis, hnone, hjoining],
      fun hmany => ⟨congrArg Host.Outcome.next (if_pos ?_), by simp [hthis, hmany], ?_⟩⟩
    · rw [hbegun.1, hlast]
      rfl
    · simp [State.joinsNow, State.zeroComes, hl, (beatComes_elapse cause s after).2 hdue, hindex, hstill, hjoining]
      omega
    · rw [hbeat]
      refine handBeat_attn ?_
      rw [hport]
      exact indexZeroReport_attn_of_second (by simp [hustartup', hjoining]) (by simpa [hustartup'] using hmany)
  · have hnow : (s.elapse after).barMarkNow = true :=
      (barMarkNow_elapse s after).2 ⟨hmeasuring, hlow, by simp [hl], hlong⟩
    have hjoins : (s.elapse after).joinsNow .barMark = true := by
      simp [State.joinsNow, State.zeroComes, hl, hnow, hindex, hstill, hjoining]
      omega
    refine congrArg Host.Outcome.next ((if_pos hjoins).trans ((barMark_of_due hnow).trans ?_))
    rw [recogniseBarMark_of_locked (by exact hl) (by exact hindex), indexZeroReport_of_joining (by exact hjoining),
      if_pos (by exact hmany)]
    rw [← hstill]
    rfl

end

section
/-! PROOFS. What a restore does, and the chord that originates one (chapters 2, 5, 6 and 8). O24. -/

namespace Sys2Proof.Machine

variable {s : State} {dt : Nat}

/-! ### The restore as one claim -/

/-- The station as the claim of a restore finds it: queue, inputs, roster and two faults are restored (R51). -/
def State.beforeRestoreClaim (s : State) : State :=
  let q := s.queue.without fun m =>
    match m.news with
    | .raise i _ => s.isHeld i
    | .clear _ _ | .silence | .restore => false
  clearFault .tableOverflow (clearFault .addressConflict
    (moveRoster (s.roster.map RosterEntry.restored) ((s.setQueue q).setInputs (s.inputs.map Input.restored))))

theorem applyRestore_eq (s : State) :
    applyRestore s = takeClaim (restoreEntries s.startup.ownAddr s.isHeld s.table) s.beforeRestoreClaim := rfl

theorem beforeRestoreClaim_frame (s : State) :
    s.beforeRestoreClaim.table = s.table ∧ s.beforeRestoreClaim.player = s.player
      ∧ s.beforeRestoreClaim.drive = s.drive ∧ s.beforeRestoreClaim.library = s.library := by
  simp [State.beforeRestoreClaim]

theorem request_elapse (dt : Nat) (s : State) (i : Nat) : ((s.elapse dt).input i).request = (s.input i).request :=
  elapse_input_request dt s i

/-- The entries that a restore leaves (R49, R50). -/
theorem restoreEntries_eq (s : State) :
    restoreEntries s.startup.ownAddr s.isHeld s.table = s.table.filterMap (fun e =>
      if e.origin = s.startup.ownAddr then (if (s.input e.input).request = .held then none else some e)
      else if e.state = .orphaned then none else some { e with state := .provisional, miss := 0 }) := by
  refine congrArg (fun f => s.table.filterMap f) (funext fun e => ?_)
  simp [Entry.restored, State.isHeld]

theorem applyRestore_table (s : State) :
    (applyRestore s).table = s.table.filterMap (fun e =>
      if e.origin = s.startup.ownAddr then (if (s.input e.input).request = .held then none else some e)
      else if e.state = .orphaned then none else some { e with state := .provisional, miss := 0 }) := by
  rw [applyRestore_eq, takeClaim_table, restoreEntries_eq]

theorem applyRestore_inputs (s : State) : (applyRestore s).inputs = s.inputs.map (fun x =>
    if x.request = .held then { x with request := .idle, posted := none } else x) := by
  simp only [applyRestore_eq, takeClaim_frame, State.beforeRestoreClaim, clearFault_frame, moveRoster_frame]
  rfl

theorem applyRestore_queue (s : State) : (applyRestore s).queue.messages = s.queue.messages.filter (fun m =>
    match m.news with
    | .raise i _ => (s.input i).request != .held
    | .clear _ _ | .silence | .restore => true) := by
  simp only [applyRestore_eq, takeClaim_frame, State.beforeRestoreClaim, clearFault_frame, moveRoster_frame]
  refine congrArg (fun f => s.queue.messages.filter f) (funext fun m => ?_)
  obtain ⟨news, _, _, _⟩ := m
  cases news <;> rfl

theorem applyRestore_roster (s : State) : (applyRestore s).roster = s.roster.map (fun e =>
    if e.state = .missing then { e with state := .unknown, miss := 0 } else e) := by
  simp only [applyRestore_eq, takeClaim_frame, State.beforeRestoreClaim, clearFault_frame, moveRoster_effect]
  rfl

/-- The fault set that a restore leaves takes two faults from what the roster's restore left of it (R51, R106). -/
theorem applyRestore_faults_of_roster (s : State) : (applyRestore s).faults
    = ((moveRoster (s.roster.map RosterEntry.restored) s).faults &&& ~~~FaultName.addressConflict.mask)
      &&& ~~~FaultName.tableOverflow.mask := by
  simp only [applyRestore_eq, takeClaim_frame, State.beforeRestoreClaim, clearFault_eq, State.withoutFault]
  unfold moveRoster
  dsimp only
  (repeat' split) <;> simp_all [setFault_eq, clearFault_eq, State.withFault, State.withoutFault]

theorem applyRestore_hasFault (s : State) :
    hasFault (applyRestore s).faults .addressConflict = false ∧ hasFault (applyRestore s).faults .tableOverflow = false := by
  rw [applyRestore_faults_of_roster]
  simp [hasFault_and]

/-- No station is MISSING after a restore (R102). -/
theorem anyMissing_restored (roster : List RosterEntry) : anyMissing (roster.map RosterEntry.restored) = false := by
  simp only [anyMissing, List.any_map, List.any_eq_false, Function.comp_apply, beq_iff_eq, RosterEntry.restored]
  intro e _
  split <;> simp_all

/-- ADDRESS_CONFLICT, TABLE_OVERFLOW and PEER_MISSING are clear after a restore, and no other fault moves (R51, R105, R106). -/
theorem applyRestore_faults (h : hasFault s.faults .peerMissing = anyMissing s.roster) :
    (applyRestore s).faults = s.faults &&& 0x7C#8 := by
  have hroster : (moveRoster (s.roster.map RosterEntry.restored) s).faults
      = s.faults &&& ~~~FaultName.peerMissing.mask := by
    unfold moveRoster
    simp only [anyMissing_restored]
    cases hm : anyMissing s.roster with
    | true => simp [clearFault_eq, State.withoutFault]
    | false => simpa using (faults_and_mask .peerMissing s.faults (h.trans hm)).symm
  rw [applyRestore_faults_of_roster, hroster, BitVec.and_assoc, BitVec.and_assoc]
  rfl

/-- A restore hands on its claim (R28, R29). -/
theorem applyRestore_handsOn (s : State) : s.handsOn (applyRestore s) := by
  have hands := takeClaim_handsOn (restoreEntries s.startup.ownAddr s.isHeld s.table) s.beforeRestoreClaim
  rw [← applyRestore_eq] at hands
  obtain ⟨htable, hplayer, hdrive, hlibrary⟩ := beforeRestoreClaim_frame s
  simpa only [State.handsOn, htable, hplayer, hdrive, hlibrary] using hands

/-! ### The restore of a chord -/

/-- What a restore originated by the keys leaves, from `s` to `t`: keys, table, inputs, roster, faults and queue (R51, R167). -/
structure Restores (s t : State) : Prop where
  spent : t.keys.state = .spent
  table : t.table = s.table.filterMap (fun e =>
    if e.origin = s.startup.ownAddr then (if (s.input e.input).request = .held then none else some e)
    else if e.state = .orphaned then none else some { e with state := .provisional, miss := 0 })
  inputs : t.inputs = s.inputs.map (fun x => if x.request = .held then { x with request := .idle, posted := none } else x)
  roster : t.roster = s.roster.map (fun e => if e.state = .missing then { e with state := .unknown, miss := 0 } else e)
  conflict : hasFault t.faults .addressConflict = false
  overflow : hasFault t.faults .tableOverflow = false
  waits : s.queue.messages.length < 6 → ∃ m ∈ t.queue.messages, m.news = .restore

/-- A RESTORE finds its place in a queue that is not full (R78, R82). -/
theorem enqueue_restore_waits (h : s.queue.messages.length < 6) :
    ∃ m ∈ (enqueue .restore s).queue.messages, m.news = .restore := by
  have hqueue : (enqueue .restore s).queue = (s.queue.join .restore).1 := by
    unfold enqueue
    dsimp only
    split <;> simp
  rw [hqueue]
  unfold TxQueue.join
  dsimp only
  split
  · next hany =>
    obtain ⟨m, hm, hnews⟩ := List.any_eq_true.1 hany
    exact ⟨m, hm, by simpa using hnews⟩
  · rw [admit_room .restore s.queue h]
    exact ⟨_, (placeMessage_perm _ _).mem_iff.2 (List.mem_cons_self ..), rfl⟩

/-- The station as the restore of a chord finds it: the keys are spent (R167). -/
def State.spent (s : State) : State := s.setKeys { s.keys with state := .spent, hold := chordMarks }

/-- A chord's restore is a restore originated with the keys spent, and a chirp request after it (R167, R169). -/
theorem restoreAction_leaves (s : State) :
    (restoreAction s).keys = s.spent.keys ∧ (restoreAction s).table = (applyRestore s.spent).table
      ∧ (restoreAction s).inputs = (applyRestore s.spent).inputs ∧ (restoreAction s).roster = (applyRestore s.spent).roster
      ∧ (restoreAction s).faults = (applyRestore s.spent).faults
      ∧ (restoreAction s).queue = (enqueue .restore (applyRestore s.spent)).queue
      ∧ (restoreAction s).player = (applyRestore s.spent).player
      ∧ (restoreAction s).drive = (applyRestore s.spent).drive.chirpRequest := by
  have h : restoreAction s = requestChirp (enqueue .restore (applyRestore s.spent)) := rfl
  rw [h]
  simp [requestChirp]

theorem restoreAction_restores (s : State) : Restores s (restoreAction s) := by
  obtain ⟨hkeys, htable, hinputs, hroster, hfaults, hqueue, -, -⟩ := restoreAction_leaves s
  obtain ⟨hconflict, hoverflow⟩ := applyRestore_hasFault s.spent
  exact {
    spent := by rw [hkeys]; rfl
    table := htable.trans (applyRestore_table s.spent)
    inputs := hinputs.trans (applyRestore_inputs s.spent)
    roster := hroster.trans (applyRestore_roster s.spent)
    conflict := by rw [hfaults, hconflict]
    overflow := by rw [hfaults, hoverflow]
    waits := fun h => by
      rw [hqueue]
      refine enqueue_restore_waits ?_
      rw [applyRestore_queue]
      exact lt_of_le_of_lt (List.length_filter_le _ _) h }

/-- The blocks that a restore reads and the player does not touch. -/
structure RestoreKeeps (s t : State) : Prop where
  keys : t.keys = s.keys
  table : t.table = s.table
  inputs : t.inputs = s.inputs
  roster : t.roster = s.roster
  faults : t.faults = s.faults
  own : t.startup.ownAddr = s.startup.ownAddr
  queue : t.queue.messages.length ≤ s.queue.messages.length
  waits : (∃ m ∈ s.queue.messages, m.news = .restore) → ∃ m ∈ t.queue.messages, m.news = .restore

theorem playerMark_restoreKeeps (s : State) : RestoreKeeps s (playerMark s) := by
  constructor <;> simp

theorem playerBeat_restoreKeeps (s : State) : RestoreKeeps s (playerBeat s) := by
  constructor <;> simp

theorem Restores.of_keeps {s t u : State} (hinputs : t.inputs = s.inputs) (htable : t.table = s.table)
    (hroster : t.roster = s.roster) (hown : t.startup.ownAddr = s.startup.ownAddr)
    (hqueue : t.queue.messages.length ≤ s.queue.messages.length) (h : Restores t u) : Restores s u where
  spent := h.spent
  table := by
    have hinput : t.input = s.input := by unfold State.input; rw [hinputs]
    rw [h.table, htable, hown, hinput]
  inputs := by rw [h.inputs, hinputs]
  roster := by rw [h.roster, hroster]
  conflict := h.conflict
  overflow := h.overflow
  waits := fun hfew => h.waits (lt_of_le_of_lt hqueue hfew)

theorem Restores.then_keeps {s t u : State} (h : Restores s t) (hk : RestoreKeeps t u) : Restores s u where
  spent := by rw [hk.keys]; exact h.spent
  table := hk.table.trans h.table
  inputs := hk.inputs.trans h.inputs
  roster := hk.roster.trans h.roster
  conflict := by rw [hk.faults]; exact h.conflict
  overflow := by rw [hk.faults]; exact h.overflow
  waits := fun hfew => hk.waits (h.waits hfew)

/-- A mark that completes a chord, in either order of the player and the key unit (R20, R167). -/
theorem handMark_due {part : State → State} (hpart : ∀ t, (part t).keys = t.keys) (h : s.chordDue = true) :
    handMark part s = part (restoreAction s) ∨ handMark part s = restoreAction (part s) := by
  have hkey : ∀ t : State, t.keys = s.keys → keyMark t = restoreAction t := fun t ht => by
    obtain ⟨hchord, hmany⟩ : s.keys.state = .chord ∧ chordMarks ≤ s.keys.hold + 1 := by simpa [State.chordDue] using h
    rw [keyMark, ht, if_neg (by simp [hchord]), if_pos hmany]
  unfold handMark
  split
  · exact .inl (congrArg part (hkey s rfl))
  · exact .inr (hkey _ (hpart s))

theorem handMark_restores {part : State → State} (hpart : ∀ t, RestoreKeeps t (part t)) (h : s.chordDue = true) :
    Restores s (handMark part s) := by
  rcases handMark_due (fun t => (hpart t).keys) h with heq | heq
  · rw [heq]
    exact (restoreAction_restores s).then_keeps (hpart _)
  · rw [heq]
    have hk := hpart s
    exact (restoreAction_restores (part s)).of_keeps hk.inputs hk.table hk.roster hk.own hk.queue

/-- The end of a beat's low period does not matter to the queue's length: the slots keep it and ageing only takes away. -/
theorem agedQueue_length (u : State) : (ageQueue (restartSlots u)).queue.messages.length ≤ u.queue.messages.length := by
  rw [(ageQueue_effect _).1, List.length_map]
  refine le_trans (List.length_filter_le _ _) ?_
  rw [restartSlots_queue, List.length_map]

theorem handBeat_restores {u : State} (h : u.chordDue = true) : Restores u (handBeat u) := by
  have hdue : (requestSupply (ageQueue (restartSlots u))).chordDue = true := by simpa [State.chordDue] using h
  exact (handMark_restores playerBeat_restoreKeeps hdue).of_keeps (by simp) (by simp) (by simp) (by simp)
    (by simpa using agedQueue_length u)

/-- The station as an eighth mark within a beat is handed on: the eighths are counted (R20). -/
def State.nextEighth (s : State) : State := s.setBeat { s.beat with eighth := s.beat.eighth + 1 }

theorem eighthBy_mark (hdue : s.eighthIsDue .mark dt) :
    eighthBy .mark (s.elapse dt) = handMark playerMark (s.elapse dt).nextEighth :=
  if_pos ((eighthDue_elapse s dt).2 hdue)

theorem eighthBy_restores {cause : EighthCause} (hdue : s.eighthIsDue cause dt) (hchord : (s.elapse dt).chordDue = true) :
    Restores (s.elapse dt) (eighthBy cause (s.elapse dt)) := by
  cases cause with
  | mark =>
    rw [eighthBy_mark hdue]
    exact Restores.of_keeps (t := (s.elapse dt).nextEighth) rfl rfl rfl rfl le_rfl
      (handMark_restores playerMark_restoreKeeps hchord)
  | beat c =>
    obtain ⟨u, hu, hkeeps, -⟩ := beat_handsOn (cause := c) hdue
    have heq : eighthBy (.beat c) (s.elapse dt) = handBeat u := hu
    rw [heq]
    exact (handBeat_restores (by simpa [State.chordDue, hkeeps.keys] using hchord)).of_keeps hkeeps.inputs hkeeps.table
      hkeeps.roster hkeeps.own (by rw [hkeeps.queue])

/-! ### The sounder at a chord's last mark -/

/-- A claim outside TEST, and one that leaves the head, touch the sounder only where the pattern's sound ends (R127, R131). -/
theorem takeClaim_playing {s : State} {after : List Entry} (h : s.player.mode ≠ .test ∨ headOf s.table = headOf after) :
    (takeClaim after s).player.mode = s.player.mode
      ∧ (takeClaim after s).drive = (if s.player.sound && !unsilencedPresent after
          && (s.player.mode == .intro || s.player.mode == .cycle) then s.drive.withdrawPattern else s.drive) := by
  have hhead : (handHead s.table (s.setTable after)).player.mode = s.player.mode
      ∧ (handHead s.table (s.setTable after)).drive = s.drive
      ∧ (handHead s.table (s.setTable after)).player.sound = s.player.sound
      ∧ (handHead s.table (s.setTable after)).table = after := by
    refine ⟨?_, ?_, (handHead_effect _ _).1, by simp⟩
    all_goals
      unfold handHead
      split
      · rfl
      · next hne =>
        have hm := h.resolve_right hne
        simp only [Playing.headChange, State.setPlaying, State.playing, markAttn_frame, State.setTable_player]
        split <;> simp [hm]
  obtain ⟨hmode, hdrive, hsound, htable⟩ := hhead
  obtain ⟨hp, hd, -⟩ := handSound_effect (handHead s.table (s.setTable after))
  refine ⟨by rw [takeClaim, hp, hmode], ?_⟩
  rw [takeClaim, hd, hmode, hdrive, hsound, htable]

/-- The player and the sounder after a chord's restore, where no output test is ended by it (R28, R29, R142). -/
theorem restoreAction_playing {w : State} (h : w.player.mode ≠ .test ∨ headOf w.table = headOf (restoreAction w).table) :
    (restoreAction w).player.mode = w.player.mode ∧ (restoreAction w).player.current = w.player.current
      ∧ (restoreAction w).player.sound = unsilencedPresent (restoreAction w).table
      ∧ (restoreAction w).drive = (if w.player.sound && !unsilencedPresent (restoreAction w).table
          && (w.player.mode == .intro || w.player.mode == .cycle) then w.drive.withdrawPattern else w.drive).chirpRequest
      ∧ ((restoreAction w).table ≠ [] → w.player.wanted ≠ none → (restoreAction w).player.wanted ≠ none) := by
  obtain ⟨-, htable, -, -, -, -, hplayer, hdrive⟩ := restoreAction_leaves w
  obtain ⟨hhead, hsound, -, hcurrent, -⟩ := applyRestore_handsOn w.spent
  obtain ⟨hftable, hfplayer, hfdrive, -⟩ := beforeRestoreClaim_frame w.spent
  have hafter : (restoreAction w).table = restoreEntries w.spent.startup.ownAddr w.spent.isHeld w.spent.table := by
    rw [htable, applyRestore_eq, takeClaim_table]
  have hplaying := takeClaim_playing (s := w.spent.beforeRestoreClaim) (after := (restoreAction w).table)
    (by rw [hfplayer, hftable]; exact h)
  rw [hafter, ← applyRestore_eq, ← hafter, hfplayer, hfdrive] at hplaying
  refine ⟨by rw [hplayer]; exact hplaying.1, by rw [hplayer]; exact hcurrent, by rw [hplayer, hsound, ← htable]; rfl,
    by rw [hdrive]; exact congrArg Drive.chirpRequest hplaying.2, fun hne hw => ?_⟩
  rw [hplayer]
  split at hhead
  · rw [hhead.1]
    exact hw
  · obtain ⟨-, -, hsome⟩ := hhead
    rw [htable] at hne
    obtain ⟨e, rest, he⟩ := List.exists_cons_of_ne_nil hne
    rw [(hsome e rest he).1]
    simp

/-- A chirp begins, or starts its timer again, where the sounder is free (R142). -/
theorem chirpRequest_free {d : Drive} (hq : d.quiescent = false) (hs : d.source = .none ∨ d.source = .chirp) :
    d.chirpRequest.source = .chirp ∧ d.chirpRequest.chirpTimer = some 0
      ∧ (d.source = .none → d.chirpRequest.tone = 10 ∧ d.chirpRequest.envelopeLevel = 1)
      ∧ d.chirpRequest.quiescent = false := by
  rcases hs with hs | hs <;>
    simp [Drive.chirpRequest, Drive.producing, hq, hs, Drive.setTone, chirpTone, envelopeLevelOf]

/-- A chirp request while tone is produced is dropped (R142). -/
theorem chirpRequest_dropped {d : Drive} (h : d.producing = true) : d.chirpRequest = d := by
  simp [Drive.chirpRequest, h]

/-- A SILENT mark at a sounder that is free or chirps (R129, R141). -/
theorem Playing.silentMark_free {g : Playing} (hq : g.drive.quiescent = false)
    (hs : g.drive.source = .none ∨ g.drive.source = .chirp) :
    g.silentMark.drive.source = g.drive.source ∧ g.silentMark.drive.tone = g.drive.tone
      ∧ g.silentMark.drive.envelopeLevel = g.drive.envelopeLevel ∧ g.silentMark.drive.chirpTimer = g.drive.chirpTimer
      ∧ g.silentMark.drive.quiescent = false := by
  obtain ⟨hsource, htone, -, henv, -, htimer, -⟩ := handIntensity_sounder g.drive 0
  have hq' : (g.drive.handIntensity 0).quiescent = false := by simpa using hq
  have hmark : g.silentMark.drive = g.drive.handIntensity 0 ∨
      g.silentMark.drive = { g.drive.handIntensity 0 with behind := none } := by
    rcases hs with hs | hs
    · left
      simp [Playing.silentMark, Drive.silentMark, hsource.trans hs]
    · right
      exact (silentMark_sounder hq').2.2 (hsource.trans hs)
  rcases hmark with hmark | hmark <;> rw [hmark] <;> exact ⟨hsource, htone, henv, htimer, hq'⟩

/-- The mark that ends a chord in SILENT, with the sounder free: the chirp begins, in either order (R129, R142). -/
theorem chordEnds_in_silence {u : State} (hdue : u.chordDue = true) (hm : u.player.mode = .silent)
    (hq : u.drive.quiescent = false) (hs : u.drive.source = .none ∨ u.drive.source = .chirp) :
    (handMark playerMark u).drive.source = .chirp ∧ (handMark playerMark u).drive.chirpTimer = some 0
      ∧ (u.drive.source = .none →
          (handMark playerMark u).drive.tone = 10 ∧ (handMark playerMark u).drive.envelopeLevel = 1) := by
  have hmark : ∀ w : State, w.player.mode = .silent →
      (playerMark w).drive = w.playing.silentMark.drive ∧ (playerMark w).player.mode = .silent := fun w hw => by
    have h := Playing.mark_of_silent (g := w.playing) hw w.library w.clock
    simp only [playerMark, State.setPlaying, h]
    exact ⟨rfl, hw⟩
  have hrestore : ∀ w : State, w.player.mode = .silent →
      (restoreAction w).drive = w.drive.chirpRequest ∧ (restoreAction w).player.mode = .silent := fun w hw => by
    obtain ⟨hmode, -, -, hdrive, -⟩ := restoreAction_playing (w := w) (.inl (by simp [hw]))
    exact ⟨by simpa [hw] using hdrive, hmode.trans hw⟩
  rcases handMark_due (part := playerMark) (fun t => by simp) hdue with heq | heq
  · obtain ⟨hdrive, hmode⟩ := hrestore u hm
    obtain ⟨hsource, htimer, htone, hq'⟩ := chirpRequest_free hq hs
    obtain ⟨ksource, ktone, kenv, ktimer, -⟩ := Playing.silentMark_free (g := (restoreAction u).playing)
      (by rw [show (restoreAction u).playing.drive = _ from hdrive]; exact hq')
      (.inr (by rw [show (restoreAction u).playing.drive = _ from hdrive]; exact hsource))
    have hd : (restoreAction u).playing.drive = u.drive.chirpRequest := hdrive
    rw [heq, (hmark _ hmode).1, ksource, ktone, kenv, ktimer, hd]
    exact ⟨hsource, htimer, htone⟩
  · obtain ⟨hdrive, hmode⟩ := hmark u hm
    obtain ⟨ksource, ktone, kenv, ktimer, kq⟩ := Playing.silentMark_free (g := u.playing) hq hs
    have ksource' : u.playing.silentMark.drive.source = u.drive.source := ksource
    obtain ⟨hsource, htimer, htone, -⟩ := chirpRequest_free kq (by rw [ksource']; exact hs)
    rw [heq, (hrestore _ hmode).1, hdrive]
    exact ⟨hsource, htimer, fun hn => htone (ksource'.trans hn)⟩

/-- The mark that ends a chord while the test tone plays over an empty table: the tone goes on, in either order (R130, R142). -/
theorem chordEnds_in_test {u : State} (hdue : u.chordDue = true) (hm : u.player.mode = .test) (htable : u.table = [])
    (hq : u.drive.quiescent = false) :
    (handMark playerMark u).drive.source = .test ∧ (handMark playerMark u).drive.tone = 7
      ∧ (handMark playerMark u).drive.chirpTimer = none := by
  have hmark : ∀ w : State, w.player.mode = .test → w.drive.quiescent = false →
      (playerMark w).drive.source = .test ∧ (playerMark w).drive.tone = 7 ∧ (playerMark w).drive.chirpTimer = none
        ∧ (playerMark w).player.mode = .test := fun w hw hwq => by
    have h := Playing.mark_of_test (g := w.playing) hw w.library w.clock
    obtain ⟨hsource, htone, -, -, htimer, -⟩ := Playing.testMark_drive (g := w.playing) hwq (w.player.stepOffset + 1)
    simp only [playerMark, State.setPlaying, h]
    exact ⟨hsource, htone, htimer, hw⟩
  have hrestore : ∀ w : State, w.player.mode = .test → w.table = [] →
      (restoreAction w).drive = w.drive.chirpRequest ∧ (restoreAction w).player.mode = .test := fun w hw ht => by
    have hnone : (restoreAction w).table = [] := by rw [(restoreAction_restores w).table, ht]; rfl
    obtain ⟨hmode, -, -, hdrive, -⟩ := restoreAction_playing (w := w) (.inr (by rw [ht, hnone]))
    exact ⟨by simpa [hw] using hdrive, hmode.trans hw⟩
  rcases handMark_due (part := playerMark) (fun t => by simp) hdue with heq | heq
  · obtain ⟨hdrive, hmode⟩ := hrestore u hm htable
    obtain ⟨hsource, htone, htimer, -⟩ := hmark (restoreAction u) hmode (by simpa [hdrive] using hq)
    rw [heq]
    exact ⟨hsource, htone, htimer⟩
  · obtain ⟨hsource, htone, htimer, hmode⟩ := hmark u hm hq
    have hproducing : (playerMark u).drive.producing = true := by simp [Drive.producing, hsource]
    rw [heq, (hrestore _ hmode (by simpa using htable)).1, chirpRequest_dropped hproducing]
    exact ⟨hsource, htone, htimer⟩

theorem restoreAction_table (w : State) :
    (restoreAction w).table = restoreEntries w.startup.ownAddr w.isHeld w.table := by
  rw [(restoreAction_restores w).table, restoreEntries_eq]

/-- An entry that a restore leaves keeps its silenced flag (R50). -/
theorem unsilencedPresent_restored {own : Nat} {held : Nat → Bool} {table : List Entry} {e : Entry} (he : e ∈ table)
    (hloud : e.silenced = false)
    (hstays : if e.origin = own then held e.input = false else e.state ≠ .orphaned) :
    unsilencedPresent (restoreEntries own held table) = true := by
  have hsome : ∃ e', e.restored own held = some e' ∧ e'.silenced = false := by
    unfold Entry.restored
    by_cases hown : e.origin = own
    · rw [if_pos hown] at hstays
      exact ⟨e, by simp [hown, hstays], hloud⟩
    · rw [if_neg hown] at hstays
      exact ⟨{ e with state := .provisional, miss := 0 }, by simp [hown, hstays], hloud⟩
  obtain ⟨e', he', hloud'⟩ := hsome
  exact List.any_eq_true.2 ⟨e', List.mem_filterMap.2 ⟨e, he, he'⟩, by simp [hloud']⟩

theorem envelopeLevelOf_ne_zero {volume : Nat} (h : volume ≠ 0) (e : Envelope) (offset : Nat) :
    envelopeLevelOf volume e offset ≠ 0 := by
  cases e <;> simp only [envelopeLevelOf, h, if_false] <;> omega

/-- A tone that the sounder takes up in CYCLE is produced (R124, R140). -/
theorem playerMark_sounds {w : State} {p : Nat} {st : Step} {offset : Nat} (hm : w.player.mode = .cycle)
    (hw : w.player.wanted ≠ none) (hs : w.player.sound = true) (hp : w.player.current = some p)
    (hq : w.drive.quiescent = false)
    (hspan : spanAt (w.library.cycle p) (cyclePosition (w.library.bars p) w.clock) = some (st, offset))
    (htone : st.tone ≠ 0) (hvol : st.volume ≠ 0) :
    (playerMark w).drive.source = .pattern ∧ (playerMark w).drive.tone = st.tone ∧ (playerMark w).drive.producing = true
      ∧ (playerMark w).player = { w.player with stepOffset := offset } := by
  have henv := envelopeLevelOf_ne_zero hvol st.envelope offset
  have hmark : w.playing.mark w.library w.clock = w.playing.hand st offset := by
    rw [Playing.mark_of_cycle hw hm hp, Playing.cycleMark, hspan]
  obtain ⟨hsource, htone', -, -, -, hlevel⟩ := Playing.hand_taken (g := w.playing) (st := st) (offset := offset) hq hs rfl
    (.inr ⟨htone, henv⟩)
  simp only [playerMark, State.setPlaying, hmark]
  refine ⟨hsource, htone', ?_, rfl⟩
  have hloud : (w.playing.hand st offset).drive.level ≠ 0 := by
    split at hlevel
    · next hgoes =>
      rw [hlevel.1]
      exact hgoes.2.1
    · rw [hlevel.1, ne_eq, Drive.capped_eq_zero]
      exact henv
  simp only [Drive.producing, State.setDrive_drive, hsource, Drive.sounding, htone', Bool.and_eq_true, bne_iff_ne]
  exact ⟨htone, hloud⟩

/-- The mark that ends a chord while a pattern sounds: its tone is handed, and no chirp, in either order (R124, R142). -/
theorem chordEnds_in_cycle {u : State} {p : Nat} {st : Step} {offset : Nat} (hdue : u.chordDue = true)
    (hm : u.player.mode = .cycle) (hw : u.player.wanted ≠ none) (hs : u.player.sound = true)
    (hpresent : unsilencedPresent (restoreEntries u.startup.ownAddr u.isHeld u.table) = true)
    (hp : u.player.current = some p) (hq : u.drive.quiescent = false)
    (hspan : spanAt (u.library.cycle p) (cyclePosition (u.library.bars p) u.clock) = some (st, offset))
    (htone : st.tone ≠ 0) (hvol : st.volume ≠ 0) :
    (handMark playerMark u).drive.source = .pattern ∧ (handMark playerMark u).drive.tone = st.tone := by
  rcases handMark_due (part := playerMark) (fun t => by simp) hdue with heq | heq
  · obtain ⟨hmode, hcurrent, hsound, hdrive, hwanted⟩ := restoreAction_playing (w := u) (.inl (by simp [hm]))
    have hne : (restoreAction u).table ≠ [] := by
      rw [restoreAction_table]
      rintro hnil
      rw [hnil] at hpresent
      exact absurd hpresent (by decide)
    obtain ⟨hsource, htone', -⟩ := playerMark_sounds (w := restoreAction u) (hmode.trans hm) (hwanted hne hw)
      (by rw [hsound, restoreAction_table]; exact hpresent) (hcurrent.trans hp)
      (by rw [hdrive]; split <;> simpa using hq) (by simpa [State.clock] using hspan) htone hvol
    rw [heq]
    exact ⟨hsource, htone'⟩
  · obtain ⟨hsource, htone', hproducing, hplayer⟩ := playerMark_sounds hm hw hs hp hq hspan htone hvol
    have hpresent' : unsilencedPresent (restoreAction (playerMark u)).table = true := by
      rw [restoreAction_table]
      have hheld : (playerMark u).isHeld = u.isHeld := by
        funext i
        simp [State.isHeld, State.input]
      simpa [hheld] using hpresent
    obtain ⟨-, -, -, hdrive, -⟩ := restoreAction_playing (w := playerMark u) (.inl (by simp [hplayer, hm]))
    rw [hpresent', Bool.not_true, Bool.and_false, Bool.false_and, if_neg (by simp), chirpRequest_dropped hproducing] at hdrive
    rw [heq, hdrive]
    exact ⟨hsource, htone'⟩

end Sys2Proof.Machine

open Sys2Proof Sys2Proof.Machine

/-- Settles O24: in either order of the player and the key unit at the mark that ends the chord. -/
theorem chordOfSixtyFourEighthsRestores : Obligations.ChordOfSixtyFourEighthsRestores := by
  unfold Obligations.ChordOfSixtyFourEighthsRestores
  intro after cause s hdue hchord
  refine ⟨fun hfew => ?_, fun hmany => ?_⟩
  · obtain ⟨-, htable, -, hroster, hinputs, hkeys, -⟩ := eighthBy_goes_on (cause := cause) hdue (fun _ => hfew)
    refine ⟨_, exec_eighthCommand after cause s, ?_, htable, hroster, hinputs, ?_⟩
    · rw [hkeys, State.keysCounted, if_pos hchord]
    · rintro rfl
      have hon : (s.elapse after).nextEighth.chordDue = false := chordDue_of_chordGoesOn (s := s.elapse after) fun _ => hfew
      rw [eighthBy_mark hdue, handMark_goes_on hon (by simp)]
      simp [State.nextEighth]
  · have hends : (s.elapse after).chordDue = true := by
      simp [State.chordDue, hchord, chordMarks]
      omega
    have hnow : (s.elapse after).restoresNow cause = true := by
      rw [State.restoresNow, (eighthComes_elapse cause s after).2 hdue, hends]
      rfl
    have hr := eighthBy_restores hdue hends
    refine ⟨_, exec_eighthCommand after cause s, congrArg Host.Outcome.next (if_pos hnow), hr.spent, ?_, hr.inputs, hr.roster,
      hr.conflict, hr.overflow, hr.waits, ?_⟩
    · simpa only [request_elapse, elapse_frame, elapse_startup] using hr.table
    · rintro rfl hq
      rw [eighthBy_mark hdue]
      refine ⟨fun hm hs => ?_, fun hm htable => ?_, fun hm hw hs hpresent p hp st offset hspan htone hvol => ?_⟩
      · exact chordEnds_in_silence (u := (s.elapse after).nextEighth) hends hm hq hs
      · exact chordEnds_in_test (u := (s.elapse after).nextEighth) hends hm htable hq
      · refine chordEnds_in_cycle (u := (s.elapse after).nextEighth) (p := p) (offset := offset) hends hm hw hs ?_ hp hq hspan
          htone hvol
        obtain ⟨e, he, hloud, hstays⟩ := hpresent
        refine unsilencedPresent_restored he hloud ?_
        have hheld : (s.elapse after).nextEighth.isHeld e.input = s.isHeld e.input :=
          congrArg (· == RequestState.held) (request_elapse after s e.input)
        have hstays' : if e.origin = s.startup.ownAddr then s.isHeld e.input = false else e.state ≠ .orphaned := by
          simpa [State.isHeld] using hstays
        rw [hheld]
        exact hstays'

end

section
/-! PROOFS. The slots of a beat, the frames that begin in them, and the pass at a slot's end (chapters 3, 4 and 5). O25, O26 and
O27. -/

namespace Sys2Proof.Machine

variable {s : State} {dt : Nat}

theorem elapse_slotTimer (h : s.running = true) (dt : Nat) : (s.elapse dt).loop.slotTimer = s.loop.slotTimer + dt := by
  simp [State.elapse, Transceiver.elapse, h]

/-! ### A slot begins -/

theorem mayBegin_iff : s.mayBegin = true ↔ s.startup.station = .member ∧ s.pins.dataLow = false ∧ s.loop.rx = none := by
  simp [State.mayBegin, State.isMember, and_assoc]

/-- A slot begins with its owner, and with the STATUS where it is the station's own, the station may begin a frame, and the
start window is open (R57, R73, R74). -/
theorem slotBegin_of_due {sl : Slot} (hpart : s.loop.part.nextSlot = some sl) (hr : s.running = true)
    (ht : sl.begins ≤ s.loop.slotTimer) :
    slotBegin s = { s with loop := { s.loop with
      part := sl.part
      owner := sl.ownerAt s.beat.beatIndex
      tx := if sl.ownerAt s.beat.beatIndex = some s.startup.ownAddr ∧ s.startup.station = .member
          ∧ s.pins.dataLow = false ∧ s.loop.rx = none ∧ s.loop.slotTimer ≤ sl.begins + 4000 then
        some ⟨sl, (statusFrame s).bytes, 0, 0, 0, false, .sending⟩ else s.loop.tx } } := by
  have hbegin : slotBegin s
      = sendStatus sl (s.setLoop { s.loop with part := sl.part, owner := sl.ownerAt s.beat.beatIndex }) := by
    simp only [slotBegin, hpart]
    exact if_pos ⟨ht, hr⟩
  have hwindow : sl.startsAt s.loop.slotTimer = true ↔ s.loop.slotTimer ≤ sl.begins + 4000 := by
    rw [Slot.startsAt, Bool.and_eq_true, decide_eq_true_iff, decide_eq_true_iff]
    exact and_iff_right ht
  rw [hbegin]
  by_cases h : sl.ownerAt s.beat.beatIndex = some s.startup.ownAddr ∧ s.startup.station = .member
      ∧ s.pins.dataLow = false ∧ s.loop.rx = none ∧ s.loop.slotTimer ≤ sl.begins + 4000
  · rw [if_pos h]
    obtain ⟨howner, hm, hlow, hrx, hopen⟩ := h
    exact if_pos ⟨howner, mayBegin_iff.2 ⟨hm, hlow, hrx⟩, hwindow.2 hopen⟩
  · rw [if_neg h]
    refine if_neg fun hsends => h ?_
    obtain ⟨howner, hmay, hopen⟩ := hsends
    obtain ⟨hm, hlow, hrx⟩ := mayBegin_iff.1 hmay
    exact ⟨howner, hm, hlow, hrx, hwindow.1 hopen⟩

/-- The items of the station's STATUS stand in the order of the inputs (R73). -/
theorem ownItems_eq (own : Nat) (table : List Entry) :
    (ownEntries own table).map Entry.item = (List.range 12).filterMap fun i =>
      (table.find? fun e => e.origin == own && e.input == i).map fun e =>
        (⟨e.input, e.cue, e.priority, e.latched, e.silenced⟩ : Item) := by
  rw [ownEntries, List.map_filterMap]
  rfl

/-! ### The attempt in the open slot -/

/-- The moment of the station's own 20 ms in the open slot (R87). -/
def State.atAttempt (s : State) : Prop :=
  s.startup.station = .member ∧ s.loop.attempt = .ahead ∧ (s.loop.part = .mark ∨ s.loop.part = .openSlot)
    ∧ s.loop.slotTimer = 20000

/-- The attempt's moment is past (R87). -/
def State.attempted (s : State) : State := s.setLoop { s.loop with attempt := .past }

theorem attemptGuard_iff : (s.isMember ∧ s.loop.attempt = .ahead ∧ s.loop.slotTimer = Slot.openSlot.begins
    ∧ (s.loop.part = .mark ∨ s.loop.part = .openSlot)) ↔ s.atAttempt := by
  simp only [State.isMember, beq_iff_eq, Slot.begins, State.atAttempt]
  tauto

theorem openSlotAttempt_of_not (h : ¬ s.atAttempt) : openSlotAttempt s = s :=
  if_neg (mt attemptGuard_iff.1 h)

theorem openSlotAttempt_of_at (h : s.atAttempt) :
    openSlotAttempt s = if s.pins.dataLow = true ∧ s.line.phase = .start ∧ s.loop.rx.isNone = true ∧ s.aligns = true then
        s.setLoop { s.loop with attempt := .waiting }
      else if s.attempted.mayBegin = true then offerHead 0 false s.attempted else s.attempted :=
  if_pos (attemptGuard_iff.2 h)

/-- The acceptance span of a slot (R56, R58). -/
theorem Slot.accepts_iff (sl : Slot) (t : Nat) : sl.accepts t = true ↔ sl.begins ≤ t + 5000 ∧ t ≤ sl.begins + 9000 := by
  rw [Slot.accepts, Bool.and_eq_true, decide_eq_true_iff, decide_eq_true_iff]
  rfl

/-- A start bit that a contender may align to fell from 15 ms to just before its own 20 ms (R58, R88). -/
theorem aligns_iff : s.aligns = true ↔ s.startup.station = .member ∧ s.queue.messages ≠ [] ∧ s.loop.placed = false
    ∧ s.loop.attempt ≠ .past ∧ ∃ f, s.line.fallAt = some f ∧ 15000 ≤ f ∧ f < 20000 := by
  cases hf : s.line.fallAt with
  | none => simp [State.aligns, hf]
  | some f =>
    simp only [State.aligns, hf, State.isMember, Slot.accepts_iff, Bool.and_eq_true,
      beq_iff_eq, Bool.not_eq_true', List.isEmpty_eq_false_iff, bne_iff_ne,
      decide_eq_true_iff, and_assoc,
      Option.some.injEq, exists_eq_left']
    refine and_congr_right fun _ => and_congr_right fun _ => and_congr_right fun _ => and_congr_right fun _ => ?_
    change 20000 ≤ f + 5000 ∧ f ≤ 20000 + 9000 ∧ f < 20000 ↔ _
    omega

theorem messageFrame_bytes (n : News) (s : State) : (messageFrame n s).bytes = (s.messageAsFrame n).bytes := by
  cases n <;> rfl

theorem offerHead_of_cons {m : Message} {rest : List Message} (h : s.queue.messages = m :: rest) (since : Nat) (sampled : Bool) :
    offerHead since sampled s = { s with
      queue := { s.queue with messages := { m with onLine := true } :: rest }
      loop := { s.loop with
        tx := some ⟨.openSlot, (s.messageAsFrame m.news).bytes, 0, 0, since, sampled, .sending⟩ } } := by
  simp only [offerHead, h, TxQueue.offerHead, startTx, ← messageFrame_bytes]
  cases m.news <;> rfl

theorem offerHead_of_nil (h : s.queue.messages = []) (since : Nat) (sampled : Bool) : offerHead since sampled s = s := by
  simp only [offerHead, h]

/-! ### A slot ends -/

/-- The station at a slot's end once a frame still received in the slot has ended (R65). -/
def State.frameCut (sl : Slot) (s : State) : State :=
  if (s.loop.rx.bind Reception.slot) = some sl then endReception s else s

/-- The station after the pass of the slot's owner (R71). -/
def State.passed (s : State) : State :=
  match s.loop.owner with
  | some o => if s.isMember then passReport o s else s
  | none => s

theorem slotEnd_of_due {sl : Slot} (hpart : s.loop.part.slot = some sl) (hr : s.running = true)
    (ht : sl.ends ≤ s.loop.slotTimer) : slotEnd s = clearSlot sl.partAfter (s.frameCut sl).passed := by
  simp only [slotEnd, hpart]
  exact if_pos ⟨ht, hr⟩

/-- What a slot's end leaves of the slot state (R56). -/
theorem clearSlot_loop (part : Part) (s : State) :
    (clearSlot part s).loop = ⟨s.loop.slotTimer, part, none, false, false, .ahead, none, s.loop.rx, none⟩ := by
  have hkept : (abandonTx s).loop.slotTimer = s.loop.slotTimer ∧ (abandonTx s).loop.rx = s.loop.rx := by
    unfold abandonTx
    (repeat' split) <;> simp
  simp [clearSlot, hkept]

/-- A frame placed in the slot that ends is cut and counted (R65). -/
theorem frameCut_effect (sl : Slot) (hc : s.counters.rxErr ≤ 255) :
    (s.frameCut sl).loop = { s.loop with rx := if s.loop.rx.bind Reception.slot = some sl then none else s.loop.rx }
      ∧ (s.frameCut sl).counters = (if s.loop.rx.bind Reception.slot = some sl then
          s.counters.put .rxErr (min 255 (s.counters.rxErr + 1)) else s.counters) := by
  unfold State.frameCut
  by_cases h : s.loop.rx.bind Reception.slot = some sl
  · obtain ⟨r, hr, hslot⟩ := Option.bind_eq_some_iff.1 h
    have hend : endReception s = State.counted .rxErr ((s.setLoop { s.loop with rx := none }).setLine
        (s.line.rest s.pins.dataLow)) := by
      simp only [endReception, hr, hslot, Option.isSome_some, if_true]
      exact bump_eq _ _ hc
    rw [if_pos h, if_pos h, if_pos h, hend]
    exact ⟨rfl, rfl⟩
  · rw [if_neg h, if_neg h, if_neg h]
    exact ⟨rfl, rfl⟩

@[simp] theorem frameCut_frame (sl : Slot) (s : State) :
    (s.frameCut sl).roster = s.roster ∧ (s.frameCut sl).table = s.table ∧ (s.frameCut sl).faults = s.faults
      ∧ (s.frameCut sl).startup = s.startup ∧ (s.frameCut sl).beat = s.beat := by
  unfold State.frameCut
  split <;> simp

@[simp] theorem passed_frame (s : State) : s.passed.loop = s.loop ∧ s.passed.counters = s.counters := by
  unfold State.passed
  (repeat' split) <;> simp

theorem passed_of_none (h : s.loop.owner = none ∨ s.startup.station = .joining) : s.passed = s := by
  unfold State.passed
  split
  · next o ho =>
    have hj : s.startup.station = .joining := h.resolve_left (by simp [ho])
    simp [State.isMember, hj]
  · rfl

theorem passed_of_owner {o : Nat} (hm : s.startup.station = .member) (ho : s.loop.owner = some o) :
    s.passed = passReport o s := by
  simp [State.passed, ho, State.isMember, hm]

/-- The own slot's pass stamps the own entry, and reports the conflict seen in the slot (R99). -/
theorem passSelf_effect (conflict : Bool) (s : State) :
    (passSelf conflict s).roster = s.roster.modify s.startup.ownAddr (fun e =>
        { e with lastHeard := some (s.beat.barCount, s.beat.beatIndex) })
      ∧ (passSelf conflict s).faults = (if conflict then s.faults ||| 0x02#8 else s.faults) := by
  cases conflict
  · exact ⟨rfl, rfl⟩
  · simp only [passSelf, if_true, setFault_eq]
    exact ⟨rfl, rfl⟩

/-- PEER_MISSING is the only fault that the roster moves (R105). -/
theorem moveRoster_others (r : List RosterEntry) (s : State) : (moveRoster r s).faults &&& 0xFE#8 = s.faults &&& 0xFE#8 := by
  have hset : ∀ b : Byte, (b ||| FaultName.peerMissing.mask) &&& 0xFE#8 = b &&& 0xFE#8 := by decide
  have hclear : ∀ b : Byte, (b &&& ~~~FaultName.peerMissing.mask) &&& 0xFE#8 = b &&& 0xFE#8 := by decide
  unfold moveRoster
  dsimp only
  (repeat' split) <;> simp [setFault_eq, clearFault_eq, State.withFault, State.withoutFault, hset, hclear]

/-- A miss at one entry of the owner's, by its miss count and its state (R43, R44). -/
theorem missed_eq (o : Nat) (p : PeerState) (e : Entry) :
    e.missed o p = if e.origin ≠ o ∨ 2 ≤ e.miss then some e
      else if e.miss = 0 then some { e with miss := 1 }
      else if e.state = .orphaned then some { e with miss := 2 }
      else if e.state = .active ∧ e.latched = true ∧ p = .missing then some { e with miss := 2, state := .orphaned }
      else none := by
  unfold Entry.missed
  split
  · rfl
  · next h =>
    obtain ⟨-, hmiss⟩ := not_or.1 h
    rcases Nat.lt_or_ge e.miss 1 with hzero | hone
    · have hm : e.miss = 0 := by omega
      simp [hm]
    · have hm : e.miss = 1 := by omega
      cases hs : e.state <;> simp [hm]

/-- The pass of another address: its STATUS heard (R71, R97), or a miss (R43, R98). -/
theorem passOther_heard (o : Nat) (h : OwnerStatus) (s : State) :
    (passOther o (some h) s).roster = s.roster.modify o (fun e => if e.state = .self then e else
        ⟨.present, 0, some (s.beat.barCount, s.beat.beatIndex), h.faultByte, h.supplyLow, h.anyFault, true⟩)
      ∧ (passOther o (some h) s).table = s.table := by
  simp only [passOther, moveRoster_effect, moveRoster_frame, and_true]
  rfl

theorem passOther_missed {o : Nat} (ho : o ≠ s.startup.ownAddr) :
    (passOther o none s).roster = s.roster.modify o RosterEntry.missed
      ∧ (passOther o none s).table = s.table.filterMap (fun e =>
          e.missed o (peerState (passOther o none s).roster o)) := by
  simp only [passOther, missReport, takeClaim_frame, takeClaim_table, moveRoster_effect, moveRoster_frame, missEntries,
    if_neg ho, true_and]

theorem passOther_faults (o : Nat) (heard : Option OwnerStatus) (s : State) :
    (passOther o heard s).faults &&& 0xFE#8 = s.faults &&& 0xFE#8
      ∧ (hasFault s.faults .peerMissing = anyMissing s.roster →
          hasFault (passOther o heard s).faults .peerMissing = anyMissing (passOther o heard s).roster) := by
  cases heard with
  | none =>
    simp only [passOther, missReport_frame]
    refine ⟨moveRoster_others _ _, fun h => ?_⟩
    rw [(moveRoster_effect _ s).2 h, (moveRoster_effect _ s).1]
  | some o =>
    simp only [passOther]
    refine ⟨moveRoster_others _ _, fun h => ?_⟩
    rw [(moveRoster_effect _ s).2 h, (moveRoster_effect _ s).1]

end Sys2Proof.Machine

open Sys2Proof Sys2Proof.Machine

/-- Settles O25: the slot's owner first, then the own slot's STATUS. -/
theorem slotsBeginWithTheirOwner : Obligations.SlotsBeginWithTheirOwner := by
  unfold Obligations.SlotsBeginWithTheirOwner
  intro after s hr c hc hpart htime
  have hslot := elapse_slotTimer hr after
  have hset : ∀ sl : Slot, s.loop.part.nextSlot = some sl → sl.begins ≤ s.loop.slotTimer + after →
      exec (.slotBegin after) s = .next { s.elapse after with
        loop := { (s.elapse after).loop with
          part := sl.part
          owner := sl.ownerAt s.beat.beatIndex
          tx := if sl.ownerAt s.beat.beatIndex = some s.startup.ownAddr ∧ s.startup.station = .member
              ∧ s.pins.dataLow = false ∧ s.loop.rx = none ∧ s.loop.slotTimer + after ≤ sl.begins + 4000 then
            some ⟨sl, Frame.bytes ⟨.status, s.startup.ownAddr, s.supply.condition == .low, s.faults != 0#8, s.beat.barCount,
              s.beat.beatIndex, s.faults, (List.range 12).filterMap fun i =>
                (s.table.find? fun e => e.origin == s.startup.ownAddr && e.input == i).map fun e =>
                  (⟨e.input, e.cue, e.priority, e.latched, e.silenced⟩ : Item)⟩, 0, 0, 0, false, .sending⟩
            else (s.elapse after).loop.tx } } := fun sl hn ht => by
    refine congrArg Host.Outcome.next ((slotBegin_of_due (s := s.elapse after) hn hr (by rw [hslot]; exact ht)).trans ?_)
    rw [statusFrame, ownItems_eq, hslot]
    rfl
  simp only [List.mem_cons, List.not_mem_nil, or_false] at hc
  rcases hc with rfl | rfl | rfl
  · have h := hset .openSlot (by rw [hpart]; rfl) htime
    exact h
  · exact hset .owned1 (by rw [hpart]; rfl) htime
  · exact hset .owned2 (by rw [hpart]; rfl) htime

/-- Settles O26, by the moment, the queue and the line. -/
theorem oneAttemptInTheOpenSlot : Obligations.OneAttemptInTheOpenSlot := by
  unfold Obligations.OneAttemptInTheOpenSlot
  intro after s at20 past
  have hat : (s.elapse after).atAttempt ↔ at20 := by
    simp only [State.atAttempt, at20, elapse_startup, elapse_loop]
    refine and_congr_right fun hm => and_congr_right fun _ => and_congr_right fun _ => ?_
    rw [elapse_slotTimer (by simp [State.running, hm])]
  have hpast : (s.elapse after).attempted = past := rfl
  refine ⟨fun hnot => ?_, fun h hnil => ?_, fun h hlow hrx m rest hq => ?_, fun h hq hbusy => ?_⟩
  · exact congrArg Host.Outcome.next (openSlotAttempt_of_not (mt hat.1 hnot))
  · refine congrArg Host.Outcome.next ((openSlotAttempt_of_at (hat.2 h)).trans ?_)
    rw [if_neg (by rw [aligns_iff]; rintro ⟨-, -, -, -, hne, -⟩; exact hne hnil)]
    split
    · exact offerHead_of_nil (s := (s.elapse after).attempted) hnil _ _
    · rfl
  · refine congrArg Host.Outcome.next ((openSlotAttempt_of_at (hat.2 h)).trans ?_)
    rw [if_neg (by simp [hlow]), if_pos (mayBegin_iff (s := (s.elapse after).attempted) |>.2 ⟨h.1, hlow, hrx⟩)]
    exact offerHead_of_cons (s := (s.elapse after).attempted) hq _ _
  · refine congrArg Host.Outcome.next ((openSlotAttempt_of_at (hat.2 h)).trans ?_)
    have hno : ¬ (s.elapse after).attempted.mayBegin = true := by
      rw [mayBegin_iff]
      rintro ⟨-, hlow, hrx⟩
      rcases hbusy with hbusy | hbusy
      · exact absurd (hbusy.symm.trans hlow) (by decide)
      · exact hbusy hrx
    rw [if_neg hno]
    obtain ⟨hm, hahead, -, -⟩ := h
    refine if_congr ?_ rfl rfl
    rw [aligns_iff, Option.isNone_iff_eq_none, Option.any_eq_true]
    simp only [elapse_pins, elapse_line, elapse_loop, elapse_startup, elapse_frame, hm, hahead, hq, decide_eq_true_eq,
      ne_eq, not_false_eq_true, true_and, reduceCtorEq]

/-- Settles O27: the frame is cut, the owner's pass follows, and the slot state is cleared. -/
theorem slotEndBringsThePass : Obligations.SlotEndBringsThePass := by
  unfold Obligations.SlotEndBringsThePass
  intro after s hr hc c hmem hpart htime cut
  obtain ⟨sl, hslot, hends, hcslot, hnext⟩ : ∃ sl : Slot, s.loop.part.slot = some sl ∧ sl.ends ≤ s.loop.slotTimer + after
      ∧ c.2.1 = sl ∧ c.2.2.2 = sl.partAfter := by
    simp only [List.mem_cons, List.not_mem_nil, or_false] at hmem
    rcases hmem with rfl | rfl | rfl
    · exact ⟨.openSlot, by rw [hpart]; rfl, htime, rfl, rfl⟩
    · exact ⟨.owned1, by rw [hpart]; rfl, htime, rfl, rfl⟩
    · exact ⟨.owned2, by rw [hpart]; rfl, htime, rfl, rfl⟩
  have hend := slotEnd_of_due (s := s.elapse after) hslot hr (by rw [elapse_slotTimer hr]; exact hends)
  obtain ⟨hloop, hcounters⟩ := frameCut_effect (s := s.elapse after) sl hc.1
  obtain ⟨hroster, htable, hfaults, hstartup, hbeat⟩ := frameCut_frame sl (s.elapse after)
  have hcut : (s.elapse after).loop.rx.bind Reception.slot = some sl ↔ cut := by simp only [cut, hcslot]; rfl
  have howner : ((s.elapse after).frameCut sl).loop.owner = s.loop.owner := by rw [hloop]; rfl
  refine ⟨slotEnd (s.elapse after), rfl, ?_, ?_, fun hnone => ?_, fun hm ho => ?_, fun hm o ho hne => ?_⟩
  all_goals rw [hend]
  · rw [clearSlot_loop, (passed_frame _).1, hloop, hnext, elapse_slotTimer hr]
    exact congrArg (fun rx => (⟨_, _, none, false, false, .ahead, none, rx, none⟩ : Transceiver)) (if_congr hcut rfl rfl)
  · simp only [clearSlot_frame, passed_frame, hcounters]
    exact if_congr hcut rfl rfl
  · rw [passed_of_none (by rw [howner, hstartup]; exact hnone)]
    simp only [clearSlot_frame, hroster, htable, hfaults]
    exact ⟨rfl, rfl, rfl⟩
  · have hself : ((s.elapse after).frameCut sl).passed
        = passSelf s.loop.conflictSeen ((s.elapse after).frameCut sl) := by
      rw [passed_of_owner (by rw [hstartup]; exact hm) (by rw [howner]; exact ho)]
      refine (if_pos (by rw [hstartup]; rfl)).trans ?_
      rw [hloop]
      rfl
    obtain ⟨hpass, hconflict⟩ := passSelf_effect s.loop.conflictSeen ((s.elapse after).frameCut sl)
    simp only [hself, clearSlot_frame, passSelf_frame]
    rw [hpass, hconflict, hroster, htable, hfaults, hstartup, hbeat]
    exact ⟨rfl, rfl, rfl⟩
  · have hother : ((s.elapse after).frameCut sl).passed = passOther o s.loop.heard ((s.elapse after).frameCut sl) := by
      rw [passed_of_owner (by rw [hstartup]; exact hm) (by rw [howner]; exact ho)]
      refine (if_neg (by rw [hstartup]; exact hne)).trans ?_
      rw [hloop]
      rfl
    obtain ⟨hothers, hmissing⟩ := passOther_faults o s.loop.heard ((s.elapse after).frameCut sl)
    rw [hother]
    simp only [clearSlot_frame]
    refine ⟨by rw [hothers, hfaults]; rfl, fun hok => hmissing (by rw [hfaults, hroster]; exact hok.1), fun h hh => ?_,
      fun hh => ?_⟩
    · obtain ⟨hpass, hkept⟩ := passOther_heard o h ((s.elapse after).frameCut sl)
      rw [hh, hpass, hkept, hroster, htable, hbeat]
      exact ⟨rfl, rfl⟩
    · obtain ⟨hpass, hkept⟩ := passOther_missed (s := (s.elapse after).frameCut sl) (by rw [hstartup]; exact hne)
      rw [hh]
      refine ⟨by rw [hpass, hroster]; rfl, ?_⟩
      rw [hkept, htable]
      exact congrArg (fun f => s.table.filterMap f) (funext fun e => missed_eq _ _ e)

end

section
/-! PROOFS. The DATA line: edges, bits sent and read back, bits sampled into bytes, frames that begin and are cut (chapters 3 and
11). O28, O34, O37 and O38. -/

namespace Sys2Proof.Machine

variable {s : State} {dt : Nat}

/-! ### The bit that is being sent -/

/-- A bit of the station's frame has reached its sample time (R202). -/
structure BitDue (r : TxRecord) (s : State) : Prop where
  tx : s.loop.tx = some r
  sending : r.outcome = .sending
  fresh : r.sampled = false
  within : r.byte < r.bytes.length
  time : 100 * r.bit + 50 ≤ r.bitTimer

/-- The level of the bit that a record sends; true is recessive (R198). -/
abbrev TxRecord.bitNow (r : TxRecord) : Bool := bitLevel (r.bytes.getD r.byte 0#8) r.bit

theorem BitDue.readBackDue {r : TxRecord} (h : BitDue r s) : s.readBackDue = true := by
  have htime := h.time
  simp [State.readBackDue, h.tx, h.sending, h.fresh, h.within, bitTime, htime]

theorem BitDue.level {r : TxRecord} (h : BitDue r s) : r.level = r.bitNow := by
  have hdriving : r.driving = true := by simp [TxRecord.driving, h.sending, h.within]
  rw [TxRecord.level, hdriving]
  rfl

theorem BitDue.elapse {r : TxRecord} (htx : s.loop.tx = some r) (hsending : r.outcome = .sending) (hfresh : r.sampled = false)
    (hwithin : r.byte < r.bytes.length) (htime : 100 * r.bit + 50 ≤ r.bitTimer + dt) :
    BitDue { r with bitTimer := r.bitTimer + dt } (s.elapse dt) :=
  ⟨by rw [elapse_tx, htx]; rfl, hsending, hfresh, hwithin, htime⟩

/-- Where no bit is due, nothing is read back (R202). -/
theorem readBack_of_not_due (h : ∀ r, s.loop.tx = some r →
    r.outcome ≠ .sending ∨ r.sampled = true ∨ r.bytes.length ≤ r.byte ∨ r.bitTimer < 100 * r.bit + 50) : readBack s = s := by
  unfold readBack
  split
  · rfl
  · next r hr =>
    have hno : s.readBackDue = false := by
      have hcases := h r hr
      rw [State.readBackDue, hr]
      rw [Bool.eq_false_iff]
      intro hdue
      simp only [Bool.and_eq_true, beq_iff_eq, Bool.not_eq_true', decide_eq_true_eq] at hdue
      obtain ⟨⟨⟨hs, hf⟩, hw⟩, ht⟩ := hdue
      rcases hcases with h | h | h | h
      · exact h hs
      · exact absurd (h.symm.trans hf) (by decide)
      · omega
      · exact absurd (show 100 * r.bit + 50 ≤ r.bitTimer from ht) (by omega)
    simp [State.mismatchNow, State.completesNow, hno]

/-- A bit that reads back as it was sent (R202). -/
theorem readBack_of_match {r : TxRecord} (h : BitDue r s) (hlevel : r.bitNow = !s.pins.dataLow)
    (hmore : ¬ (r.bit = 9 ∧ r.byte + 1 = r.bytes.length)) :
    readBack s = { s with loop := { s.loop with tx := some { r with sampled := true } } } := by
  have hmismatch : s.mismatchNow = false := by simp [State.mismatchNow, h.tx, h.level, hlevel, State.dataLevel]
  have hcompletes : s.completesNow = false := by
    rw [State.completesNow, h.tx, Bool.and_eq_false_iff]
    right
    simp only [Bool.and_eq_false_iff, beq_eq_false_iff_ne]
    by_cases h9 : r.bit = 9
    · exact .inr fun hlast => hmore ⟨h9, hlast⟩
    · exact .inl (.inr h9)
  simp only [readBack, h.tx, hmismatch, hcompletes, h.readBackDue, modifyTx, Option.map_some, Bool.false_eq_true, if_false,
    if_true]
  rfl

/-- The clean stop bit of the last byte completes the frame (R92, R109, R202). -/
theorem readBack_of_complete {r : TxRecord} (h : BitDue r s) (hlevel : r.bitNow = !s.pins.dataLow) (h9 : r.bit = 9)
    (hlast : r.byte + 1 = r.bytes.length) :
    readBack s = State.withoutFault .dataLine { s with
      loop := { s.loop with tx := some { r with sampled := true, outcome := .complete } }
      queue := if r.slot = .openSlot then { s.queue with messages := s.queue.messages.filter fun m => !m.onLine }
        else s.queue } := by
  have hmismatch : s.mismatchNow = false := by simp [State.mismatchNow, h.tx, h.level, hlevel, State.dataLevel]
  have hcompletes : s.completesNow = true := by
    simp [State.completesNow, h.readBackDue, h.tx, h.level, hlevel, State.dataLevel, h9, hlast]
  have hhigh : s.pins.dataLow = false := by
    have hrecessive : r.bitNow = true := by simp [TxRecord.bitNow, bitLevel, h9]
    simpa [hrecessive] using hlevel
  have hgo : readBack s = completeTx r s := by
    simp only [readBack, h.tx, hmismatch, hcompletes, Bool.false_eq_true, if_false, if_true]
  rw [hgo]
  simp only [completeTx, modifyTx, h.tx, Option.map_some]
  by_cases hslot : r.slot = .openSlot
  · simp only [hslot, if_true]
    rw [if_pos (by simp [State.dataLevel, hhigh]), clearFault_eq]
    rfl
  · simp only [hslot, if_false]
    rw [if_pos (by simp [State.dataLevel, hhigh]), clearFault_eq]
    rfl

/-- The station once it has stopped sending: the message waits again (R76, R92). -/
def State.gaveUp (r : TxRecord) (s : State) : State :=
  { s with
    loop := { s.loop with tx := some { r with outcome := .abandoned } }
    queue := { s.queue with messages := s.queue.messages.map fun m => { m with onLine := false } } }

theorem abandonTx_of_sending' {r : TxRecord} (htx : s.loop.tx = some r) (hsending : r.outcome = .sending) :
    abandonTx s = s.gaveUp r := by
  simp only [abandonTx, htx, hsending, if_true]
  rfl

/-- A bit that reads back at the other level: what it is counted as, and the frame is given up (R75, R89 to R91). -/
theorem readBack_of_mismatch {r : TxRecord} (h : BitDue r s) (hlevel : r.bitNow = s.pins.dataLow)
    (hc : s.counters.arbLoss ≤ 255) :
    readBack s = if r.bitNow = false then State.withFault .dataLine (s.gaveUp r)
      else if r.slot = .openSlot ∧ r.byte ≤ 1 then State.counted .arbLoss (s.gaveUp r)
      else State.withFault .addressConflict (s.gaveUp r) := by
  have hmismatch : s.mismatchNow = true := by
    simp [State.mismatchNow, h.readBackDue, h.tx, h.level, hlevel, State.dataLevel]
  simp only [readBack, h.tx, hmismatch, if_true]
  unfold countMismatch
  rw [h.level]
  cases hbit : r.bitNow with
  | false =>
    simp only [Bool.false_eq_true, if_false, if_true, setFault_eq]
    exact abandonTx_of_sending' (s := s.withFault .dataLine) h.tx h.sending
  | true =>
    simp only [if_true, Bool.true_eq_false, if_false]
    split
    · rw [bump_eq .arbLoss s hc]
      exact abandonTx_of_sending' (s := s.counted .arbLoss) h.tx h.sending
    · rw [setFault_eq]
      exact abandonTx_of_sending' (s := s.withFault .addressConflict) h.tx h.sending

theorem abandonTx_loop (s : State) : (abandonTx s).loop = { s.loop with tx := (abandonTx s).loop.tx } := by
  unfold abandonTx
  (repeat' split) <;> simp

theorem completeTx_loop (r : TxRecord) (s : State) : (completeTx r s).loop = { s.loop with tx := (completeTx r s).loop.tx } := by
  unfold completeTx modifyTx
  dsimp only
  (repeat' split) <;> simp

/-- Reading back touches of the slot state the record alone. -/
theorem readBack_loop (s : State) : (readBack s).loop = { s.loop with tx := (readBack s).loop.tx } := by
  unfold readBack
  split
  · rfl
  · next r _ =>
    split
    · rw [abandonTx_loop]
      simp
    · split
      · exact completeTx_loop r s
      · split <;> rfl

/-! ### The receiver's sample -/

theorem elapse_byteTimer (h : s.line.phase ≠ .idle) (h' : s.line.phase ≠ .waitHigh) (dt : Nat) :
    (s.elapse dt).line.byteTimer = s.line.byteTimer + dt := by
  simp [State.elapse, Line.elapse, h, h']

theorem receiverSample_of_not (h : ¬ (s.sampleDue = true ∧ s.running = true)) : receiverSample s = s := if_neg h

/-- The receiver's sample times, by its phase (R199). -/
theorem sampleDue_iff : s.sampleDue = true ↔ (s.line.phase = .start ∧ 50 ≤ s.line.byteTimer)
    ∨ (s.line.phase = .bits ∧ 150 + 100 * s.line.bitCount ≤ s.line.byteTimer)
    ∨ (s.line.phase = .stop ∧ 950 ≤ s.line.byteTimer) := by
  unfold State.sampleDue Line.sampleAt
  cases hp : s.line.phase <;> simp
  exact Iff.rfl

theorem receiverSample_of_start (hr : s.running = true) (hp : s.line.phase = .start) (ht : 50 ≤ s.line.byteTimer) :
    receiverSample s = sampleStart s := by
  have hdue : s.sampleDue = true := by simp [State.sampleDue, Line.sampleAt, hp, ht]
  simp only [receiverSample, hdue, hr, hp, and_self, if_true]

theorem receiverSample_of_bits (hr : s.running = true) (hp : s.line.phase = .bits)
    (ht : 150 + 100 * s.line.bitCount ≤ s.line.byteTimer) : receiverSample s = sampleData s := by
  have hdue : s.sampleDue = true := by simpa [State.sampleDue, Line.sampleAt, hp, bitTime] using ht
  simp only [receiverSample, hdue, hr, hp, and_self, if_true]

theorem receiverSample_of_stop (hr : s.running = true) (hp : s.line.phase = .stop) (ht : 950 ≤ s.line.byteTimer) :
    receiverSample s = sampleStop s := by
  have hdue : s.sampleDue = true := by simp [State.sampleDue, Line.sampleAt, hp, ht]
  simp only [receiverSample, hdue, hr, hp, and_self, if_true]

/-- The slot a frame is placed in by its first fall (R58, R64). -/
theorem spanOf_eq (f : Nat) : spanOf f = if 15000 ≤ f ∧ f ≤ 29000 then some .openSlot
    else if 60000 ≤ f ∧ f ≤ 74000 then some .owned1 else if 140000 ≤ f ∧ f ≤ 154000 then some .owned2 else none := by
  have hopen : Slot.openSlot.accepts f = true ↔ 15000 ≤ f ∧ f ≤ 29000 := by
    rw [Slot.accepts_iff]
    change 20000 ≤ f + 5000 ∧ f ≤ 20000 + 9000 ↔ _
    omega
  have hfirst : Slot.owned1.accepts f = true ↔ 60000 ≤ f ∧ f ≤ 74000 := by
    rw [Slot.accepts_iff]
    change 65000 ≤ f + 5000 ∧ f ≤ 65000 + 9000 ↔ _
    omega
  have hsecond : Slot.owned2.accepts f = true ↔ 140000 ≤ f ∧ f ≤ 154000 := by
    rw [Slot.accepts_iff]
    change 145000 ≤ f + 5000 ∧ f ≤ 145000 + 9000 ↔ _
    omega
  simp only [spanOf, List.find?_cons, List.find?_nil, ← hopen, ← hfirst, ← hsecond]
  cases Slot.openSlot.accepts f <;> cases Slot.owned1.accepts f <;> cases Slot.owned2.accepts f <;> rfl

/-- A new frame as it begins, where no own frame is laid over it (R64). -/
def State.frameBegun (s : State) : State :=
  let slot := if s.loop.placed then none else s.line.fallAt.bind spanOf
  { s with
    line := { s.line with phase := .bits, bitCount := 0, shift := 0#8 }
    loop := { s.loop with rx := some ⟨slot, s.line.fallAt, [], true⟩, placed := s.loop.placed || slot.isSome } }

theorem sampleStart_begins (hlow : s.pins.dataLow = true) (hrx : s.loop.rx = none) :
    sampleStart s = if s.aligns = true then
        offerHead s.line.byteTimer true { s.frameBegun with loop := { s.frameBegun.loop with attempt := .past } }
      else s.frameBegun := by
  simp only [sampleStart, State.dataLevel, hlow, hrx, Bool.not_true, Bool.false_eq_true, if_false, Option.isSome_none]
  rfl

/-- Reading back takes no message into an empty queue. -/
theorem readBack_queue_nil (h : s.queue.messages = []) : (readBack s).queue.messages = [] := by
  have habandon : ∀ t : State, t.queue.messages = [] → (abandonTx t).queue.messages = [] := fun t ht => by
    unfold abandonTx
    (repeat' split) <;> simp [ht, TxQueue.backFromLine]
  unfold readBack
  split
  · exact h
  · split
    · exact habandon _ (by simpa using h)
    · split
      · unfold completeTx modifyTx
        dsimp only
        (repeat' split) <;> simp [h, TxQueue.sent, TxQueue.without]
      · split <;> exact h

/-- The station of a sample, its sender's half done: what the receiver's half reads is as it was (R199, R202). -/
theorem readBack_receiver (s : State) :
    (readBack s).line = s.line ∧ (readBack s).pins = s.pins ∧ (readBack s).running = s.running
      ∧ (readBack s).loop.rx = s.loop.rx ∧ (readBack s).loop.placed = s.loop.placed
      ∧ (readBack s).loop.attempt = s.loop.attempt ∧ (readBack s).startup = s.startup := by
  refine ⟨by simp, by simp, by simp [State.running], ?_, ?_, ?_, by simp⟩ <;> rw [readBack_loop]

theorem notDue_elapse (h : ∀ r, s.loop.tx = some r → r.outcome ≠ .sending ∨ r.sampled = true ∨ r.bytes.length ≤ r.byte
    ∨ r.bitTimer + dt < 100 * r.bit + 50) : readBack (s.elapse dt) = s.elapse dt := by
  refine readBack_of_not_due fun r hr => ?_
  rw [elapse_tx, Option.map_eq_some_iff] at hr
  obtain ⟨r', hr', rfl⟩ := hr
  exact h r' hr'

theorem frameStartsNow_elapse (hr : s.running = true) (hp : s.line.phase = .start) (ht : 50 ≤ s.line.byteTimer + dt)
    (hlow : s.pins.dataLow = true) (hrx : s.loop.rx = none) : (s.elapse dt).frameStartsNow = true := by
  have htimer := elapse_byteTimer (s := s) (by simp [hp]) (by simp [hp]) dt
  simp [State.frameStartsNow, hr, hp, hlow, hrx, State.sampleDue, Line.sampleAt, htimer, ht]

/-- A new frame's beginning, written over the fields that the start bit's fall left (R64). -/
theorem frameBegun_eq {l : Line} {placed : Bool} {slot : Option Slot} (hl : s.line = l) (hp : s.loop.placed = placed)
    (hslot : (if placed then none else l.fallAt.bind spanOf) = slot) :
    s.frameBegun = { s with
      line := { l with phase := .bits, bitCount := 0, shift := 0#8 }
      loop := { s.loop with rx := some ⟨slot, l.fallAt, [], true⟩, placed := placed || slot.isSome } } := by
  subst hl hp hslot
  rfl

theorem Counters.Ok.get_le {c : Counters} (h : c.Ok) (n : CounterName) : c.get n ≤ 255 := by
  obtain ⟨h1, h2, h3, h4, h5, h6, h7⟩ := h
  cases n <;> assumption

/-! ### A gap that is too long -/

theorem gapTimeout_of_none (h : s.line.phase = .gap ∧ bitTime < s.line.gapTimer) (hrx : s.loop.rx = none) :
    gapTimeout s = { s with line := { s.line with phase := .idle, fromGap := false } } := by
  simp only [gapTimeout, h, hrx, and_self, if_true]
  rfl

theorem gapTimeout_of_some {r : Reception} (h : s.line.phase = .gap ∧ bitTime < s.line.gapTimer) (hrx : s.loop.rx = some r) :
    gapTimeout s = bump (if r.slot.isSome then .rxErr else .misplaced)
      { s with line := { s.line with phase := .idle, fromGap := false }, loop := { s.loop with rx := none } } := by
  simp only [gapTimeout, h, hrx, and_self, if_true]
  rfl

/-! ### Edges -/

/-- A record of a frame being sent at a fall of DATA: one that waits in its stop bit goes on to its next byte (R201). -/
def TxRecord.atFall (r : TxRecord) : TxRecord :=
  if r.outcome = .sending ∧ r.bit = 9 ∧ r.sampled = true ∧ r.byte + 1 < r.bytes.length then
    { r with byte := r.byte + 1, bit := 0, bitTimer := 0, sampled := false }
  else r

theorem resynchronise_eq (s : State) : resynchronise s = s.setLoop { s.loop with tx := s.loop.tx.map TxRecord.atFall } := by
  unfold resynchronise
  cases htx : s.loop.tx with
  | none =>
    have hsame : s.setLoop { s.loop with tx := none } = s := by
      rw [← htx]
      rfl
    simpa using hsame.symm
  | some r =>
    simp only [modifyTx, htx, Option.map_some, TxRecord.atFall]
    split
    · next h => simp [TxRecord.nextBit, h.2.1]
    · simp [← htx, State.setLoop]

/-- A fall of DATA that is seen at a running station (R199, R201, R204). -/
theorem dataFall_of_running (hlow : s.pins.dataLow = false) (hsees : s.seesDataEdge = true) (hr : s.running = true) :
    dataFall s = { s with
      pins := { s.pins with dataLow := true, dataHeld := 0 }
      line := if s.line.phase = .idle ∨ s.line.phase = .gap then
          { s.line with
            lowTimer := 0, stuckTold := false, phase := .start, byteTimer := 0, bitCount := 0, shift := 0#8
            fromGap := s.line.phase == .gap, fallAt := some s.loop.slotTimer }
        else { s.line with lowTimer := 0, stuckTold := false }
      loop := { s.loop with tx := s.loop.tx.map TxRecord.atFall } } := by
  simp only [dataFall, hlow, hsees, hr, Bool.not_true, Bool.or_self, Bool.false_eq_true, if_false, if_true]
  rw [resynchronise_eq]
  split <;> rfl

/-- A fall of DATA that is seen at a station that does not run (R204). -/
theorem dataFall_of_rest (hlow : s.pins.dataLow = false) (hsees : s.seesDataEdge = true) (hr : s.running = false) :
    dataFall s = { s with
      pins := { s.pins with dataLow := true, dataHeld := 0 }
      line := { s.line with lowTimer := 0, stuckTold := false } } := by
  simp only [dataFall, hlow, hsees, hr, Bool.not_true, Bool.or_self, Bool.false_eq_true, if_false]
  rfl

/-- A rise of DATA that is seen (R200, R204). -/
theorem dataRise_of_seen (hlow : s.pins.dataLow = true) (hsees : s.seesDataEdge = true) :
    dataRise s = { s with
      pins := { s.pins with dataLow := false, dataHeld := 0 }
      line := if s.line.phase = .waitHigh then
          { s.line with lowTimer := 0, stuckTold := false, phase := .gap, gapTimer := 0, gapLead := 0 }
        else { s.line with lowTimer := 0, stuckTold := false } } := by
  simp only [dataRise, hlow, hsees, Bool.and_self, if_true]
  split <;> rfl

theorem dataStuck_of_due (hr : s.running = true) (hlow : s.pins.dataLow = true) (htold : s.line.stuckTold = false)
    (hlong : 2000 < s.line.lowTimer) :
    dataStuck s = State.withFault .dataLine { s with line := { s.line with stuckTold := true } } := by
  unfold dataStuck
  rw [if_pos ⟨hr, hlow, by simp [htold], hlong⟩, setFault_eq]
  rfl

/-- Reading back keeps every counter in its range (R220). -/
theorem readBack_counters (h : s.counters.Ok) : (readBack s).counters.Ok := by
  unfold readBack
  split
  · exact h
  · next r _ =>
    split
    · rw [(abandonTx_frame _).2.2.2.2.2.2.2.1]
      unfold countMismatch
      split
      · split
        · exact bump_counters_ok _ s h
        · simpa using h
      · simpa using h
    · split
      · simpa using h
      · split <;> exact h

/-! ### The end of a bit time -/

theorem bitTimeEnd_of_due {r : TxRecord} (htx : s.loop.tx = some r) (hout : r.outcome ≠ .abandoned) (hsampled : r.sampled = true)
    (hwithin : r.byte < r.bytes.length) (ht : 100 * (r.bit + 1) ≤ r.bitTimer) :
    bitTimeEnd s = { s with loop := { s.loop with tx := some r.nextBit } } := by
  have hdriving : r.driving = true := by simp [TxRecord.driving, hout, hwithin]
  unfold bitTimeEnd
  simp only [htx]
  rw [if_pos ⟨hdriving, hsampled, ht⟩]
  simp only [modifyTx, htx]
  rfl

/-! ### A byte taken by the frame -/

theorem sampleStart_gone (hlow : s.pins.dataLow = false) :
    sampleStart s = { s with line := { s.line with phase := if s.line.fromGap then .gap else .idle } } := by
  simp only [sampleStart, State.dataLevel, hlow, Bool.not_false, if_true]
  rfl

theorem sampleStart_next (hlow : s.pins.dataLow = true) (hrx : s.loop.rx ≠ none) :
    sampleStart s = { s with line := { s.line with phase := .bits, bitCount := 0, shift := 0#8 } } := by
  have hsome : s.loop.rx.isSome = true := Option.isSome_iff_ne_none.2 hrx
  simp only [sampleStart, State.dataLevel, hlow, Bool.not_true, Bool.false_eq_true, if_false, hsome, if_true]
  rfl

/-- The receiver's line after a data bit (R199). -/
theorem sampleData_eq (s : State) : sampleData s = { s with line := { s.line with
    shift := (s.line.shift <<< 1) ||| (if s.pins.dataLow then 0#8 else 1#8)
    bitCount := s.line.bitCount + 1
    phase := if s.line.bitCount < 7 then .bits else .stop } } := by
  have hphase : (if 8 ≤ s.line.bitCount + 1 then RxPhase.stop else .bits) = if s.line.bitCount < 7 then .bits else .stop := by
    by_cases h : s.line.bitCount < 7
    · rw [if_neg (by omega), if_pos h]
    · rw [if_pos (by omega), if_neg h]
  cases hlow : s.pins.dataLow <;>
    simp only [sampleData, State.dataLevel, hlow, Bool.not_false, Bool.not_true, Bool.false_eq_true, if_true, if_false,
      modifyLine, State.setLine, hphase]

/-- The line after a stop bit while the frame goes on (R199, R200). -/
theorem afterByte_eq {l : Line} {t : Nat} (low : Bool) (ht : l.byteTimer = t) : l.afterByte (!low) =
    if low then { l with phase := .waitHigh } else { l with phase := .gap, gapTimer := 0, gapLead := 1000 - t } := by
  subst ht
  cases low <;> rfl

theorem sampleStop_of_none (hrx : s.loop.rx = none) :
    sampleStop s = { s with line := s.line.afterByte (!s.pins.dataLow) } := by
  simp only [sampleStop, hrx]
  rfl

theorem sampleStop_goes_on {r : Reception} (hrx : s.loop.rx = some r)
    (hmore : (r.take s.line.shift s.pins.dataLow).whole = false) :
    sampleStop s = { s with
      line := s.line.afterByte (!s.pins.dataLow)
      loop := { s.loop with rx := some (r.take s.line.shift s.pins.dataLow) } } := by
  simp only [sampleStop, hrx, hmore, Bool.false_eq_true, if_false]
  rfl

/-- The station as a frame of the expected length has ended: the receiver waits for a start bit (R61, R200). -/
def State.frameEnded (s : State) : State :=
  { s with
    line := { s.line with phase := if s.pins.dataLow then .waitHigh else .idle, bitCount := 0, fromGap := false }
    loop := { s.loop with rx := none } }

theorem frameEnded_eq {l : Line} {low : Bool} (hl : s.line = l) (hlow : s.pins.dataLow = low) :
    s.frameEnded = { s with
      line := { l with phase := if low then .waitHigh else .idle, bitCount := 0, fromGap := false }
      loop := { s.loop with rx := none } } := by
  subst hl hlow
  rfl

/-- A frame that carries the own address is a conflict, unless the station has just sent it (R68, R69). -/
theorem conflictBy_eq (slot : Slot) (f : Frame) {own : Nat} {seen : Bool} (hstation : s.startup.ownAddr = own)
    (hseen : s.loop.conflictSeen = seen) : conflictBy slot f s =
    if f.sender = own ∧ s.loop.tx.map TxRecord.outcome ≠ some .complete then
      State.withFault .addressConflict { s with
        loop := { s.loop with conflictSeen := if slot = .openSlot then seen else true } }
    else s := by
  subst hstation hseen
  have hown : ¬ s.ownFrame = true ↔ s.loop.tx.map TxRecord.outcome ≠ some .complete := by
    unfold State.ownFrame
    cases s.loop.tx <;> simp
  unfold conflictBy
  rw [if_congr (and_congr_right fun _ => hown) rfl rfl, setFault_eq]
  split
  · cases slot <;> rfl
  · rfl

theorem sampleStop_ends {r : Reception} (hrx : s.loop.rx = some r)
    (hwhole : (r.take s.line.shift s.pins.dataLow).whole = true) :
    sampleStop s = judgeFrame (r.take s.line.shift s.pins.dataLow) s.frameEnded := by
  simp only [sampleStop, hrx, hwhole, if_true]
  rfl

theorem whole_iff (r : Reception) : r.whole = true ↔ expectedLength r.bytes = some r.bytes.length := by
  simp [Reception.whole]

theorem judgeFrame_misplaced {r : Reception} (h : r.slot = none) (s : State) : judgeFrame r s = bump .misplaced s := by
  simp only [judgeFrame, h]

theorem judgeFrame_invalid {r : Reception} {slot : Slot} (hslot : r.slot = some slot)
    (h : r.validSoFar = false ∨ parseFrame r.bytes = none) (s : State) : judgeFrame r s = bump .rxErr s := by
  have hnone : (if r.validSoFar then parseFrame r.bytes else none) = none := by
    rcases h with h | h <;> simp [h]
  simp only [judgeFrame, hslot, hnone]

theorem judgeFrame_valid {r : Reception} {slot : Slot} {f : Frame} (hslot : r.slot = some slot) (hvalid : r.validSoFar = true)
    (hf : parseFrame r.bytes = some f) (s : State) : judgeFrame r s = handOn slot f s := by
  simp only [judgeFrame, hslot, hvalid, if_true, hf]

/-- A whole frame that is read satisfies the conditions on its bytes (R63). -/
theorem validPrefix_of_parsed {bs : List Byte} {f : Frame} (h : parseFrame bs = some f) : validPrefix bs = true := by
  unfold parseFrame at h
  split at h
  · simp at h
  · dsimp only at h
    split at h
    · next hok => exact hok.2.2
    · simp at h

/-- Item byte A shows by itself that it names no cue (R63). -/
theorem validPrefix_of_no_cue {w x y z v : Byte} (hw : w ≠ 0x80#8) (hlen : expectedLength [w, x, y, z, v] ≠ some 5)
    (hv : bitsOf v 0 6 = 0) : validPrefix [w, x, y, z, v] = false := by
  cases hk : kindOfLead w with
  | none => simp [validPrefix, hk]
  | some k =>
    have hstatus : k ≠ .status := by
      rintro rfl
      refine hw (BitVec.eq_of_toNat_eq ?_)
      unfold kindOfLead at hk
      repeat' split at hk
      all_goals simp_all
    have hlen' : countAllowed k (bitsOf z 4 4) = true → itemsAt k + 2 * bitsOf z 4 4 + 1 ≠ 5 := fun hc => by
      simpa [expectedLength, byteAt, hk, hc] using hlen
    have hat : itemsAt k = 4 := by cases k <;> simp [itemsAt] at hstatus ⊢
    rw [hat] at hlen'
    have hcue : cueByteOk v = false := by simp [cueByteOk, hv]
    cases hc : countAllowed k (bitsOf z 4 4) with
    | false => simp [validPrefix, hk, byteAt, hc]
    | true =>
      have hn : bitsOf z 4 4 ≠ 0 := fun h0 => hlen' hc (by omega)
      simp [validPrefix, hk, byteAt, hat, hcue, hn]

end Sys2Proof.Machine

open Sys2Proof Sys2Proof.Machine

/-- Settles O28: the sender's half of the sample first, then the frame, with the contender's own over it. -/
theorem frameStartPlacesTheFrame : Obligations.FrameStartPlacesTheFrame := by
  unfold Obligations.FrameStartPlacesTheFrame
  intro after s hr hp ht hlow hrx heard slot begun
  obtain ⟨hline, hpins, hrunning, hrx', hplaced, hattempt, hstartup⟩ := readBack_receiver (s.elapse after)
  have htimer := elapse_byteTimer (s := s) (by simp [hp]) (by simp [hp]) after
  have hsample : bitSample (s.elapse after) = sampleStart heard :=
    receiverSample_of_start (s := heard) (hrunning.trans hr) (by rw [hline]; exact hp) (by rw [hline, htimer]; exact ht)
  have hstart : sampleStart heard = _ := sampleStart_begins (s := heard) (by rw [hpins]; exact hlow) (hrx'.trans hrx)
  have hslot : (if s.loop.placed then none else s.line.fallAt.bind spanOf) = slot := by
    simp only [slot]
    cases s.line.fallAt <;> simp [spanOf_eq]
  have hbegun : heard.frameBegun = begun := frameBegun_eq (s := heard) hline hplaced hslot
  have halign : heard.aligns = true ↔ s.startup.station = .member ∧ heard.queue.messages ≠ [] ∧ s.loop.placed = false
      ∧ s.loop.attempt ≠ .past ∧ ∃ f, s.line.fallAt = some f ∧ 15000 ≤ f ∧ f < 20000 := by
    rw [aligns_iff, hline, hplaced, hattempt, hstartup]
    rfl
  have hboth : exec (.frameStart after) s = .next (bitSample (s.elapse after)) ∧
      exec (.bitSample after) s = .next (bitSample (s.elapse after)) :=
    ⟨congrArg Host.Outcome.next (if_pos (frameStartsNow_elapse hr hp ht hlow hrx)), rfl⟩
  have halone : ¬ heard.aligns = true → exec (.frameStart after) s = .next begun ∧ exec (.bitSample after) s = .next begun :=
    fun h => by
      rw [hboth.1, hboth.2, hsample, hstart, if_neg h, hbegun]
      exact ⟨rfl, rfl⟩
  refine ⟨notDue_elapse, fun r htx hsending hfresh hbit hwithin htime => ?_, fun h => halone ?_,
    fun f hf hout => halone ?_, fun f hf hfrom hto hm hfree hahead m rest hq => ?_⟩
  · refine readBack_of_match (.elapse htx hsending hfresh hwithin (by omega)) ?_ (by simp [hbit])
    simp [TxRecord.bitNow, hbit, bitLevel, hlow]
  · rw [halign]
    rintro ⟨hm, hq, hfree, hahead, f, hf, -⟩
    rcases h with h | h | h | h | h
    · exact h hm
    · exact hq (readBack_queue_nil (s := s.elapse after) h)
    · simp [h] at hfree
    · exact hahead h
    · simp [h] at hf
  · rw [halign]
    rintro ⟨-, -, -, -, f', hf', hfrom, hto⟩
    obtain rfl : f' = f := Option.some.inj (hf'.symm.trans hf)
    omega
  · rw [hboth.1, hsample, hstart, if_pos (halign.2 ⟨hm, by simp [hq], hfree, hahead, f, hf, hfrom, hto⟩), hbegun, hline, htimer]
    exact congrArg Host.Outcome.next
      (offerHead_of_cons (s := { begun with loop := { begun.loop with attempt := .past } }) hq _ _)

/-- Settles O34. -/
theorem gapEndsAFrame : Obligations.GapEndsAFrame := by
  unfold Obligations.GapEndsAFrame
  intro after s hc hp hlong idle
  have htimer : (s.elapse after).line.gapTimer = s.line.gapTimer + (after - s.line.gapLead) := by
    simp [State.elapse, Line.elapse, Line.inGap, hp]
  have hdue : (s.elapse after).line.phase = .gap ∧ bitTime < (s.elapse after).line.gapTimer := ⟨hp, by rw [htimer]; exact hlong⟩
  refine ⟨fun hrx => congrArg Host.Outcome.next (gapTimeout_of_none hdue hrx), fun r hr => ?_⟩
  refine congrArg Host.Outcome.next ((gapTimeout_of_some hdue hr).trans ?_)
  cases r.slot with
  | none => exact bump_eq .misplaced _ (hc.get_le .misplaced)
  | some slot => exact bump_eq .rxErr _ (hc.get_le .rxErr)

/-- Settles O37: each edge seen and not seen, and the long low period. -/
theorem edgesOfData : Obligations.EdgesOfData := by
  unfold Obligations.EdgesOfData
  intro after s
  have hsees : (s.elapse after).seesDataEdge = true ↔ 2 ≤ s.pins.dataHeld + after := by
    simp [State.seesDataEdge, tick, filterTime]
  refine ⟨fun hlow hheld hr => ?_, fun hlow hheld hr => ?_, fun h => ?_, fun h => ?_, fun hlow hheld => ?_,
    fun hr hlow htold hlong => ?_, fun hlow h => ?_⟩
  all_goals refine congrArg Host.Outcome.next ?_
  · refine (dataFall_of_running (s := s.elapse after) hlow (hsees.2 hheld) hr).trans ?_
    rw [elapse_slotTimer hr]
    rfl
  · exact dataFall_of_rest (s := s.elapse after) hlow (hsees.2 hheld) hr
  · refine if_pos ?_
    rw [Bool.or_eq_true, Bool.not_eq_true', Bool.eq_false_iff, ne_eq, hsees]
    exact h.imp id Nat.not_le.2
  · refine if_neg ?_
    rw [Bool.and_eq_true, hsees]
    rintro ⟨hlow, hheld⟩
    rcases h with h | h
    · exact absurd (hlow.symm.trans h) (by decide)
    · omega
  · exact dataRise_of_seen (s := s.elapse after) hlow (hsees.2 hheld)
  · have htimer : (s.elapse after).line.lowTimer = s.line.lowTimer + after := by
      simp [State.elapse, Line.elapse, hr, hlow]
    exact dataStuck_of_due (s := s.elapse after) hr hlow htold (by rw [htimer]; exact hlong)
  · refine if_neg ?_
    rintro ⟨hr, -, htold, hlong⟩
    have htimer : (s.elapse after).line.lowTimer = s.line.lowTimer + after := by
      have hr' : s.running = true := hr
      simp [State.elapse, Line.elapse, hr', hlow]
    rw [htimer, dataStuckTime] at hlong
    rcases h with h | h
    · exact htold h
    · omega

/-- Settles O38: the two halves of a sample, each by what it finds. -/
theorem bitsGoInAndOut : Obligations.BitsGoInAndOut := by
  unfold Obligations.BitsGoInAndOut
  intro after s hc waited heard
  obtain ⟨hline, hpins, hrunning, hrx, hplaced, hattempt, hstartup⟩ := readBack_receiver waited
  have hstartTimer : s.line.phase ≠ .idle → s.line.phase ≠ .waitHigh → waited.line.byteTimer = s.line.byteTimer + after :=
    fun h h' => elapse_byteTimer h h' after
  refine ⟨notDue_elapse, fun r htx hsending hfresh hwithin htime => ?_, fun r htx hout hsampled hwithin htime => ?_,
    fun hnot => ?_, fun hr hp ht => ⟨fun hlow => ?_, fun hlow hsome => ?_⟩, fun hr hp ht => ?_, fun hr hp ht => ?_⟩
  · have hdue := BitDue.elapse (dt := after) htx hsending hfresh hwithin htime
    refine ⟨fun hlevel hmore => readBack_of_match hdue hlevel hmore,
      fun hlevel h9 hlast => readBack_of_complete hdue hlevel h9 hlast, fun hlevel => ?_⟩
    exact readBack_of_mismatch hdue hlevel (hc.get_le .arbLoss)
  · refine congrArg Host.Outcome.next ((bitTimeEnd_of_due (s := waited) (r := { r with bitTimer := r.bitTimer + after })
      (by rw [elapse_tx, htx]; rfl) hout hsampled hwithin htime).trans ?_)
    unfold TxRecord.nextBit
    rfl
  · refine congrArg Host.Outcome.next (receiverSample_of_not (s := heard) ?_)
    rintro ⟨hdue, hr⟩
    rw [sampleDue_iff, hline] at hdue
    have hr' : s.running = true := hrunning.symm.trans hr
    rcases hnot with h | (h | h | h) | ⟨h, hlt⟩ | ⟨h, hlt⟩ | ⟨h, hlt⟩
    · exact absurd (h.symm.trans hr') (by decide)
    iterate 3
      rcases hdue with ⟨hp, -⟩ | ⟨hp, -⟩ | ⟨hp, -⟩ <;> exact absurd (h.symm.trans hp) (by decide)
    all_goals
      rw [hstartTimer (by simp [h]) (by simp [h])] at hdue
      have hp : waited.line.phase = s.line.phase := rfl
      simp only [hp, h, reduceCtorEq, false_and, or_false, false_or, true_and] at hdue
      exact absurd hdue (Nat.not_le.2 hlt)
  · refine congrArg Host.Outcome.next ((receiverSample_of_start (s := heard) (hrunning.trans hr) (by rw [hline]; exact hp)
      (by rw [hline, hstartTimer (by simp [hp]) (by simp [hp])]; exact ht)).trans ?_)
    rw [sampleStart_gone (by rw [hpins]; exact hlow), hline]
    rfl
  · refine congrArg Host.Outcome.next ((receiverSample_of_start (s := heard) (hrunning.trans hr) (by rw [hline]; exact hp)
      (by rw [hline, hstartTimer (by simp [hp]) (by simp [hp])]; exact ht)).trans ?_)
    rw [sampleStart_next (by rw [hpins]; exact hlow) (by rw [hrx]; exact hsome), hline]
  · refine congrArg Host.Outcome.next ((receiverSample_of_bits (s := heard) (hrunning.trans hr) (by rw [hline]; exact hp)
      (by rw [hline, hstartTimer (by simp [hp]) (by simp [hp])]; exact ht)).trans ?_)
    rw [sampleData_eq, hline, hpins]
    rfl
  · intro low onward ended
    have hstop : bitSample waited = sampleStop heard :=
      receiverSample_of_stop (s := heard) (hrunning.trans hr) (by rw [hline]; exact hp)
        (by rw [hline, hstartTimer (by simp [hp]) (by simp [hp])]; exact ht)
    have hlow : heard.pins.dataLow = low := by rw [hpins]; rfl
    have hended : heard.frameEnded = ended := frameEnded_eq (s := heard) hline hlow
    have hafter : heard.line.afterByte (!heard.pins.dataLow) = onward.line := by
      rw [hline, hlow, afterByte_eq low (hstartTimer (by simp [hp]) (by simp [hp]))]
    have hconflict : heard.loop.conflictSeen = waited.loop.conflictSeen := by
      simp only [heard]
      rw [readBack_loop]
    have hcounters : ended.counters.Ok := readBack_counters (s := waited) hc
    refine ⟨fun hnone => ?_, fun r hsome => ?_⟩
    · refine congrArg Host.Outcome.next (hstop.trans ?_)
      rw [sampleStop_of_none (by rw [hrx]; exact hnone), hafter]
    · intro bytes
      have htake : r.take heard.line.shift heard.pins.dataLow
          = { r with bytes := bytes, validSoFar := r.validSoFar && !low && validPrefix bytes } := by
        rw [hline, hpins]
        rfl
      have hrx' : heard.loop.rx = some r := hrx.trans hsome
      refine ⟨fun hmore => ⟨congrArg Host.Outcome.next (hstop.trans ?_), fun hlen hw hv => ?_⟩, fun hwhole => ?_⟩
      · rw [sampleStop_goes_on hrx' (by rw [Bool.eq_false_iff, ne_eq, whole_iff, htake]; exact hmore), hafter, htake]
      · obtain ⟨w, x, y, z, hbytes⟩ := List.length_eq_four.1 hlen
        have hfive : bytes = [w, x, y, z, s.line.shift] := by simp [bytes, hbytes]
        rw [hfive]
        exact validPrefix_of_no_cue (by simpa [hbytes, byteAt] using hw) (by simpa [hfive] using hmore) hv
      · have hjudge : bitSample waited
            = judgeFrame { r with bytes := bytes, validSoFar := r.validSoFar && !low && validPrefix bytes } ended := by
          rw [hstop, sampleStop_ends hrx' (by rw [whole_iff, htake]; exact hwhole), htake, hended]
        generalize hq : ({ r with bytes := bytes, validSoFar := r.validSoFar && !low && validPrefix bytes } : Reception) = q
          at hjudge
        have hqslot : q.slot = r.slot := by rw [← hq]
        have hqbytes : q.bytes = bytes := by rw [← hq]
        have hqvalid : q.validSoFar = (r.validSoFar && !low && validPrefix bytes) := by rw [← hq]
        refine ⟨fun hslot => ?_, fun slot hslot => ⟨fun hbad => ?_, fun f hvalid hlow hf hnot => ?_⟩⟩
        · refine congrArg Host.Outcome.next (hjudge.trans ?_)
          rw [judgeFrame_misplaced (hqslot.trans hslot)]
          exact bump_eq .misplaced _ (hcounters.get_le .misplaced)
        · refine congrArg Host.Outcome.next (hjudge.trans ?_)
          rw [judgeFrame_invalid (hqslot.trans hslot) ?_]
          · exact bump_eq .rxErr _ (hcounters.get_le .rxErr)
          · rw [hqvalid, hqbytes]
            rcases hbad with h | h | h | h
            · simp [h]
            · simp [h]
            · exact .inr (parseFrame_of_crc8_ne h)
            · exact .inr h
        · refine congrArg Host.Outcome.next (hjudge.trans ?_)
          rw [judgeFrame_valid (hqslot.trans hslot) (by simp [hqvalid, hvalid, hlow, validPrefix_of_parsed hf])
            (by rw [hqbytes]; exact hf)]
          simp only [handOn, hnot, Bool.false_eq_true, if_false]
          rw [bump_eq .misplaced ended (hcounters.get_le .misplaced), conflictBy_eq (s := ended.counted .misplaced) slot f
            (congrArg Startup.ownAddr hstartup) hconflict]
          rfl

end

section
/-! PROOFS. What the items of a frame do to the cue table (chapter 2): the facts behind O29 and O31. -/

namespace Sys2Proof.Machine

/-! ### Keys name entries -/

/-- A table in order has one entry to a key (R26). -/
theorem TableOk.eq_of_key {table : List Entry} (h : TableOk table) {a b : Entry} (ha : a ∈ table) (hb : b ∈ table)
    (ho : a.origin = b.origin) (hi : a.input = b.input) : a = b := by
  by_contra hne
  have hkeys : table.Pairwise Entry.otherKey := h.2.imp And.right
  have hsymm : Std.Symm Entry.otherKey := ⟨fun _ _ => Entry.otherKey.symm⟩
  exact hkeys.forall ha hb hne ⟨ho, hi⟩

theorem TableOk.nodup {table : List Entry} (h : TableOk table) : table.Nodup :=
  h.2.imp fun hab heq => hab.2 ⟨congrArg Entry.origin heq, congrArg Entry.input heq⟩

/-- A search by key finds the entry that has it. -/
theorem TableOk.find?_eq_some {table : List Entry} (h : TableOk table) {o i : Nat} {e : Entry} (he : e ∈ table)
    (hkey : e.hasKey o i = true) : table.find? (Entry.hasKey o i) = some e := by
  cases hf : table.find? (Entry.hasKey o i) with
  | none => exact absurd hkey (List.find?_eq_none.1 hf e he)
  | some e' =>
    obtain ⟨hmem, ho, hi⟩ := mem_hasKey_of_find? hf
    obtain ⟨ho', hi'⟩ := Entry.hasKey_iff.1 hkey
    exact congrArg some (h.eq_of_key hmem he (ho.trans ho'.symm) (hi.trans hi'.symm))

/-- Two tables that agree about a key answer a search for it alike. -/
theorem find?_congr_key {a b : List Entry} (hb : TableOk b) {o i : Nat}
    (hab : ∀ e : Entry, e.hasKey o i = true → (e ∈ a ↔ e ∈ b)) :
    a.find? (Entry.hasKey o i) = b.find? (Entry.hasKey o i) := by
  cases hf : a.find? (Entry.hasKey o i) with
  | some e =>
    have hkey := List.find?_some hf
    exact (hb.find?_eq_some ((hab e hkey).1 (List.mem_of_find?_eq_some hf)) hkey).symm
  | none =>
    refine (List.find?_eq_none.2 fun e he hkey => ?_).symm
    exact List.find?_eq_none.1 hf e ((hab e hkey).2 he) hkey

/-- The table without one entry, by its key or by its place. -/
theorem TableOk.withoutKey_eq_erase {table : List Entry} (h : TableOk table) {l : Entry} (hl : l ∈ table) :
    Machine.withoutKey l.origin l.input table = table.erase l := by
  rw [h.nodup.erase_eq_filter]
  refine List.filter_congr fun e he => ?_
  by_cases heq : e = l
  · simp [heq, Entry.hasKey]
  · have hkey : e.hasKey l.origin l.input = false := Entry.hasKey_eq_false.2 fun ⟨ho, hi⟩ => heq (h.eq_of_key he hl ho hi)
    simp [hkey, heq]

/-! ### One item -/

/-- The entry that an item leaves in the table (R38, R41): the one of its key refreshed, or a new one. -/
def Item.takenIn (i : Item) (sender : Nat) (stamp : Stamp) (table : List Entry) : Entry :=
  match table.find? (Entry.hasKey sender i.input) with
  | some e => e.refreshed i stamp
  | none => i.entry sender stamp

theorem takenIn_key (i : Item) (sender : Nat) (stamp : Stamp) (table : List Entry) :
    (i.takenIn sender stamp table).origin = sender ∧ (i.takenIn sender stamp table).input = i.input := by
  unfold Item.takenIn
  split
  · next e he => exact (mem_hasKey_of_find? he).2
  · exact ⟨rfl, rfl⟩

/-- A refreshed entry keeps its stamp and its silenced flag while the cue number stays (R41). -/
theorem refreshed_eq {e : Entry} {i : Item} {sender : Nat} (ho : e.origin = sender) (hi : e.input = i.input) (stamp : Stamp) :
    e.refreshed i stamp = if e.cue = i.cue then
        { i.entry sender stamp with
          silenced := e.silenced || i.silenced, stampBar := e.stampBar, stampBeat := e.stampBeat }
      else i.entry sender stamp := by
  subst ho
  unfold Entry.refreshed Item.entry
  split <;> simp_all

theorem insertForeign_of_room {own : Nat} {e : Entry} {table : List Entry} (h : table.length < 16) :
    insertForeign own e table = (placeEntry e table, false) := if_pos h

/-- A newcomer to a full table: it takes the place of the last-ranked foreign entry that it ranks before, or is dropped (R31). -/
theorem insertForeign_of_full {own : Nat} {e : Entry} {table : List Entry} (h : 16 ≤ table.length) :
    insertForeign own e table = match lastForeign own table with
      | some l => if e.before l then (placeEntry e (evictLast own table), true) else (table, true)
      | none => (table, true) := if_neg (Nat.not_lt.2 h)

theorem applyItem_of_some {own sender : Nat} {stamp : Stamp} {i : Item} {table : List Entry} {e : Entry}
    (h : table.find? (Entry.hasKey sender i.input) = some e) :
    applyItem own sender stamp i table = (placeEntry (e.refreshed i stamp) (withoutKey sender i.input table), false) := by
  simp only [applyItem, h]

theorem applyItem_of_none {own sender : Nat} {stamp : Stamp} {i : Item} {table : List Entry}
    (h : table.find? (Entry.hasKey sender i.input) = none) :
    applyItem own sender stamp i table = insertForeign own (i.entry sender stamp) table := by
  simp only [applyItem, h]

/-- An item with room in the table: its entry stands there, and every other one does as before (R31, R38, R41). -/
theorem applyItem_of_room {own sender : Nat} {stamp : Stamp} {i : Item} {table : List Entry}
    (hroom : table.length < 16) : applyItem own sender stamp i table
      = (placeEntry (i.takenIn sender stamp table) (withoutKey sender i.input table), false) := by
  cases hf : table.find? (Entry.hasKey sender i.input) with
  | some e => rw [applyItem_of_some hf, Item.takenIn, hf]
  | none =>
    have hall : withoutKey sender i.input table = table :=
      List.filter_eq_self.2 fun e he => by simpa using List.find?_eq_none.1 hf e he
    rw [applyItem_of_none hf, Item.takenIn, hf, hall, insertForeign_of_room hroom]

/-- An item taken by a table in order, in every case (R31, R38, R41). -/
theorem applyItem_taken (own sender : Nat) (stamp : Stamp) (i : Item) {table : List Entry} (h : TableOk table) :
    ItemTaken own sender stamp i table (applyItem own sender stamp i table).1
      (0 + if (applyItem own sender stamp i table).2 then 1 else 0) := by
  have hnot : (∀ e ∈ table, (e.origin == sender && e.input == i.input) = false) →
      applyItem own sender stamp i table = insertForeign own (i.entry sender stamp) table := fun hall =>
    applyItem_of_none (List.find?_eq_none.2 fun e he => by rw [Bool.not_eq_true]; exact hall e he)
  refine ⟨h.applyItem own sender stamp i, fun e he hkey => ?_, fun hall hroom => ?_, fun hall hfull => ?_⟩
  · rw [applyItem_of_some (h.find?_eq_some he hkey)]
    obtain ⟨ho, hi⟩ := Entry.hasKey_iff.1 hkey
    refine ⟨rfl, (placeEntry_perm _ _).trans ?_⟩
    rw [refreshed_eq ho hi]
    exact List.Perm.refl _
  · rw [hnot hall, insertForeign_of_room hroom]
    exact ⟨rfl, placeEntry_perm _ _⟩
  · rw [hnot hall, insertForeign_of_full hfull]
    have hlast : (table.filter fun e => e.origin != own).getLast? = lastForeign own table := rfl
    rw [hlast]
    cases hl : lastForeign own table with
    | none => exact ⟨rfl, rfl⟩
    | some l =>
      have hnew : (⟨i.cue, i.priority, sender, i.input, .active, i.latched, i.silenced, 0, stamp.1, stamp.2⟩ : Entry)
          = i.entry sender stamp := rfl
      dsimp only
      rw [hnew]
      by_cases hb : (i.entry sender stamp).before l = true
      · simp only [hb, if_true]
        refine ⟨trivial, (placeEntry_perm _ _).trans ?_⟩
        rw [evictLast_of_lastForeign hl, h.withoutKey_eq_erase (lastForeign_mem hl).1]
      · simp [hb]

/-! ### The items one after another -/

/-- The items of a frame are taken one by one, and every entry lost is counted (R31, R40). -/
theorem applyItems_taken (own sender : Nat) (stamp : Stamp) (items : List Item) {table : List Entry} (h : TableOk table) :
    ItemsTaken own sender stamp items table (applyItems own sender stamp items table).1
      (applyItems own sender stamp items table).2 := by
  induction items generalizing table with
  | nil => exact ⟨rfl, rfl⟩
  | cons i rest ih =>
    have hone := applyItem_taken own sender stamp i h
    refine ⟨_, _, hone, _, ih hone.1, ?_⟩
    simp only [applyItems, Nat.zero_add]
    exact Nat.add_comm _ _

/-! ### The items of a STATUS where there is room -/

/-- An entry placed in a table shows in a part of the table that it does not belong to as nothing at all (R27). -/
theorem filter_placeEntry {p : Entry → Bool} {e : Entry} (hp : p e = false) (table : List Entry) :
    (placeEntry e table).filter p = table.filter p := by
  induction table with
  | nil => simp [placeEntry, hp]
  | cons x rest ih =>
    unfold placeEntry
    split
    · simp [hp]
    · rw [List.filter_cons, List.filter_cons, ih]

/-- The entries of other senders stand as they stood, where there is room for every item (R40). -/
theorem applyItems_others (own sender : Nat) (stamp : Stamp) (items : List Item) {table : List Entry}
    (hroom : table.length + items.length ≤ 16) :
    (applyItems own sender stamp items table).2 = 0
      ∧ (applyItems own sender stamp items table).1.filter (fun e => e.origin != sender)
        = table.filter (fun e => e.origin != sender) := by
  induction items generalizing table with
  | nil => exact ⟨rfl, rfl⟩
  | cons i rest ih =>
    rw [List.length_cons] at hroom
    have hone := applyItem_of_room (own := own) (sender := sender) (stamp := stamp) (i := i) (table := table) (by omega)
    have hlen : (placeEntry (i.takenIn sender stamp table) (withoutKey sender i.input table)).length ≤ table.length + 1 := by
      rw [(placeEntry_perm _ _).length_eq, List.length_cons]
      exact Nat.succ_le_succ (List.length_filter_le _ _)
    obtain ⟨hlost, hothers⟩ := ih (table := placeEntry (i.takenIn sender stamp table) (withoutKey sender i.input table))
      (by omega)
    simp only [applyItems, hone]
    refine ⟨by rw [hlost]; rfl, ?_⟩
    rw [hothers, filter_placeEntry (by simp [(takenIn_key i sender stamp table).1]), withoutKey, List.filter_filter]
    refine List.filter_congr fun e _ => ?_
    by_cases ho : e.origin = sender <;> simp [ho, Entry.hasKey]

/-- The sender's entries once its items are taken: one to an item, as that item leaves it, and those that no item names
(R40, R41). -/
theorem applyItems_senders (own sender : Nat) (stamp : Stamp) (items : List Item) {table : List Entry} (h : TableOk table)
    (hroom : table.length + items.length ≤ 16) (hnodup : (items.map Item.input).Nodup) :
    ((applyItems own sender stamp items table).1.filter fun e => e.origin == sender).Perm
      ((items.map fun i => i.takenIn sender stamp table)
        ++ table.filter fun e => e.origin == sender && !(items.map Item.input).contains e.input) := by
  induction items generalizing table with
  | nil => simp [applyItems]
  | cons i rest ih =>
    rw [List.length_cons] at hroom
    rw [List.map_cons, List.nodup_cons] at hnodup
    obtain ⟨hfresh, hnodup⟩ := hnodup
    have hone := applyItem_of_room (own := own) (sender := sender) (stamp := stamp) (i := i) (table := table) (by omega)
    have hok := h.applyItem own sender stamp i
    rw [hone] at hok
    dsimp only at hok
    generalize hnext : placeEntry (i.takenIn sender stamp table) (withoutKey sender i.input table) = next at hone hok
    have hperm : next.Perm (i.takenIn sender stamp table :: withoutKey sender i.input table) := by
      rw [← hnext]
      exact placeEntry_perm _ _
    obtain ⟨horigin, hinput⟩ := takenIn_key i sender stamp table
    have hlen : next.length ≤ table.length + 1 := by
      rw [hperm.length_eq, List.length_cons]
      exact Nat.succ_le_succ (List.length_filter_le _ _)
    have hlater : ∀ j ∈ rest, j.takenIn sender stamp next = j.takenIn sender stamp table := fun j hj => by
      have hne : j.input ≠ i.input := fun heq => hfresh (heq ▸ List.mem_map_of_mem hj)
      have hfind : next.find? (Entry.hasKey sender j.input) = table.find? (Entry.hasKey sender j.input) := by
        refine find?_congr_key h fun e hkey => ?_
        obtain ⟨ho, hi⟩ := Entry.hasKey_iff.1 hkey
        rw [hperm.mem_iff, List.mem_cons, withoutKey_mem]
        constructor
        · rintro (rfl | ⟨hmem, -⟩)
          · exact absurd (hi.symm.trans hinput) hne
          · exact hmem
        · exact fun hmem => .inr ⟨hmem, fun hk => hne (hi.symm.trans hk.2)⟩
      rw [Item.takenIn, Item.takenIn, hfind]
    have hrest : (next.filter fun e => e.origin == sender && !(rest.map Item.input).contains e.input).Perm
        (i.takenIn sender stamp table
          :: table.filter fun e => e.origin == sender && !((i :: rest).map Item.input).contains e.input) := by
      refine (hperm.filter _).trans ?_
      rw [List.filter_cons_of_pos (by simpa [horigin, hinput] using hfresh), withoutKey, List.filter_filter]
      refine List.Perm.cons _ (List.Perm.of_eq (List.filter_congr fun e _ => ?_))
      by_cases ho : e.origin = sender <;> by_cases hi : e.input = i.input <;> simp [ho, hi, Entry.hasKey]
    simp only [applyItems, hone]
    refine (ih hok (by omega) hnodup).trans ?_
    rw [List.map_congr_left hlater, List.map_cons, List.cons_append]
    exact (hrest.append_left _).trans List.perm_middle

/-- A STATUS that lists every input once makes the sender's entries exactly its items (R40, R41). -/
theorem applyStatusItems_senders (own sender : Nat) (stamp : Stamp) (items : List Item) {table : List Entry} (h : TableOk table)
    (hroom : table.length + items.length ≤ 16) (hnodup : (items.map Item.input).Nodup) :
    ((applyStatusItems own sender stamp items table).1.filter fun e => e.origin == sender).Perm
      (items.map fun i => i.takenIn sender stamp table) := by
  have hok : TableOk (dropUnlisted sender items table) := filter_tableOk _ _ h
  have hshort : (dropUnlisted sender items table).length ≤ table.length := List.length_filter_le _ _
  refine (applyItems_senders own sender stamp items hok (by omega) hnodup).trans ?_
  have hnone : ((dropUnlisted sender items table).filter fun e =>
      e.origin == sender && !(items.map Item.input).contains e.input) = [] := by
    rw [List.filter_eq_nil_iff]
    intro e he
    obtain ⟨-, hlisted⟩ := List.mem_filter.1 he
    by_cases ho : e.origin = sender
    · obtain ⟨i, hi, hin⟩ : ∃ i ∈ items, i.input = e.input := by simpa [ho] using hlisted
      simpa [ho] using ⟨i, hi, hin⟩
    · simp [ho]
  have hsame : ∀ i ∈ items, i.takenIn sender stamp (dropUnlisted sender items table) = i.takenIn sender stamp table :=
    fun i hi => by
      have hfind : (dropUnlisted sender items table).find? (Entry.hasKey sender i.input)
          = table.find? (Entry.hasKey sender i.input) := by
        refine find?_congr_key h fun e hkey => ?_
        rw [dropUnlisted, List.mem_filter]
        refine and_iff_left ?_
        rw [Bool.or_eq_true]
        exact .inr (List.any_eq_true.2 ⟨i, hi, by simp [(Entry.hasKey_iff.1 hkey).2]⟩)
      rw [Item.takenIn, Item.takenIn, hfind]
  rw [hnone, List.append_nil, List.map_congr_left hsame]

end Sys2Proof.Machine
end

section
/-! PROOFS. Frames received whole: how each kind ends (chapters 2, 3 and 5). O29 and O30. -/

namespace Sys2Proof.Machine

variable {s : State} {dt : Nat}

/-! ### The sample that ends a frame -/

theorem Frame.bytes_length_le {f : Frame} (h : f.wellFormed = true) : f.bytes.length ≤ 30 := by
  obtain ⟨-, hcount, -, -⟩ := (Frame.wellFormed_iff f).1 h
  have hitems := countAllowed_le hcount
  have hat : itemsAt f.kind ≤ 5 := by cases f.kind <;> decide
  rw [Frame.bytes_length]
  omega

/-- The byte that makes a well-formed frame whole (R61, R63). -/
theorem take_whole {f : Frame} (h : f.wellFormed = true) {slot : Slot} {began : Option Nat} {first : List Byte} {b : Byte}
    (hbytes : first ++ [b] = f.bytes) :
    Reception.take b false ⟨some slot, began, first, true⟩ = ⟨some slot, began, f.bytes, true⟩ := by
  have htake : (first ++ [b]).take 30 = f.bytes := by
    rw [hbytes]
    exact List.take_of_length_le (Frame.bytes_length_le h)
  simp only [Reception.take, htake, Frame.validPrefix_bytes h]
  rfl

/-- The clean stop bit of the last byte of a well-formed frame hands the frame on (R61, R67). -/
theorem receiverSample_hands_on {slot : Slot} {f : Frame} {began : Option Nat} {first : List Byte} (hr : s.running = true)
    (hlow : s.pins.dataLow = false) (hp : s.line.phase = .stop) (ht : 950 ≤ s.line.byteTimer) (hwf : f.wellFormed = true)
    (hrx : s.loop.rx = some ⟨some slot, began, first, true⟩) (hbytes : first ++ [s.line.shift] = f.bytes) :
    receiverSample s = handOn slot f s.frameEnded ∧ s.endingFrame = some (slot, f) := by
  have htake := take_whole (slot := slot) (began := began) hwf hbytes
  have hwhole : (⟨some slot, began, f.bytes, true⟩ : Reception).whole = true :=
    (whole_iff _).2 (Frame.expectedLength_bytes hwf)
  constructor
  · rw [receiverSample_of_stop hr hp ht, sampleStop_ends hrx (by rw [hlow, htake]; exact hwhole), hlow, htake]
    exact judgeFrame_valid rfl rfl (parseFrame_bytes hwf) _
  · have hdue : s.sampleDue = true := sampleDue_iff.2 (.inr (.inr ⟨hp, ht⟩))
    simp [State.endingFrame, hr, hp, hdue, State.dataLevel, hlow, hrx, htake, hwhole, parseFrame_bytes hwf]

theorem ownFrame_iff (s : State) : s.ownFrame = true ↔ s.loop.tx.map TxRecord.outcome = some .complete := by
  unfold State.ownFrame
  cases s.loop.tx <;> simp

/-- A frame of another station ends: it is handed on to a station that has sent none itself (R67, R68). -/
theorem framesEnd_hands_on {slot : Slot} {f : Frame} (h : s.framesEnd slot f dt) :
    bitSample (s.elapse dt) = handOn slot f (s.elapse dt).frameEnded ∧ (s.elapse dt).endsNow f.kind = true
      ∧ (s.elapse dt).frameEnded.loop.tx.map TxRecord.outcome ≠ some .complete := by
  obtain ⟨hr, hlow, hp, ht, hwf, hallowed, habandoned, began, first, hrx, hbytes⟩ := h
  have htx : ∀ r, (s.elapse dt).loop.tx = some r → r.outcome = .abandoned := fun r htx => by
    rw [elapse_tx, Option.map_eq_some_iff] at htx
    obtain ⟨r', hr', rfl⟩ := htx
    exact habandoned r' hr'
  have hback : readBack (s.elapse dt) = s.elapse dt := readBack_of_not_due fun r hr => .inl (by simp [htx r hr])
  have hnot : (s.elapse dt).loop.tx.map TxRecord.outcome ≠ some .complete := by
    rw [ne_eq, Option.map_eq_some_iff]
    rintro ⟨r, hr, hcomplete⟩
    exact absurd ((htx r hr).symm.trans hcomplete) (by decide)
  obtain ⟨hsample, hending⟩ := receiverSample_hands_on (s := s.elapse dt) hr hlow hp
    (by rw [elapse_byteTimer (by simp [hp]) (by simp [hp])]; exact ht) hwf hrx hbytes
  refine ⟨by rw [bitSample, hback]; exact hsample, ?_, hnot⟩
  have hown : (s.elapse dt).ownFrame = false := by
    rw [Bool.eq_false_iff, ne_eq, ownFrame_iff]
    exact hnot
  simp [State.endsNow, hending, hallowed, hback, hown]

/-- The station as a frame ends, by what the end leaves as it was. -/
theorem frameEnded_phase (hlow : s.pins.dataLow = false) : s.frameEnded.line.phase = .idle := by
  simp [State.frameEnded, hlow]

/-! ### Conflict and flags -/

/-- The two flags of an open-slot frame stand in the roster of a MEMBER (R100). -/
def State.withFlags (f : Frame) (s : State) : State :=
  { s with roster := if s.startup.station = .member then
      s.roster.modify f.sender (fun e => { e with supplyLow := f.supplyLow, anyFault := f.anyFault })
    else s.roster }

/-- The station with an address conflict, which an owned slot remembers (R69). -/
def State.withConflict (slot : Slot) (s : State) : State :=
  State.withFault .addressConflict { s with
    loop := { s.loop with conflictSeen := if slot = .openSlot then s.loop.conflictSeen else true } }

theorem conflictBy_own {slot : Slot} {f : Frame} (hown : f.sender = s.startup.ownAddr)
    (hno : s.loop.tx.map TxRecord.outcome ≠ some .complete) : conflictBy slot f s = s.withConflict slot := by
  rw [conflictBy_eq slot f rfl rfl, if_pos ⟨hown, hno⟩]
  rfl

theorem conflictBy_other {slot : Slot} {f : Frame} (hother : f.sender ≠ s.startup.ownAddr) : conflictBy slot f s = s := by
  rw [conflictBy_eq slot f rfl rfl, if_neg fun h => hother h.1]

theorem flagsBy_own {f : Frame} (hown : f.sender = s.startup.ownAddr) : flagsBy f s = s :=
  if_neg fun h => h.2.2 hown

theorem flagsBy_other {f : Frame} (hother : f.sender ≠ s.startup.ownAddr)
    (hno : s.loop.tx.map TxRecord.outcome ≠ some .complete) : flagsBy f s = s.withFlags f := by
  have hown : ¬ s.ownFrame = true := by rwa [ownFrame_iff]
  unfold flagsBy State.withFlags
  by_cases hm : s.startup.station = .member
  · rw [if_pos ⟨by simp [State.isMember, hm], hown, hother⟩, if_pos hm]
    rfl
  · rw [if_neg (by simp [State.isMember, hm]), if_neg hm]

/-- The end of an open-slot frame of the own address, whatever the frame has done (R69, R100). -/
theorem settle_own {slot : Slot} {f : Frame} (hown : f.sender = s.startup.ownAddr)
    (hno : s.loop.tx.map TxRecord.outcome ≠ some .complete) : flagsBy f (conflictBy slot f s) = s.withConflict slot := by
  rw [conflictBy_own hown hno]
  exact flagsBy_own hown

/-- The end of an open-slot frame of another address. -/
theorem settle_other {slot : Slot} {f : Frame} (hother : f.sender ≠ s.startup.ownAddr)
    (hno : s.loop.tx.map TxRecord.outcome ≠ some .complete) : flagsBy f (conflictBy slot f s) = s.withFlags f := by
  rw [conflictBy_other hother, flagsBy_other hother hno]

/-! ### What a claim hands on, seen from before the frame -/

/-- A claim hands on the same from any state with the same table, player and library, and the same claimant of the sounder. -/
theorem handsOn_congr {s s' t t' : State} (htable : s'.table = s.table) (hplayer : s'.player = s.player)
    (hlibrary : s'.library = s.library) (hquiescent : s'.drive.quiescent = s.drive.quiescent)
    (hsource : s'.drive.source = s.drive.source) (ttable : t'.table = t.table) (tplayer : t'.player = t.player)
    (tdrive : t'.drive = t.drive) (tattn : t.port.attn = true → t'.port.attn = true) (h : s.handsOn t) : s'.handsOn t' := by
  unfold State.handsOn at h ⊢
  rw [htable, hplayer, hlibrary, hquiescent, hsource, ttable, tplayer, tdrive]
  refine ⟨?_, h.2⟩
  have hhead := h.1
  by_cases hsame : (s.table.head?.map fun e => (e.origin, e.input, e.cue, e.priority))
      = t.table.head?.map fun e => (e.origin, e.input, e.cue, e.priority)
  · rw [if_pos hsame] at hhead ⊢
    exact hhead
  · rw [if_neg hsame] at hhead ⊢
    exact ⟨tattn hhead.1, hhead.2⟩

/-! ### Entries lost -/

theorem countOverflow_faults (n : Nat) (s : State) :
    (countOverflow n s).faults = if n = 0 then s.faults else s.faults ||| 0x80#8 := by
  unfold countOverflow
  split
  · rfl
  · rw [setFault_eq]
    simp [State.withFault]
    rfl

theorem counters_ext {c d : Counters} (h : ∀ n, c.get n = d.get n) : c = d := by
  obtain ⟨c1, c2, c3, c4, c5, c6, c7⟩ := c
  obtain ⟨d1, d2, d3, d4, d5, d6, d7⟩ := d
  have h1 : c1 = d1 := h .rxErr
  have h2 : c2 = d2 := h .misplaced
  have h3 : c3 = d3 := h .arbLoss
  have h4 : c4 = d4 := h .txqDiscard
  have h5 : c5 = d5 := h .txExpired
  have h6 : c6 = d6 := h .stray
  have h7 : c7 = d7 := h .tableOvf
  subst h1 h2 h3 h4 h5 h6 h7
  rfl

theorem bumpTimes_counters {n : CounterName} {k : Nat} (h : s.counters.get n ≤ 255) :
    (bumpTimes n k s).counters = s.counters.put n (min 255 (s.counters.get n + k)) := by
  refine counters_ext fun m => ?_
  rw [counters_get_put]
  by_cases hm : m = n
  · subst hm
    rw [bumpTimes_get_self m k h]
    simp
  · rw [bumpTimes_get_of_ne hm]
    simp [Ne.symm hm]

theorem countOverflow_counters {n : Nat} (h : s.counters.tableOvf ≤ 255) :
    (countOverflow n s).counters = s.counters.put .tableOvf (min 255 (s.counters.tableOvf + n)) := by
  unfold countOverflow
  split
  · next hn =>
    subst hn
    exact (bumpTimes_counters (n := .tableOvf) (k := 0) h)
  · rw [setFault_eq]
    exact bumpTimes_counters (n := .tableOvf) h

/-- A claim that costs entries: they are counted, and the head and the sound are handed on (R31, R28, R29). -/
theorem overflowClaim_effect (after : List Entry) (lost : Nat) (s : State) :
    let t := takeClaim after (countOverflow lost s)
    t.table = after
      ∧ t.faults = (if lost = 0 then s.faults else s.faults ||| 0x80#8)
      ∧ (s.counters.tableOvf ≤ 255 → t.counters = s.counters.put .tableOvf (min 255 (s.counters.tableOvf + lost)))
      ∧ s.handsOn t := by
  intro t
  refine ⟨takeClaim_table _ _, ?_, fun hc => ?_, ?_⟩
  · simp only [t, takeClaim_frame, countOverflow_faults]
  · simp only [t, takeClaim_frame, countOverflow_counters hc]
  · exact handsOn_congr (s := countOverflow lost s) (by simp) (by simp) (by simp) (by simp) (by simp) rfl rfl rfl id
      (takeClaim_handsOn after (countOverflow lost s))

/-- The item of a RAISE taken by the table, and the entry lost for it counted (R31, R38). -/
theorem applyRaise_effect (sender : Nat) (stamp : Stamp) (items : List Item) (hc : s.counters.tableOvf ≤ 255) :
    let r := applyItems s.startup.ownAddr sender stamp items s.table
    let t := applyRaise sender stamp items s
    t.table = r.1 ∧ t.faults = (if r.2 = 0 then s.faults else s.faults ||| 0x80#8)
      ∧ t.counters = s.counters.put .tableOvf (min 255 (s.counters.tableOvf + r.2)) ∧ s.handsOn t := by
  obtain ⟨htable, hfaults, hcounters, hhands⟩ := overflowClaim_effect _ _ s
  exact ⟨htable, hfaults, hcounters hc, hhands⟩

/-- The items of a STATUS taken by the table without the sender's unlisted entries, and the entries lost for them
counted (R31, R40). -/
theorem applyStatus_effect (sender : Nat) (stamp : Stamp) (items : List Item) (hc : s.counters.tableOvf ≤ 255) :
    let r := applyStatusItems s.startup.ownAddr sender stamp items s.table
    let t := applyStatus sender stamp items s
    t.table = r.1 ∧ t.faults = (if r.2 = 0 then s.faults else s.faults ||| 0x80#8)
      ∧ t.counters = s.counters.put .tableOvf (min 255 (s.counters.tableOvf + r.2)) ∧ s.handsOn t := by
  obtain ⟨htable, hfaults, hcounters, hhands⟩ := overflowClaim_effect _ _ s
  exact ⟨htable, hfaults, hcounters hc, hhands⟩

/-! ### The end of each kind -/

theorem handOn_raise {slot : Slot} {f : Frame} (hk : f.kind = .raise) (hallowed : slotAllowed f.kind slot = true) :
    handOn slot f s = endRaise slot f s := by
  rw [handOn, if_pos hallowed]
  simp only [hk]

theorem handOn_clear {slot : Slot} {f : Frame} (hk : f.kind = .clear) (hallowed : slotAllowed f.kind slot = true) :
    handOn slot f s = endClear slot f s := by
  rw [handOn, if_pos hallowed]
  simp only [hk]

theorem handOn_silence {slot : Slot} {f : Frame} (hk : f.kind = .silence) (hallowed : slotAllowed f.kind slot = true) :
    handOn slot f s = endSilence slot f s := by
  rw [handOn, if_pos hallowed]
  simp only [hk]

theorem handOn_restore {slot : Slot} {f : Frame} (hk : f.kind = .restore) (hallowed : slotAllowed f.kind slot = true) :
    handOn slot f s = endRestore slot f s := by
  rw [handOn, if_pos hallowed]
  simp only [hk]

theorem handOn_status {slot : Slot} {f : Frame} (hk : f.kind = .status) (hallowed : slotAllowed f.kind slot = true) :
    handOn slot f s = endStatus slot f s := by
  rw [handOn, if_pos hallowed]
  simp only [hk]

theorem endRaise_own {slot : Slot} {f : Frame} (hown : f.sender = s.startup.ownAddr)
    (hno : s.loop.tx.map TxRecord.outcome ≠ some .complete) : endRaise slot f s = s.withConflict slot := by
  simp only [endRaise, hown, if_true]
  exact settle_own hown hno

theorem endRaise_other {slot : Slot} {f : Frame} (hother : f.sender ≠ s.startup.ownAddr)
    (hno : s.loop.tx.map TxRecord.outcome ≠ some .complete) :
    endRaise slot f s = (applyRaise f.sender s.stamp f.items s).withFlags f := by
  simp only [endRaise, hother, if_false]
  exact settle_other (by simpa using hother) (by simpa using hno)

theorem endClear_own {slot : Slot} {f : Frame} (hown : f.sender = s.startup.ownAddr)
    (hno : s.loop.tx.map TxRecord.outcome ≠ some .complete) : endClear slot f s = s.withConflict slot := by
  simp only [endClear, hown, if_true]
  exact settle_own hown hno

theorem endClear_other {slot : Slot} {f : Frame} (hother : f.sender ≠ s.startup.ownAddr)
    (hno : s.loop.tx.map TxRecord.outcome ≠ some .complete) :
    endClear slot f s = (applyClear f.sender f.items s).withFlags f := by
  simp only [endClear, hother, if_false]
  exact settle_other (by simpa [applyClear] using hother) (by simpa [applyClear] using hno)

end Sys2Proof.Machine

open Sys2Proof Sys2Proof.Machine

/-- Settles O29: the own address is a conflict; any other has its item taken by the table. -/
theorem raiseFrameRefreshesOrInserts : Obligations.RaiseFrameRefreshesOrInserts := by
  unfold Obligations.RaiseFrameRefreshesOrInserts
  intro after slot f s h hk htable hc
  obtain ⟨hsample, hends, hno⟩ := framesEnd_hands_on h
  obtain ⟨hr, hlow, hp, ht, hwf, hallowed, -⟩ := h
  have hhand := handOn_raise (s := (s.elapse after).frameEnded) hk hallowed
  rw [hk] at hends
  refine ⟨bitSample (s.elapse after), congrArg Host.Outcome.next (if_pos hends), rfl, ?_⟩
  rw [hsample, hhand]
  by_cases hown : f.sender = s.startup.ownAddr
  · rw [endRaise_own (s := (s.elapse after).frameEnded) hown hno]
    exact ⟨htable, rfl, frameEnded_phase hlow, rfl, rfl, rfl, rfl, rfl, rfl, fun _ => ⟨rfl, rfl, rfl, rfl⟩,
      fun hother => absurd hown hother⟩
  · obtain ⟨htab, hfaults, hcounters, hhands⟩ := applyRaise_effect (s := (s.elapse after).frameEnded) f.sender
      (s.elapse after).frameEnded.stamp f.items (hc.get_le .tableOvf)
    rw [endRaise_other (s := (s.elapse after).frameEnded) hown hno]
    have hok : TableOk (applyRaise f.sender (s.elapse after).frameEnded.stamp f.items (s.elapse after).frameEnded).table := by
      rw [htab]
      exact TableOk.applyItems _ _ _ _ htable
    obtain ⟨-, -, hbeat, hline, hloop, hqueue, hroster, hlibrary, -, -, -, hinputs, hkeys, -, hstartup⟩ :=
      applyRaise_frame f.sender (s.elapse after).frameEnded.stamp f.items (s.elapse after).frameEnded
    generalize applyRaise f.sender (s.elapse after).frameEnded.stamp f.items (s.elapse after).frameEnded = u at *
    refine ⟨hok, by rw [State.withFlags, hloop]; rfl, by rw [State.withFlags, hline]; exact frameEnded_phase hlow,
      hbeat, hqueue, hinputs, hkeys, hstartup, hlibrary, fun h => absurd h hown, fun _ => ⟨?_, ?_, fun i hi => ?_⟩⟩
    · exact handsOn_congr (t := u) rfl rfl rfl rfl rfl rfl rfl rfl id hhands
    · rw [State.withFlags, hstartup, hroster]
      rfl
    · rw [hi] at htab hfaults hcounters
      obtain ⟨n, ⟨-, hrefresh, hinsert, hevict⟩, hfaults, hcounters⟩ : ∃ n,
          ItemTaken s.startup.ownAddr f.sender (s.beat.barCount, s.beat.beatIndex) i s.table u.table n
            ∧ u.faults = (if n = 0 then s.faults else s.faults ||| 0x80#8)
            ∧ u.counters = s.counters.put .tableOvf (min 255 (s.counters.tableOvf + n)) :=
        ⟨_, by rw [htab]; exact applyItem_taken _ _ _ i htable, hfaults, hcounters⟩
      have hnone : n = 0 → u.faults = s.faults ∧ u.counters = s.counters := fun hn => by
        subst hn
        refine ⟨hfaults, hcounters.trans ?_⟩
        rw [Nat.add_zero, Nat.min_eq_right (show s.counters.tableOvf ≤ 255 from hc.get_le .tableOvf)]
        exact counters_put_get s.counters .tableOvf
      refine ⟨fun e he hkey => ?_, fun hall hroom => ?_, fun hall hfull => ?_⟩
      · obtain ⟨hn, hperm⟩ := hrefresh e he hkey
        exact ⟨hperm, hnone hn⟩
      · obtain ⟨hn, hperm⟩ := hinsert hall hroom
        exact ⟨hperm, hnone hn⟩
      · obtain ⟨hn, hperm⟩ := hevict hall hfull
        subst hn
        refine ⟨hfaults, hcounters, fun l hl => ?_⟩
        rw [hl] at hperm
        exact hperm

/-- Settles O30. -/
theorem clearFrameRemovesTheEntry : Obligations.ClearFrameRemovesTheEntry := by
  unfold Obligations.ClearFrameRemovesTheEntry
  intro after slot f s h hk i hi
  obtain ⟨hsample, hends, hno⟩ := framesEnd_hands_on h
  obtain ⟨hr, hlow, hp, ht, hwf, hallowed, -⟩ := h
  have hhand := handOn_clear (s := (s.elapse after).frameEnded) hk hallowed
  rw [hk] at hends
  refine ⟨bitSample (s.elapse after), congrArg Host.Outcome.next (if_pos hends), rfl, ?_⟩
  rw [hsample, hhand]
  by_cases hown : f.sender = s.startup.ownAddr
  · rw [endClear_own (s := (s.elapse after).frameEnded) hown hno, if_pos hown, if_pos hown, if_neg fun h => h.1 hown]
    exact ⟨rfl, fun h => absurd hown h, rfl, rfl, rfl, frameEnded_phase hlow, rfl, rfl, rfl, rfl, rfl, rfl⟩
  · have hhands := takeClaim_handsOn ((s.elapse after).frameEnded.table.filter fun e =>
      !(f.items.any fun i => e.hasKey f.sender i.input)) (s.elapse after).frameEnded
    have htab := takeClaim_table ((s.elapse after).frameEnded.table.filter fun e =>
      !(f.items.any fun i => e.hasKey f.sender i.input)) (s.elapse after).frameEnded
    obtain ⟨-, -, hbeat, hline, hloop, hqueue, hroster, hfaults, hcounters, -, -, -, -, hinputs, hkeys, -, hstartup⟩ :=
      takeClaim_frame ((s.elapse after).frameEnded.table.filter fun e =>
        !(f.items.any fun i => e.hasKey f.sender i.input)) (s.elapse after).frameEnded
    rw [endClear_other (s := (s.elapse after).frameEnded) hown hno, if_neg hown, if_neg hown, applyClear]
    generalize takeClaim _ (s.elapse after).frameEnded = u at *
    refine ⟨?_, fun _ => handsOn_congr (t := u) rfl rfl rfl rfl rfl rfl rfl rfl id hhands, hfaults, ?_, by
      rw [State.withFlags, hloop]; rfl, by rw [State.withFlags, hline]; exact frameEnded_phase hlow, hbeat, hqueue, hinputs,
      hkeys, hcounters, hstartup⟩
    · refine htab.trans ?_
      simp only [hi, List.any_cons, List.any_nil, Bool.or_false]
      rfl
    · rw [State.withFlags, hstartup, hroster, if_congr (and_iff_right hown) rfl rfl]
      rfl

end

section
/-! PROOFS. A STATUS at its end (chapters 1, 2 and 3): O31. -/

namespace Sys2Proof.Machine

variable {s : State} {dt : Nat}

/-- The clock of a STATUS, adopted whole or only ahead of the own one (R18, R19). -/
theorem adopt_beat {sender : Nat} {bar : Byte} {beat : BitVec 4} (h : s.beat.lock ≠ .halted) :
    let ahead := (bar - s.beat.barCount).toNat
    (adopt sender bar beat s).beat =
      (if s.beat.lock = .locked ∧ s.beat.phaseConfirmed = true then
        (if 1 ≤ ahead ∧ ahead ≤ 127 ∨ ahead = 128 ∧ sender < s.startup.ownAddr then { s.beat with barCount := bar }
        else s.beat)
      else { s.beat with barCount := bar, beatIndex := beat, phaseConfirmed := true }) := by
  intro ahead
  have hwins : aheadWins bar s.beat.barCount sender s.startup.ownAddr = true
      ↔ 1 ≤ ahead ∧ ahead ≤ 127 ∨ ahead = 128 ∧ sender < s.startup.ownAddr := by
    simp only [aheadWins, barDistance, Bool.or_eq_true, Bool.and_eq_true, beq_iff_eq]
    exact or_congr (and_congr decide_eq_true_iff decide_eq_true_iff) (and_congr Iff.rfl decide_eq_true_iff)
  unfold adopt
  cases hl : s.beat.lock with
  | halted => exact absurd hl h
  | free | settling => exact (if_neg fun hc => LockState.noConfusion hc.1).symm
  | locked =>
    dsimp only
    by_cases hconfirmed : s.beat.phaseConfirmed = true
    · have hboth : LockState.locked = .locked ∧ s.beat.phaseConfirmed = true := ⟨rfl, hconfirmed⟩
      rw [if_pos hconfirmed, if_pos hboth]
      by_cases hahead : aheadWins bar s.beat.barCount sender s.startup.ownAddr = true
      · rw [if_pos hahead, if_pos (hwins.1 hahead)]
        rfl
      · rw [if_neg hahead, if_neg fun hd => hahead (hwins.2 hd)]
    · rw [if_neg hconfirmed, if_neg fun hc => hconfirmed hc.2]
      rfl

theorem adopt_counters (sender : Nat) (bar : Byte) (beat : BitVec 4) (s : State) :
    (adopt sender bar beat s).counters = s.counters := by
  simp

theorem statusStamp_mem (before after : State) : statusStamp before after ∈ [before.stamp, after.stamp] := by
  unfold statusStamp
  split
  · exact List.mem_cons_self
  · split <;> simp

/-- A STATUS of the slot's owner is kept for the pass, one of any other sender is counted; nothing else changes but that a
counter which comes to its end marks ATTN (R70, R71). -/
theorem noteOwner_effect (f : Frame) (hc : s.counters.misplaced ≤ 255) : ∃ counters port,
    noteOwner f s = { s with
      counters := counters, port := port
      loop := { s.loop with
        heard := if s.loop.owner = some f.sender ∧ f.sender ≠ s.startup.ownAddr then
          some ⟨f.faultByte, f.supplyLow, f.anyFault⟩ else s.loop.heard } }
    ∧ counters.misplaced =
        (if s.loop.owner = some f.sender then s.counters.misplaced else min 255 (s.counters.misplaced + 1))
    ∧ counters.tableOvf = s.counters.tableOvf
    ∧ (s.port.attn = true → port.attn = true) := by
  unfold noteOwner
  by_cases howner : s.loop.owner = some f.sender
  · refine ⟨s.counters, s.port, ?_, (if_pos howner).symm, rfl, id⟩
    rw [if_neg (not_not.2 howner)]
    by_cases hown : f.sender = s.startup.ownAddr
    · rw [if_pos hown, if_neg fun h => h.2 hown]
    · rw [if_neg hown, if_pos ⟨howner, hown⟩]
      rfl
  · refine ⟨(s.counted .misplaced).counters, (s.counted .misplaced).port, ?_, (if_neg howner).symm, rfl, fun h => ?_⟩
    · rw [if_pos howner, if_neg fun h => howner h.1]
      exact bump_eq .misplaced s hc
    · simp [State.counted, h]

theorem endStatus_own {slot : Slot} {f : Frame} (hown : f.sender = s.startup.ownAddr)
    (hno : s.loop.tx.map TxRecord.outcome ≠ some .complete) (hc : s.counters.misplaced ≤ 255) :
    endStatus slot f s = (noteOwner f (adopt f.sender f.bar f.beat s)).withConflict slot := by
  obtain ⟨counters, port, hnote, -⟩ := noteOwner_effect (s := adopt f.sender f.bar f.beat s) f (by simpa using hc)
  simp only [endStatus, hown, if_true]
  rw [← hown, hnote]
  exact conflictBy_own (by simpa using hown) (by simpa using hno)

theorem endStatus_other {slot : Slot} {f : Frame} (hother : f.sender ≠ s.startup.ownAddr) (hc : s.counters.Ok) :
    endStatus slot f s = noteOwner f (applyStatus f.sender (statusStamp s (adopt f.sender f.bar f.beat s)) f.items
      (adopt f.sender f.bar f.beat s)) := by
  obtain ⟨-, -, hcounters, -⟩ := applyStatus_effect (s := adopt f.sender f.bar f.beat s) f.sender
    (statusStamp s (adopt f.sender f.bar f.beat s)) f.items (by
      rw [adopt_counters]
      exact hc.get_le .tableOvf)
  simp only [endStatus, hother, if_false]
  obtain ⟨counters, port, hnote, -⟩ := noteOwner_effect (s := applyStatus f.sender
    (statusStamp s (adopt f.sender f.bar f.beat s)) f.items (adopt f.sender f.bar f.beat s)) f (by
      rw [hcounters, adopt_counters]
      exact hc.get_le .misplaced)
  rw [hnote]
  exact conflictBy_other (by simpa using hother)

/-- A STATUS for which there is room costs no entry, and the entries of other senders stand as they stood (R40). -/
theorem applyStatusItems_others (own sender : Nat) (stamp : Stamp) (items : List Item) {table : List Entry}
    (hroom : table.length + items.length ≤ 16) :
    (applyStatusItems own sender stamp items table).2 = 0
      ∧ (applyStatusItems own sender stamp items table).1.filter (fun e => e.origin != sender)
        = table.filter (fun e => e.origin != sender) := by
  have hshort : (dropUnlisted sender items table).length ≤ table.length := List.length_filter_le _ _
  obtain ⟨hlost, hothers⟩ := applyItems_others own sender stamp items (table := dropUnlisted sender items table) (by omega)
  refine ⟨hlost, hothers.trans ?_⟩
  rw [dropUnlisted, List.filter_filter]
  refine List.filter_congr fun e _ => ?_
  by_cases ho : e.origin = sender <;> simp [ho]

/-- The sender's part of the table is what its items say, each refreshed or new (R40, R41). -/
theorem takenIn_eq (i : Item) (sender : Nat) (stamp : Stamp) (table : List Entry) :
    i.takenIn sender stamp table =
      (let new : Entry := ⟨i.cue, i.priority, sender, i.input, .active, i.latched, i.silenced, 0, stamp.1, stamp.2⟩
      match table.find? fun e => e.origin == sender && e.input == i.input with
      | some e =>
        if e.cue = i.cue then
          { new with silenced := e.silenced || i.silenced, stampBar := e.stampBar, stampBeat := e.stampBeat }
        else new
      | none => new) := by
  have hsearch : (table.find? fun e => e.origin == sender && e.input == i.input)
      = table.find? (Entry.hasKey sender i.input) := rfl
  simp only [Item.takenIn, hsearch]
  cases hf : table.find? (Entry.hasKey sender i.input) with
  | none => rfl
  | some e =>
    obtain ⟨-, ho, hi⟩ := mem_hasKey_of_find? hf
    exact refreshed_eq ho hi stamp

end Sys2Proof.Machine

open Sys2Proof Sys2Proof.Machine

/-- Settles O31: the clock is adopted, the items are taken by the table, and the report is kept or counted. -/
theorem statusFrameReplacesTheSendersEntries : Obligations.StatusFrameReplacesTheSendersEntries := by
  unfold Obligations.StatusFrameReplacesTheSendersEntries
  intro after slot f s h hk hlock htable hc
  obtain ⟨hsample, hends, hno⟩ := framesEnd_hands_on h
  obtain ⟨hr, hlow, hp, ht, hwf, hallowed, -⟩ := h
  have hhand := handOn_status (s := (s.elapse after).frameEnded) hk hallowed
  rw [hk] at hends
  refine ⟨bitSample (s.elapse after), congrArg Host.Outcome.next (if_pos hends), rfl, ?_⟩
  rw [hsample, hhand]
  have hclock := adopt_beat (s := (s.elapse after).frameEnded) (sender := f.sender) (bar := f.bar) (beat := f.beat) hlock
  have hstamp := statusStamp_mem (s.elapse after).frameEnded (adopt f.sender f.bar f.beat (s.elapse after).frameEnded)
  obtain ⟨-, -, hline, hloop, hqueue, htab, hroster, hfaults, hcounters, hlibrary, hplayer, hdrive, -, -, -, hinputs, hkeys,
    -, hstartup, hport⟩ := adopt_frame f.sender f.bar f.beat (s.elapse after).frameEnded
  by_cases hown : f.sender = s.startup.ownAddr
  · rw [endStatus_own (s := (s.elapse after).frameEnded) hown hno (hc.get_le .misplaced)]
    generalize adopt f.sender f.bar f.beat (s.elapse after).frameEnded = t at *
    obtain ⟨counters, port, hnote, hmisplaced, -, -⟩ := noteOwner_effect (s := t) f (by
      rw [hcounters]
      exact hc.get_le .misplaced)
    have hsame : t.loop.owner = s.loop.owner ∧ t.startup.ownAddr = s.startup.ownAddr ∧ t.loop.heard = s.loop.heard := by
      rw [hloop, hstartup]
      exact ⟨rfl, rfl, rfl⟩
    obtain ⟨howner, haddr, hheard⟩ := hsame
    rw [howner, haddr, hheard] at hnote
    rw [howner, hcounters] at hmisplaced
    have howned : slot ≠ .openSlot := fun hopen => by
      rw [hk, hopen] at hallowed
      exact absurd hallowed (by decide)
    rw [hnote]
    refine ⟨?_, ?_, hroster, hqueue, hinputs, hkeys, hclock, hmisplaced, rfl, fun _ => ⟨htab, ?_, if_neg howned⟩,
      fun hother => absurd hown hother, fun hother => absurd hown hother⟩
    · exact htab ▸ htable
    · exact (congrArg Transceiver.rx hloop : )
    · exact (congrArg (· ||| 0x02#8) hfaults : )
  · rw [endStatus_other (s := (s.elapse after).frameEnded) hown hc]
    generalize adopt f.sender f.bar f.beat (s.elapse after).frameEnded = t at *
    generalize statusStamp (s.elapse after).frameEnded t = stamp at *
    obtain ⟨utable, ufaults, ucounters, uhands⟩ := applyStatus_effect (s := t) f.sender stamp f.items (by
      rw [hcounters]
      exact hc.get_le .tableOvf)
    obtain ⟨-, -, ubeat, uline, uloop, uqueue, uroster, -, -, -, -, uinputs, ukeys, -, ustartup⟩ :=
      applyStatus_frame f.sender stamp f.items t
    generalize applyStatus f.sender stamp f.items t = u at *
    obtain ⟨counters, port, hnote, hmisplaced, hovf, hattn⟩ := noteOwner_effect (s := u) f (by
      rw [ucounters, hcounters]
      exact hc.get_le .misplaced)
    have hsame : u.loop.owner = s.loop.owner ∧ u.startup.ownAddr = s.startup.ownAddr ∧ u.loop.heard = s.loop.heard := by
      rw [uloop, ustartup, hloop, hstartup]
      exact ⟨rfl, rfl, rfl⟩
    obtain ⟨howner, haddr, hheard⟩ := hsame
    rw [howner, haddr, hheard] at hnote
    rw [howner, ucounters, hcounters] at hmisplaced
    rw [hnote]
    have hitems := applyItems_taken s.startup.ownAddr f.sender stamp f.items
      (filter_tableOk (fun e => e.origin != f.sender || f.items.any fun i => i.input == e.input) _ htable)
    have hafter : u.table = (applyStatusItems s.startup.ownAddr f.sender stamp f.items s.table).1 := by
      rw [utable, hstartup, htab]
      rfl
    have hlost : (applyStatusItems t.startup.ownAddr f.sender stamp f.items t.table).2
        = (applyStatusItems s.startup.ownAddr f.sender stamp f.items s.table).2 := by
      rw [hstartup, htab]
      rfl
    rw [hlost, hcounters] at ucounters
    rw [hlost, hfaults] at ufaults
    have hkeep := applyStatusItems_others s.startup.ownAddr f.sender stamp f.items (table := s.table)
    have hstamps : stamp ∈ [(s.beat.barCount, s.beat.beatIndex), (u.beat.barCount, u.beat.beatIndex)] := ubeat ▸ hstamp
    refine ⟨?_, ?_, uroster.trans hroster, uqueue.trans hqueue, uinputs.trans hinputs, ukeys.trans hkeys,
      ubeat.trans hclock, hmisplaced, rfl, fun heq => absurd heq hown, fun _ => ⟨?_, ?_, stamp, hstamps, _, ?_, ?_, ufaults⟩,
      fun _ hroom => ⟨?_, ?_, fun hnodup => ⟨stamp, hstamps, ?_⟩⟩⟩
    · rw [hafter]
      exact htable.applyStatusItems _ _ _ _
    · exact (congrArg Transceiver.rx (uloop.trans hloop) : )
    · exact (congrArg Transceiver.conflictSeen (uloop.trans hloop) : )
    · exact handsOn_congr (s := t) (t := u) htab.symm hplayer.symm hlibrary.symm (by rw [hdrive]; rfl) (by rw [hdrive]; rfl)
        rfl rfl rfl hattn uhands
    · rw [hafter]
      exact hitems
    · rw [hovf, ucounters]
      rfl
    · rw [show (applyStatusItems s.startup.ownAddr f.sender stamp f.items s.table).2 = 0 from (hkeep hroom).1] at ufaults
      exact ufaults
    · rw [hafter]
      exact (hkeep hroom).2
    · rw [hafter]
      exact (applyStatusItems_senders s.startup.ownAddr f.sender stamp f.items htable hroom hnodup).trans
        (.of_eq (List.map_congr_left fun i _ => takenIn_eq i f.sender stamp s.table))
end

section
/-! PROOFS. A SILENCE and a RESTORE at their end (chapters 2 and 3): O32 and O33. -/

namespace Sys2Proof.Machine

variable {s : State} {dt : Nat}

theorem Drive.withdrawPattern_of_pattern {d : Drive} (h : d.source = .pattern) : d.withdrawPattern = d.hush := by
  rw [Drive.withdrawPattern, h]

theorem Drive.withdrawPattern_of_chirp {d : Drive} (h : d.source = .chirp) :
    d.withdrawPattern = { d with behind := none } := by
  unfold Drive.withdrawPattern
  split
  · next hp => exact absurd (h.symm.trans hp) (by decide)
  · rfl
  · next hp => exact absurd (h.symm.trans hp) (by decide)
  · next hp => exact absurd (h.symm.trans hp) (by decide)

theorem headOf_silenceEntries (table : List Entry) : headOf (silenceEntries table) = headOf table := by
  cases table <;> rfl

theorem unsilencedPresent_silenceEntries (table : List Entry) : unsilencedPresent (silenceEntries table) = false := by
  simp [unsilencedPresent, silenceEntries]

/-- A silence leaves the head, so that the player keeps all but the sound indication (R47, R127). -/
theorem applySilence_effect (s : State) :
    (applySilence s).table = s.table.map (fun e => { e with silenced := true })
      ∧ (applySilence s).player = { s.player with sound := false }
      ∧ (applySilence s).drive = (if s.player.sound && (s.player.mode == .intro || s.player.mode == .cycle) then
          s.drive.withdrawPattern else s.drive) := by
  obtain ⟨-, -, -, -, -, -, hhead⟩ := handHead_effect s.table (s.setTable (silenceEntries s.table))
  rw [if_pos (by rw [State.setTable_table, headOf_silenceEntries])] at hhead
  obtain ⟨hp, hd, -⟩ := handSound_effect (s.setTable (silenceEntries s.table))
  have hclaim : applySilence s = handSound (s.setTable (silenceEntries s.table)) := by
    rw [applySilence, takeClaim, hhead]
  rw [State.setTable_table, unsilencedPresent_silenceEntries] at hp hd
  refine ⟨takeClaim_table _ _, by rw [hclaim, hp]; rfl, ?_⟩
  rw [hclaim, hd, Bool.not_false, Bool.and_true]
  rfl

theorem endSilence_own {slot : Slot} {f : Frame} (hown : f.sender = s.startup.ownAddr)
    (hno : s.loop.tx.map TxRecord.outcome ≠ some .complete) : endSilence slot f s = (applySilence s).withConflict slot := by
  have hnot : ¬ s.ownFrame = true := by rwa [ownFrame_iff]
  rw [endSilence, if_neg hnot]
  exact settle_own (by simpa using hown) (by simpa using hno)

theorem endSilence_other {slot : Slot} {f : Frame} (hother : f.sender ≠ s.startup.ownAddr)
    (hno : s.loop.tx.map TxRecord.outcome ≠ some .complete) : endSilence slot f s = (applySilence s).withFlags f := by
  have hnot : ¬ s.ownFrame = true := by rwa [ownFrame_iff]
  rw [endSilence, if_neg hnot]
  exact settle_other (by simpa using hother) (by simpa using hno)

/-- The table and the queue that a restore leaves, seen from a state that has the same entries, messages and requests. -/
theorem applyRestore_of_agree {s v : State} (haddr : v.startup.ownAddr = s.startup.ownAddr) (htable : v.table = s.table)
    (hqueue : v.queue = s.queue) (hrequest : ∀ i, (v.input i).request = (s.input i).request) :
    (applyRestore v).table = s.table.filterMap (fun e =>
        if e.origin = s.startup.ownAddr then (if (s.input e.input).request = .held then none else some e)
        else if e.state = .orphaned then none else some { e with state := .provisional, miss := 0 })
      ∧ (applyRestore v).queue.messages = s.queue.messages.filter (fun m =>
        match m.news with
        | .raise i _ => (s.input i).request != .held
        | .clear _ _ | .silence | .restore => true) := by
  have hentries := applyRestore_table v
  have hmessages := applyRestore_queue v
  simp only [haddr, htable, hrequest] at hentries
  simp only [hqueue, hrequest] at hmessages
  exact ⟨hentries, hmessages⟩

/-- A conflict that the same RESTORE brings is reported after the restore or before it, as the order is open (R69, R106). -/
theorem endRestore_own {slot : Slot} {f : Frame} (hown : f.sender = s.startup.ownAddr)
    (hno : s.loop.tx.map TxRecord.outcome ≠ some .complete) :
    endRestore slot f s = (applyRestore s).withConflict slot ∨ endRestore slot f s = applyRestore (s.withConflict slot) := by
  have hnot : ¬ s.ownFrame = true := by rwa [ownFrame_iff]
  rw [endRestore, if_neg hnot, if_pos hown]
  split
  · exact .inl (conflictBy_own (by simpa using hown) (by simpa using hno))
  · rw [conflictBy_own hown hno]
    exact .inr rfl

theorem endRestore_other {slot : Slot} {f : Frame} (hother : f.sender ≠ s.startup.ownAddr)
    (hno : s.loop.tx.map TxRecord.outcome ≠ some .complete) : endRestore slot f s = (applyRestore s).withFlags f := by
  have hnot : ¬ s.ownFrame = true := by rwa [ownFrame_iff]
  rw [endRestore, if_neg hnot, if_neg hother]
  exact flagsBy_other (by simpa using hother) (by simpa using hno)

theorem withFault_attn (n : FaultName) (h : s.port.attn = true) : (s.withFault n).port.attn = true := by
  simp [State.withFault, h]

theorem withConflict_peerMissing (slot : Slot) (h : hasFault s.faults .peerMissing = anyMissing s.roster) :
    hasFault (s.withConflict slot).faults .peerMissing = anyMissing (s.withConflict slot).roster := by
  refine Eq.trans ?_ h
  simp [State.withConflict, State.withFault, hasFault_or]

/-- A conflict that the restore clears leaves no trace in the fault set (R51, R106). -/
theorem applyRestore_withConflict_faults (slot : Slot) (h : hasFault s.faults .peerMissing = anyMissing s.roster) :
    (applyRestore (s.withConflict slot)).faults = s.faults &&& 0x7C#8 := by
  rw [applyRestore_faults (withConflict_peerMissing slot h)]
  change (s.faults ||| 0x02#8) &&& 0x7C#8 = _
  exact (BitVec.and_or_distrib_right (x := s.faults) (y := 0x02#8) (z := 0x7C#8)).trans BitVec.or_zero

end Sys2Proof.Machine

open Sys2Proof Sys2Proof.Machine

/-- Settles O32: the silence is a claim that leaves the head. -/
theorem silenceFrameSilencesEveryEntry : Obligations.SilenceFrameSilencesEveryEntry := by
  unfold Obligations.SilenceFrameSilencesEveryEntry
  intro after slot f s h hk
  obtain ⟨hsample, hends, hno⟩ := framesEnd_hands_on h
  obtain ⟨hr, hlow, hp, ht, hwf, hallowed, -⟩ := h
  have hhand := handOn_silence (s := (s.elapse after).frameEnded) hk hallowed
  rw [hk] at hends
  refine ⟨bitSample (s.elapse after), congrArg Host.Outcome.next (if_pos hends), rfl, ?_⟩
  rw [hsample, hhand]
  obtain ⟨htable, hplayer, hdrive⟩ := applySilence_effect (s.elapse after).frameEnded
  have hframe := applySilence_frame (s.elapse after).frameEnded
  have hown := endSilence_own (s := (s.elapse after).frameEnded) (slot := slot) (f := f) (hno := hno)
  have hother := endSilence_other (s := (s.elapse after).frameEnded) (slot := slot) (f := f) (hno := hno)
  generalize applySilence (s.elapse after).frameEnded = u at *
  obtain ⟨-, -, hbeat, hline, hloop, hqueue, hroster, hfaults, hcounters, -, -, -, -, hinputs, hkeys, -, hstartup⟩ := hframe
  have hwithdrawn : s.player.sound = true → s.player.mode = .intro ∨ s.player.mode = .cycle →
      u.drive = (s.elapse after).drive.withdrawPattern := fun hsound hmode => by
    refine hdrive.trans (if_pos ?_)
    rw [Bool.and_eq_true, Bool.or_eq_true, beq_iff_eq, beq_iff_eq]
    exact ⟨hsound, hmode⟩
  have hpattern : s.player.sound = true → s.player.mode = .intro ∨ s.player.mode = .cycle → s.drive.source = .pattern →
      u.drive.source = .none ∧ u.drive.level = 0 ∧ u.drive.intensity = s.drive.intensity
        ∧ u.drive.beaconLevel = s.drive.beaconLevel := fun hsound hmode hsource => by
    have hs : (s.elapse after).drive.source = .pattern := hsource
    rw [hwithdrawn hsound hmode, Drive.withdrawPattern_of_pattern hs]
    exact ⟨rfl, rfl, rfl, rfl⟩
  have hchirp : s.player.sound = true → s.player.mode = .intro ∨ s.player.mode = .cycle → s.drive.source = .chirp →
      u.drive = { (s.elapse after).drive with behind := none } := fun hsound hmode hsource => by
    have hs : (s.elapse after).drive.source = .chirp := hsource
    rw [hwithdrawn hsound hmode, Drive.withdrawPattern_of_chirp hs]
  have hrx : u.loop.rx = none := (congrArg Transceiver.rx hloop : )
  by_cases haddr : f.sender = s.startup.ownAddr
  · rw [hown haddr]
    refine ⟨htable, (congrArg Player.sound hplayer : ), hplayer, hpattern, hchirp, hroster.trans (if_neg fun h => h.1 haddr).symm, ?_,
      hrx, hbeat, hqueue, hinputs, hkeys, hcounters⟩
    rw [if_pos haddr]
    exact (congrArg (· ||| 0x02#8) hfaults : )
  · rw [hother haddr]
    refine ⟨htable, (congrArg Player.sound hplayer : ), hplayer, hpattern, hchirp, ?_, hfaults.trans (if_neg haddr).symm,
      hrx, hbeat, hqueue, hinputs, hkeys, hcounters⟩
    rw [if_congr (and_iff_right haddr) rfl rfl, State.withFlags, hstartup, hroster]
    rfl

/-- Settles O33: the restore is applied before or after the conflict it clears, in both orders. -/
theorem restoreFrameRestores : Obligations.RestoreFrameRestores := by
  unfold Obligations.RestoreFrameRestores
  intro after slot f s h hk hfaults
  obtain ⟨hsample, hends, hno⟩ := framesEnd_hands_on h
  obtain ⟨hr, hlow, hp, ht, hwf, hallowed, -⟩ := h
  have hhand := handOn_restore (s := (s.elapse after).frameEnded) hk hallowed
  rw [hk] at hends
  refine ⟨bitSample (s.elapse after), congrArg Host.Outcome.next (if_pos hends), rfl, ?_⟩
  rw [hsample, hhand]
  obtain ⟨htable, hqueue⟩ := applyRestore_of_agree (s := s) (v := (s.elapse after).frameEnded) rfl rfl rfl
    (request_elapse after s)
  obtain ⟨htable', hqueue'⟩ := applyRestore_of_agree (s := s) (v := (s.elapse after).frameEnded.withConflict slot) rfl rfl
    rfl (request_elapse after s)
  have hclear := applyRestore_faults (s := (s.elapse after).frameEnded) hfaults.1
  have hconflict := applyRestore_withConflict_faults (s := (s.elapse after).frameEnded) slot hfaults.1
  by_cases haddr : f.sender = s.startup.ownAddr
  · have hroster : ∀ roster : List RosterEntry, roster = (if s.startup.station = .member ∧ f.sender ≠ s.startup.ownAddr then
        roster.modify f.sender (fun e => { e with supplyLow := f.supplyLow, anyFault := f.anyFault }) else roster) :=
      fun _ => (if_neg fun h => h.2 haddr).symm
    obtain hend | hend := endRestore_own (s := (s.elapse after).frameEnded) (slot := slot) haddr hno
    · obtain ⟨-, -, hbeat, -, -, hcounters, -, -, -, -, hkeys, -⟩ := applyRestore_frame (s.elapse after).frameEnded
      rw [hend]
      refine ⟨htable, applyRestore_inputs _, hqueue, ?_, fun hother => absurd haddr hother,
        fun _ => ?_, ?_, hbeat, hkeys, hcounters⟩
      · exact handsOn_congr (t := applyRestore (s.elapse after).frameEnded) rfl rfl rfl rfl rfl rfl rfl rfl
          (withFault_attn (s := applyRestore (s.elapse after).frameEnded) .addressConflict)
          (applyRestore_handsOn (s.elapse after).frameEnded)
      · exact List.mem_cons_of_mem _ (List.mem_singleton.2 (congrArg (· ||| 0x02#8) hclear))
      · exact (applyRestore_roster (s.elapse after).frameEnded).trans (hroster _)
    · obtain ⟨-, -, hbeat, -, -, hcounters, -, -, -, -, hkeys, -⟩ :=
        applyRestore_frame ((s.elapse after).frameEnded.withConflict slot)
      rw [hend]
      refine ⟨htable', applyRestore_inputs _, hqueue', ?_, fun hother => absurd haddr hother,
        fun _ => ?_, ?_, hbeat, hkeys, hcounters⟩
      · exact handsOn_congr rfl rfl rfl rfl rfl rfl rfl rfl id
          (applyRestore_handsOn ((s.elapse after).frameEnded.withConflict slot))
      · rw [hconflict]
        exact List.mem_cons_self
      · exact (applyRestore_roster ((s.elapse after).frameEnded.withConflict slot)).trans (hroster _)
  · obtain ⟨-, -, hbeat, -, -, hcounters, -, -, -, -, hkeys, -, hstartup⟩ := applyRestore_frame (s.elapse after).frameEnded
    rw [endRestore_other (s := (s.elapse after).frameEnded) haddr hno]
    refine ⟨htable, applyRestore_inputs _, hqueue, ?_, fun _ => hclear,
      fun h => absurd h haddr, ?_, hbeat, hkeys, hcounters⟩
    · exact handsOn_congr (t := applyRestore (s.elapse after).frameEnded) rfl rfl rfl rfl rfl rfl rfl rfl id
        (applyRestore_handsOn (s.elapse after).frameEnded)
    · rw [State.withFlags, hstartup, applyRestore_roster]
      exact (if_congr (and_iff_left haddr) rfl rfl).symm
end

section
/-! PROOFS. The sender and the receiver at one sample (chapters 3 and 11): O35 and O36. -/

namespace Sys2Proof.Machine

variable {s : State} {dt : Nat}

/-! ### What the end of a frame leaves of the sender -/

theorem conflictBy_tx (slot : Slot) (f : Frame) (s : State) : (conflictBy slot f s).loop.tx = s.loop.tx := by
  unfold conflictBy
  (repeat' split) <;> simp

theorem noteOwner_tx (f : Frame) (s : State) : (noteOwner f s).loop.tx = s.loop.tx := by
  unfold noteOwner
  (repeat' split) <;> simp

theorem endStatus_tx (slot : Slot) (f : Frame) (s : State) : (endStatus slot f s).loop.tx = s.loop.tx := by
  unfold endStatus
  dsimp only
  split <;> simp [conflictBy_tx, noteOwner_tx]

theorem endRestore_tx (slot : Slot) (f : Frame) (s : State) : (endRestore slot f s).loop.tx = s.loop.tx := by
  unfold endRestore
  (repeat' split) <;> simp [conflictBy_tx]

theorem handOn_tx (slot : Slot) (f : Frame) (s : State) : (handOn slot f s).loop.tx = s.loop.tx := by
  unfold handOn endRaise endClear endSilence
  (repeat' split) <;> simp [conflictBy_tx, endStatus_tx, endRestore_tx]

theorem judgeFrame_tx (r : Reception) (s : State) : (judgeFrame r s).loop.tx = s.loop.tx := by
  unfold judgeFrame
  (repeat' split) <;> simp [handOn_tx]

/-- A sample that begins no frame leaves the sender's record (R199). -/
theorem receiverSample_tx (h : s.line.phase = .start → s.pins.dataLow = false) :
    (receiverSample s).loop.tx = s.loop.tx := by
  unfold receiverSample
  split
  · cases hp : s.line.phase with
    | start => rw [sampleStart_gone (h hp)]
    | bits => rfl
    | stop =>
      dsimp only
      unfold sampleStop
      split
      · rfl
      · dsimp only
        split
        · rw [judgeFrame_tx]
          rfl
        · rfl
    | idle | gap | waitHigh => rfl
  · rfl

/-- A sample that neither begins nor ends anything changes the receiver's line at most (R199). -/
theorem receiverSample_line (hstop : s.line.phase ≠ .stop) (h : s.line.phase = .start → s.pins.dataLow = false) :
    ∃ l, receiverSample s = { s with line := l } := by
  unfold receiverSample
  split
  · cases hp : s.line.phase with
    | start => exact ⟨_, sampleStart_gone (h hp)⟩
    | bits => exact ⟨_, sampleData_eq s⟩
    | stop => exact absurd hp hstop
    | idle | gap | waitHigh => exact ⟨s.line, rfl⟩
  · exact ⟨s.line, rfl⟩

/-! ### The frame that the station has just sent -/

theorem conflictBy_sent {slot : Slot} {f : Frame} (h : s.ownFrame = true) : conflictBy slot f s = s :=
  if_neg fun hc => hc.2 h

theorem flagsBy_sent {f : Frame} (h : s.ownFrame = true) : flagsBy f s = s :=
  if_neg fun hc => hc.2.1 h

/-- The station's own frame, sent whole: only the clock of a STATUS is offered for adoption (R18, R67, R68). -/
theorem handOn_sent {slot : Slot} {f : Frame} (h : s.ownFrame = true) (hallowed : slotAllowed f.kind slot = true)
    (hown : f.sender = s.startup.ownAddr) (howner : slot ≠ .openSlot → s.loop.owner = some s.startup.ownAddr) :
    handOn slot f s = if f.kind = .status then adopt f.sender f.bar f.beat s else s := by
  cases hk : f.kind with
  | raise =>
    rw [handOn_raise hk hallowed]
    simp only [endRaise, hown, if_true, conflictBy_sent h, flagsBy_sent h]
    rfl
  | clear =>
    rw [handOn_clear hk hallowed]
    simp only [endClear, hown, if_true, conflictBy_sent h, flagsBy_sent h]
    rfl
  | silence =>
    rw [handOn_silence hk hallowed]
    simp only [endSilence, h, if_true, conflictBy_sent h, flagsBy_sent h]
    rfl
  | restore =>
    rw [handOn_restore hk hallowed]
    simp only [endRestore, h, if_true]
    rfl
  | status =>
    have howned : slot ≠ .openSlot := fun hopen => by
      rw [hk, hopen] at hallowed
      exact absurd hallowed (by decide)
    have hsent : (adopt f.sender f.bar f.beat s).ownFrame = true := by
      unfold State.ownFrame
      rw [show (adopt f.sender f.bar f.beat s).loop = s.loop by simp]
      exact h
    have hnote : noteOwner f (adopt f.sender f.bar f.beat s) = adopt f.sender f.bar f.beat s := by
      rw [noteOwner, if_neg (by simp [howner howned, hown]), if_pos (by simp [hown])]
    rw [handOn_status hk hallowed, endStatus, if_pos hown, hnote, conflictBy_sent hsent]
    rfl

/-- The queue outlives the frame of another station that ends while the station completes its own: a restore is then its own
too (R51, R68). -/
theorem handOn_queue_of_sent {slot : Slot} {f : Frame} (h : s.ownFrame = true) : (handOn slot f s).queue = s.queue := by
  unfold handOn endRestore
  rw [if_pos h]
  (repeat' split) <;> simp

/-! ### DATA_LINE is a fault of the line alone -/

theorem setFault_dataLine {n : FaultName} (h : n ≠ .dataLine) (s : State) :
    hasFault (setFault n s).faults .dataLine = hasFault s.faults .dataLine := by
  simp [setFault_eq, State.withFault, hasFault_or, h]

theorem clearFault_dataLine {n : FaultName} (h : n ≠ .dataLine) (s : State) :
    hasFault (clearFault n s).faults .dataLine = hasFault s.faults .dataLine := by
  simp [clearFault_eq, State.withoutFault, hasFault_and, h]

theorem conflictBy_dataLine (slot : Slot) (f : Frame) (s : State) :
    hasFault (conflictBy slot f s).faults .dataLine = hasFault s.faults .dataLine := by
  unfold conflictBy
  (repeat' split) <;> simp [setFault_dataLine]

theorem moveRoster_dataLine (r : List RosterEntry) (s : State) :
    hasFault (moveRoster r s).faults .dataLine = hasFault s.faults .dataLine := by
  unfold moveRoster
  dsimp only
  (repeat' split) <;> simp [setFault_dataLine, clearFault_dataLine]

theorem applyRestore_dataLine (s : State) :
    hasFault (applyRestore s).faults .dataLine = hasFault s.faults .dataLine := by
  simp [applyRestore_faults_of_roster, hasFault_and, moveRoster_dataLine]

theorem countOverflow_dataLine (n : Nat) (s : State) :
    hasFault (countOverflow n s).faults .dataLine = hasFault s.faults .dataLine := by
  unfold countOverflow
  split
  · rfl
  · simp [setFault_dataLine]

theorem handOn_dataLine (slot : Slot) (f : Frame) (s : State) :
    hasFault (handOn slot f s).faults .dataLine = hasFault s.faults .dataLine := by
  unfold handOn endRaise endClear endSilence endStatus endRestore applyRaise applyStatus
  (repeat' split) <;> simp [conflictBy_dataLine, countOverflow_dataLine, applyRestore_dataLine]

/-- The queue and DATA_LINE outlive a sample at which the station has completed its frame (R92, R109). -/
theorem receiverSample_of_sent (hlow : s.pins.dataLow = false) (h : s.ownFrame = true) :
    (receiverSample s).queue = s.queue
      ∧ hasFault (receiverSample s).faults .dataLine = hasFault s.faults .dataLine := by
  by_cases hstop : s.line.phase = .stop
  · have hjudge : ∀ r : Reception, (judgeFrame r s.frameEnded).queue = s.queue
        ∧ hasFault (judgeFrame r s.frameEnded).faults .dataLine = hasFault s.faults .dataLine := fun r => by
      unfold judgeFrame
      (repeat' split)
      · simp [State.frameEnded]
      · exact ⟨handOn_queue_of_sent (s := s.frameEnded) h, handOn_dataLine _ _ s.frameEnded⟩
      · simp [State.frameEnded]
    unfold receiverSample
    split
    · rw [hstop]
      dsimp only
      cases hrx : s.loop.rx with
      | none =>
        rw [sampleStop_of_none hrx]
        exact ⟨rfl, rfl⟩
      | some r =>
        cases hwhole : (r.take s.line.shift s.pins.dataLow).whole with
        | false =>
          rw [sampleStop_goes_on hrx hwhole]
          exact ⟨rfl, rfl⟩
        | true =>
          rw [sampleStop_ends hrx hwhole]
          exact hjudge _
    · exact ⟨rfl, rfl⟩
  · obtain ⟨l, hline⟩ := receiverSample_line hstop fun _ => hlow
    rw [hline]
    exact ⟨rfl, rfl⟩

/-- The clock of the station's own STATUS is adopted by it only where it lies ahead (R18, R19). -/
theorem adopt_beat_of_own {sender : Nat} {bar : Byte} {beat : BitVec 4} (h : s.beat.lock ≠ .halted)
    (hown : sender = s.startup.ownAddr) :
    let ahead := (bar - s.beat.barCount).toNat
    (adopt sender bar beat s).beat =
      (if s.beat.lock = .locked ∧ s.beat.phaseConfirmed = true then
        (if 1 ≤ ahead ∧ ahead ≤ 127 then { s.beat with barCount := bar } else s.beat)
      else { s.beat with barCount := bar, beatIndex := beat, phaseConfirmed := true }) := by
  intro ahead
  have hclock := adopt_beat (sender := sender) (bar := bar) (beat := beat) h
  dsimp only at hclock
  rw [hclock, if_congr (or_iff_left fun hb => absurd hb.2 (Nat.not_lt.2 hown.ge)) rfl rfl]

/-! ### The moment of each -/

theorem BitDue.mismatchNow {r : TxRecord} (h : BitDue r s) (hlevel : r.bitNow = s.pins.dataLow) : s.mismatchNow = true := by
  simp [State.mismatchNow, h.readBackDue, h.tx, h.level, hlevel, State.dataLevel]

theorem BitDue.completesNow {r : TxRecord} (h : BitDue r s) (hlevel : r.bitNow = !s.pins.dataLow) (h9 : r.bit = 9)
    (hlast : r.byte + 1 = r.bytes.length) : s.completesNow = true := by
  simp [State.completesNow, h.readBackDue, h.tx, h.level, hlevel, State.dataLevel, h9, hlast]

/-- What a mismatch leaves besides the abandoned frame: a count or one fault (R75, R89 to R91). -/
theorem readBack_abandoned {r : TxRecord} (h : BitDue r s) (hlevel : r.bitNow = s.pins.dataLow)
    (hc : s.counters.arbLoss ≤ 255) : ∃ faults counters port,
    readBack s = { s.gaveUp r with faults := faults, counters := counters, port := port }
    ∧ counters = (if r.bitNow = true ∧ r.slot = .openSlot ∧ r.byte ≤ 1 then
        s.counters.put .arbLoss (min 255 (s.counters.arbLoss + 1)) else s.counters)
    ∧ faults = (if r.bitNow = false then s.faults ||| 0x40#8
        else if r.slot = .openSlot ∧ r.byte ≤ 1 then s.faults else s.faults ||| 0x02#8) := by
  rw [readBack_of_mismatch h hlevel hc]
  cases hbit : r.bitNow with
  | false => exact ⟨_, _, _, if_pos rfl, (if_neg fun h => Bool.noConfusion h.1).symm, (if_pos rfl).symm⟩
  | true =>
    rw [if_neg (Bool.noConfusion : ¬ true = false), if_congr (and_iff_right rfl) rfl rfl,
      if_neg (Bool.noConfusion : ¬ true = false)]
    split
    · exact ⟨_, _, _, rfl, rfl, rfl⟩
    · exact ⟨_, _, _, rfl, rfl, rfl⟩

end Sys2Proof.Machine

open Sys2Proof Sys2Proof.Machine

/-- Settles O35: the sender gives up first, and the receiver's half of the sample leaves that. -/
theorem readBackMismatchAbandons : Obligations.ReadBackMismatchAbandons := by
  unfold Obligations.ReadBackMismatchAbandons
  intro after s hc r htx hsending hfresh hwithin htime recessive hlevel
  have hdue := BitDue.elapse (dt := after) htx hsending hfresh hwithin htime
  obtain ⟨faults, counters, port, hback, hcounters, hfaults⟩ := readBack_abandoned hdue hlevel (hc.get_le .arbLoss)
  refine ⟨bitSample (s.elapse after), congrArg Host.Outcome.next (if_pos (hdue.mismatchNow hlevel)), rfl,
    fun hstart => ?_, fun hstop hstart => ?_⟩
  · rw [bitSample, hback]
    exact receiverSample_tx (s := { (s.elapse after).gaveUp { r with bitTimer := r.bitTimer + after } with
      faults := faults, counters := counters, port := port }) hstart
  · obtain ⟨l, hline⟩ := receiverSample_line (s := readBack (s.elapse after)) (by rw [hback]; exact hstop)
      (by rw [hback]; exact hstart)
    rw [bitSample, hline, hback]
    exact ⟨rfl, rfl, hcounters, hfaults, rfl, rfl, rfl, rfl⟩

/-- Settles O36: the sender completes first, and the frame that then ends is its own. -/
theorem cleanStopBitCompletesTheFrame : Obligations.CleanStopBitCompletesTheFrame := by
  unfold Obligations.CleanStopBitCompletesTheFrame
  intro after s r htx hsending hfresh h9 hlast htime hlow
  have hdue := BitDue.elapse (dt := after) htx hsending hfresh (by omega) (by omega)
  have hlevel : ({ r with bitTimer := r.bitTimer + after } : TxRecord).bitNow = !(s.elapse after).pins.dataLow := by
    rw [show (s.elapse after).pins.dataLow = false from hlow]
    simp [TxRecord.bitNow, bitLevel, h9]
  have hback := readBack_of_complete hdue hlevel h9 hlast
  have hsent : (readBack (s.elapse after)).ownFrame = true := by
    rw [hback]
    rfl
  have hhigh : (readBack (s.elapse after)).pins.dataLow = false := by
    rw [hback]
    exact hlow
  obtain ⟨hqueue, hfault⟩ := receiverSample_of_sent hhigh hsent
  refine ⟨bitSample (s.elapse after), congrArg Host.Outcome.next (if_pos (hdue.completesNow hlevel h9 hlast)), rfl,
    ?_, ?_, ?_, fun hstop => ?_, fun slot f hends hlock => ?_⟩
  · rw [bitSample, receiverSample_tx fun _ => hhigh, hback]
    rfl
  · rw [bitSample, hqueue, hback]
    exact apply_ite TxQueue.messages _ _ _
  · rw [bitSample, hfault, hback]
    simp [State.withoutFault, hasFault_and]
  · obtain ⟨l, hline⟩ := receiverSample_line (s := readBack (s.elapse after)) (by rw [hback]; exact hstop) fun _ => hhigh
    rw [bitSample, hline, hback]
    exact ⟨rfl, rfl, rfl, rfl, rfl, rfl⟩
  · obtain ⟨hr, hp, ht, hwf, hallowed, hown, howner, -, began, first, hrx, hbytes⟩ := hends
    have hbyte : (s.elapse after).line.byteTimer = s.line.byteTimer + after := elapse_byteTimer (by simp [hp]) (by simp [hp]) after
    obtain ⟨hsample, -⟩ := receiverSample_hands_on (s := readBack (s.elapse after)) (slot := slot) (f := f) (began := began)
      (first := first) (by rw [hback]; exact hr) hhigh (by rw [hback]; exact hp)
      (by rw [hback]; exact hbyte.symm ▸ ht) hwf
      (by rw [hback]; exact hrx) (by rw [hback]; exact hbytes)
    have hhand := handOn_sent (s := (readBack (s.elapse after)).frameEnded) (slot := slot) (f := f) hsent hallowed
      (by rw [hback]; exact hown) (by rw [hback]; exact howner)
    have hnot : (s.elapse after).endsNow .restore = false := by
      unfold State.endsNow
      split
      · rw [hsent, Bool.not_true, Bool.and_false]
      · rfl
    have hrestore : f.kind = .restore → exec (.restoreFrame after) s = .next (s.elapse after) := fun _ =>
      congrArg Host.Outcome.next (if_neg (Bool.eq_false_iff.1 hnot))
    have hphase := frameEnded_phase hhigh
    have hclock := adopt_beat_of_own (s := (readBack (s.elapse after)).frameEnded) (bar := f.bar) (beat := f.beat)
      (sender := f.sender) (by rw [hback]; exact hlock) (by rw [hback]; exact hown)
    rw [bitSample, hsample, hhand]
    by_cases hk : f.kind = .status
    · obtain ⟨-, -, hline, hloop, -, htable, hroster, hfaults, hcounters, -, hplayer, -, -, -, -, hinputs, -⟩ :=
        adopt_frame f.sender f.bar f.beat (readBack (s.elapse after)).frameEnded
      rw [if_pos hk]
      generalize adopt f.sender f.bar f.beat (readBack (s.elapse after)).frameEnded = t at *
      rw [hline, hloop, htable, hroster, hfaults, hcounters, hplayer, hinputs]
      refine ⟨rfl, hphase, ?_, ?_, ?_, ?_, ?_, ?_, ?_, ?_, hrestore, Eq.trans ?_ (if_neg (not_not.2 hk)).symm⟩
      on_goal 9 => rw [hclock]
      all_goals
        rw [hback]
        rfl
    · rw [if_neg hk]
      refine ⟨rfl, hphase, ?_, ?_, ?_, ?_, ?_, ?_, ?_, ?_, hrestore, Eq.trans ?_ (if_pos hk).symm⟩
      all_goals
        rw [hback]
        rfl
end

section
/-! PROOFS. The converter, the scan and the supply monitor (chapters 8 and 9): O39, O41, O42 and O43. -/

namespace Sys2Proof.Machine

variable {s : State} {dt : Nat}

/-! ### Requests (section 8.1) -/

/-- A scan request begins a conversion at an idle converter and waits at any other (R150). -/
theorem Converter.requestScan_eq (i : Nat) (c : Converter) : c.requestScan i =
    if c.activity = .idle then ⟨.scan i, 0, false, true, c.pendingSupply, c.pendingScan⟩
    else { c with pendingScan := some i } := by
  unfold Converter.requestScan
  cases hc : c.activity <;> rfl

/-- A supply request also goes before a scan conversion that began at the same moment (R150). -/
theorem Converter.requestSupply_elapse (c : Converter) (dt : Nat) : (c.elapse dt).requestSupply =
    match c.activity with
    | .idle => ⟨.supply, 0, false, true, c.pendingSupply, c.pendingScan⟩
    | .supply => { c.elapse dt with pendingSupply := true }
    | .scan i =>
      if c.fresh = true ∧ dt = 0 then ⟨.supply, 0, false, true, c.pendingSupply, some i⟩
      else { c.elapse dt with pendingSupply := true } := by
  have hfresh : (c.elapse dt).fresh = true ↔ c.fresh = true ∧ dt = 0 := by simp [Converter.elapse]
  obtain ⟨activity, time, discard, fresh, pendingSupply, pendingScan⟩ := c
  cases activity with
  | idle => rfl
  | supply => rfl
  | scan i => exact if_congr hfresh rfl rfl

/-! ### A supply sample that leads to another condition (sections 9.2 to 9.4) -/

theorem nextRun_in {inSet : Bool} {n : Nat} (h : inSet = true) (hn : 3 ≤ n) : nextRun inSet n = 4 := by
  rw [nextRun, if_pos h]
  omega

theorem nextRun_out {inSet : Bool} (h : inSet = false) (n : Nat) : nextRun inSet n = 0 := by
  rw [nextRun, h]
  rfl

/-- The run of a set to which the sample does not belong, or that was short before it, is not at four (R174). -/
theorem nextRun_ne_four {inSet : Bool} {n : Nat} (h : inSet = false ∨ n < 3) : nextRun inSet n ≠ 4 := by
  unfold nextRun
  split
  · next hin =>
    have hn := h.resolve_left (by simp [hin])
    omega
  · decide

theorem Supply.change_low {m : Supply} (hc : m.condition = .normal) (hzero : m.zeroRun ≠ 4) (hlow : m.lowRun = 4) :
    m.change = some .low := by
  simp only [Supply.change, hc, if_neg hzero, if_pos hlow]

theorem Supply.change_normal {m : Supply} (hc : m.condition = .low) (hzero : m.zeroRun ≠ 4) (hhigh : m.highRun = 4) :
    m.change = some .normal := by
  simp only [Supply.change, hc, if_neg hzero, if_pos hhigh]

theorem Supply.change_cutoff {m : Supply} (hc : m.condition ≠ .cutoff) (hzero : m.zeroRun = 4) :
    m.change = some .cutoff := by
  cases h : m.condition with
  | normal | low => simp only [Supply.change, h, if_pos hzero]
  | cutoff => exact absurd h hc

theorem Supply.change_recovery {m : Supply} (hc : m.condition = .cutoff) (hrun : m.recoveryRun = 4) :
    m.change = some .low := by
  simp only [Supply.change, hc, if_pos hrun]

/-- A supply sample is taken before the converter's grant (R149, R150). -/
theorem conversionComplete_supplySample {b : Byte} (due : s.conversionDue = true) (hkept : s.converter.discard = false)
    (hsupply : s.converter.activity = .supply) :
    conversionComplete b s =
      let u := supplySample b (s.setConverter s.converter.ended)
      u.setConverter u.converter.grant := by
  rw [conversionComplete_of_due due, hkept, hsupply]
  rfl

theorem supplyLeads_of_change {b : Byte} {c : Condition} (due : s.conversionDue = true) (hkept : s.converter.discard = false)
    (hsupply : s.converter.activity = .supply) (hchange : (s.supply.sample b).change = some c) :
    s.supplyLeads b c = true := by
  simp [State.supplyLeads, due, hkept, hsupply, hchange]

/-- The sample that takes a NORMAL supply to LOW, with the grant (R149, R175, R178). -/
theorem conversionComplete_low {b : Byte} {m : Supply} (due : s.conversionDue = true) (hkept : s.converter.discard = false)
    (hsupply : s.converter.activity = .supply) (hchange : (s.supply.sample b).change = some .low)
    (hc : s.supply.condition ≠ .cutoff) (hm : { s.supply.sample b with condition := .low } = m) :
    conversionComplete b s = State.withFault .supplyLow { s.granted with
      supply := m, drive := { s.drive with cap := true } } := by
  subst hm
  have hgo : supplySample b (s.setConverter s.converter.ended)
      = becomeLow ((s.setConverter s.converter.ended).setSupply (s.supply.sample b)) := by
    simp only [supplySample, State.setSupply_supply, State.setConverter_supply, hchange, hc, if_false]
  rw [conversionComplete_supplySample due hkept hsupply, hgo, becomeLow, setFault_eq, State.granted, ← s.converter.ended_grant]
  rfl

/-- The sample that takes a LOW supply to NORMAL, with the grant (R149, R175, R178). -/
theorem conversionComplete_normal {b : Byte} {m : Supply} (due : s.conversionDue = true)
    (hkept : s.converter.discard = false) (hsupply : s.converter.activity = .supply)
    (hchange : (s.supply.sample b).change = some .normal) (hm : { s.supply.sample b with condition := .normal } = m) :
    conversionComplete b s = State.withoutFault .supplyLow { s.granted with
      supply := m, drive := { s.drive with cap := false } } := by
  subst hm
  have hgo : supplySample b (s.setConverter s.converter.ended)
      = becomeNormal ((s.setConverter s.converter.ended).setSupply (s.supply.sample b)) := by
    simp only [supplySample, State.setSupply_supply, State.setConverter_supply, hchange]
  rw [conversionComplete_supplySample due hkept hsupply, hgo, becomeNormal, clearFault_eq, State.granted,
    ← s.converter.ended_grant]
  rfl

/-- The runs at the fourth sample of a LOW supply (R173, R174). -/
theorem Supply.sample_lowers {m : Supply} {b : Byte} (hr : b.toNat < 96) (hrun : 3 ≤ m.lowRun) :
    m.sample b = { m with
      lastBand := b.toNat / 32, lowRun := 4, highRun := 0
      zeroRun := nextRun (decide (b.toNat < 32)) m.zeroRun
      recoveryRun := nextRun (decide (64 ≤ b.toNat)) m.recoveryRun } := by
  rw [Supply.sample_eq, nextRun_in (decide_eq_true hr) hrun, nextRun_out (decide_eq_false (by omega))]

/-- The runs at the fourth sample of a NORMAL supply (R173, R174). -/
theorem Supply.sample_raises {m : Supply} {b : Byte} (hr : 96 ≤ b.toNat) (hrun : 3 ≤ m.highRun) :
    m.sample b = { m with
      lastBand := b.toNat / 32, lowRun := 0, highRun := 4, zeroRun := 0, recoveryRun := min 4 (m.recoveryRun + 1) } := by
  rw [Supply.sample_eq, nextRun_in (decide_eq_true hr) hrun, nextRun_out (inSet := decide (b.toNat < 96))
    (decide_eq_false (by omega)), nextRun_out (inSet := decide (b.toNat < 32)) (decide_eq_false (by omega)), nextRun,
    if_pos (decide_eq_true (by omega))]

/-! ### CUTOFF (section 9.4) -/

/-- A claim is the table's, the player's, the sounder's and ATTN's business alone. -/
theorem takeClaim_eq (after : List Entry) (s : State) : takeClaim after s = { s with
    table := after
    player := (takeClaim after s).player
    drive := (takeClaim after s).drive
    port := (takeClaim after s).port } := by
  unfold takeClaim handSound handHead
  split <;> split <;> rfl

/-- The entry to QUIESCENT, whole: the empty table leaves the player SILENT and both outputs are off (R134, R146, R193). -/
theorem enterQuiescent_effect (s : State) : ∃ player port,
    enterQuiescent s = { s.atCutoff with
      table := [], player := player, drive := s.drive.enterQuiescent, port := port }
    ∧ player.mode = .silent ∧ player.wanted = none ∧ player.testDue = false ∧ player.sound = false ∧ port.attn = true := by
  obtain ⟨hhead, hsound, -⟩ := takeClaim_handsOn [] s.atCutoff
  have hmode : (takeClaim [] s.atCutoff).player.mode = .silent ∧ (takeClaim [] s.atCutoff).player.testDue = false := by
    rw [takeClaim_table] at hhead
    split at hhead
    · exact ⟨hhead.2.2.2, hhead.2.2.1⟩
    · obtain ⟨-, -, htest, hmode⟩ := hhead.2.1 rfl
      exact ⟨hmode, htest⟩
  have hoff : (takeClaim [] s.atCutoff).drive.enterQuiescent = s.drive.enterQuiescent := by
    simp [Drive.enterQuiescent, State.atCutoff]
  refine ⟨(takeClaim [] s.atCutoff).player, { (takeClaim [] s.atCutoff).port with attn := true }, ?_, hmode.1,
    takeClaim_nil_wanted rfl, hmode.2, ?_, rfl⟩
  · rw [enterQuiescent_eq, hoff]
    generalize hclaim : takeClaim [] s.atCutoff = t
    have ht := takeClaim_eq [] s.atCutoff
    rw [hclaim] at ht
    rw [ht]
    rfl
  · rw [hsound, takeClaim_table]
    rfl

/-- The sample that brings CUTOFF (R149, R176, R178). -/
theorem conversionComplete_cutoff {b : Byte} (due : s.conversionDue = true) (hkept : s.converter.discard = false)
    (hsupply : s.converter.activity = .supply) (hchange : (s.supply.sample b).change = some .cutoff) :
    conversionComplete b s =
      let u := enterQuiescent (State.withoutFault .supplyLow { s with
        converter := s.converter.ended
        supply := { s.supply.sample b with condition := .cutoff }
        drive := { s.drive with cap := false } })
      u.setConverter u.converter.grant := by
  have hgo : supplySample b (s.setConverter s.converter.ended)
      = becomeCutoff ((s.setConverter s.converter.ended).setSupply (s.supply.sample b)) := by
    simp only [supplySample, State.setSupply_supply, State.setConverter_supply, hchange]
  rw [conversionComplete_supplySample due hkept hsupply, hgo, becomeCutoff, clearFault_eq]
  rfl

/-- The sample that brought CUTOFF has been read, so that a supply request that waits begins and a scan request is gone
(R150, R151). -/
theorem Converter.ended_atCutoff (c : Converter) :
    c.ended.enterQuiescent.grant = ⟨if c.pendingSupply then .supply else .idle, 0, false, false, false, none⟩ := by
  obtain ⟨activity, time, discard, fresh, pendingSupply, pendingScan⟩ := c
  cases pendingSupply <;> rfl

/-! ### Recovery (section 9.4) -/

/-- The station as recovery finds it: the supply is LOW and its runs are 0 (R177, R178). -/
def State.recovering (b : Byte) (s : State) : State :=
  State.withFault .supplyLow { s with
    converter := s.converter.ended
    supply := { s.supply.sample b with condition := .low, lowRun := 0, highRun := 0, zeroRun := 0, recoveryRun := 0 }
    drive := { s.drive with cap := true } }

/-- The station at a warm start, before the entry to JOINING (R194). -/
def State.atWarmStart (s : State) : State :=
  { s with
    beat := BeatUnit.atStart
    line := Line.atStart
    loop := Transceiver.atStart
    queue := TxQueue.empty
    table := []
    roster := rosterAtStart s.startup.ownAddr
    faults := (s.faults &&& FaultName.config.mask) ||| FaultName.supplyLow.mask
    player := Player.atStart
    drive := Drive.atStart (s.supply.condition == .low)
    converter := s.converter.orphaned
    inputs := List.replicate 12 Input.atStart
    keys := { s.keys with state := .idle, hold := 0 }
    startup := { s.startup with cause := .supplyRecovery }
    port := s.port.atStart }

theorem requestScan_eq_setConverter (s : State) : ∃ c, requestScan s = s.setConverter c := by
  unfold requestScan
  split
  · exact ⟨_, rfl⟩
  · exact ⟨s.converter, rfl⟩

/-- A warm start, but for the converter's scan request (R194). -/
theorem warmStart_eq (s : State) : ∃ c, warmStart s = s.atWarmStart.atJoining.setConverter c :=
  requestScan_eq_setConverter _

/-- The sample that ends CUTOFF (R149, R177). -/
theorem conversionComplete_recovery {b : Byte} (due : s.conversionDue = true) (hkept : s.converter.discard = false)
    (hsupply : s.converter.activity = .supply) (hchange : (s.supply.sample b).change = some .low)
    (hc : s.supply.condition = .cutoff) :
    conversionComplete b s =
      let u := if s.startup.validity = .notLoaded then coldStart .supplyRecovery (s.recovering b)
        else warmStart (s.recovering b)
      u.setConverter u.converter.grant := by
  have hgo : supplySample b (s.setConverter s.converter.ended)
      = recover ((s.setConverter s.converter.ended).setSupply (s.supply.sample b)) := by
    simp only [supplySample, State.setSupply_supply, State.setConverter_supply, hchange, hc, if_true]
  rw [conversionComplete_supplySample due hkept hsupply, hgo, recover, becomeLow, setFault_eq]
  rfl

theorem rst_elapse_high_iff (dt : Nat) : (s.elapse dt).pins.rst = .high ↔ s.pins.rst = .high := by
  cases h : s.pins.rst with
  | high => simp only [rst_elapse_high h]
  | held => simp only [rst_elapse_held h]
  | timing held => simp only [rst_elapse_timing h, reduceCtorEq]

theorem noResponse_bytes : noResponse = [0x01#8, 0x00#8, 0x00#8, 0x6B#8] := by
  decide

end Sys2Proof.Machine

open Sys2Proof Sys2Proof.Machine

/-- Settles O39: each timer's moment, and the request that it brings. -/
theorem scanAndSupplyRequests : Obligations.ScanAndSupplyRequests := by
  unfold Obligations.ScanAndSupplyRequests
  intro after s
  constructor
  · intro hr w hw htime n
    have htimer : (s.elapse after).scanner.timer = some (tick scanTime after w) := congrArg (Option.map _) hw
    have hdue : scanTime ≤ tick scanTime after w ∧ (s.elapse after).running = true :=
      ⟨Nat.le_min.2 ⟨le_rfl, htime⟩, hr⟩
    refine congrArg Host.Outcome.next ?_
    unfold scanNext
    rw [htimer]
    dsimp only
    rw [if_pos hdue]
    by_cases henabled : (s.binding n).enabled = true
    · rw [requestScan, if_pos (by exact henabled)]
      simp only [Converter.requestScan_eq, henabled, if_true]
      rfl
    · rw [requestScan, if_neg (by exact henabled)]
      rw [if_neg henabled]
      rfl
  · intro w hw htime
    have htimer : (s.elapse after).supply.ownTimer = some (tick ownTimerPeriod after w) := congrArg (Option.map _) hw
    have hdue : ownTimerPeriod ≤ tick ownTimerPeriod after w := Nat.le_min.2 ⟨le_rfl, htime⟩
    refine congrArg Host.Outcome.next ?_
    unfold supplyOwnTimer
    rw [htimer]
    dsimp only
    rw [if_pos hdue]
    change State.setConverter _ (s.converter.elapse after).requestSupply = _
    rw [Converter.requestSupply_elapse]
    rfl

/-- Settles O41: the run that the condition looks at reaches four. -/
theorem supplyConditionFollowsFourSamples : Obligations.SupplyConditionFollowsFourSamples := by
  unfold Obligations.SupplyConditionFollowsFourSamples
  intro after microvolts s hsupply hkept htime
  have due := conversionDue_elapse (s := s) (after := after) (by simp [hsupply]) htime
  refine ⟨0, ?_⟩
  intro r granted run
  constructor
  · intro hc hr hlowRun hzeroRun low
    have hsample := Supply.sample_lowers (m := (s.elapse after).supply) (b := readingOf microvolts) hr hlowRun
    have hchange : ((s.elapse after).supply.sample (readingOf microvolts)).change = some .low := by
      rw [hsample]
      exact Supply.change_low hc (nextRun_ne_four (hzeroRun.imp_left fun h => decide_eq_false (by omega))) rfl
    have hcond : (s.elapse after).supply.condition = .normal := hc
    have hend : conversionComplete (readingOf microvolts) (s.elapse after) = low :=
      conversionComplete_low due hkept hsupply hchange (fun h => Condition.noConfusion (hcond.symm.trans h)) (by rw [hsample]; rfl)
    have hleads := supplyLeads_of_change due hkept hsupply hchange
    refine ⟨congrArg Host.Outcome.next ((if_pos ?_).trans hend), congrArg Host.Outcome.next hend⟩
    rw [State.lowersNow, hcond, hleads]
    rfl
  · intro hc hr hhighRun normal
    have hsample := Supply.sample_raises (m := (s.elapse after).supply) (b := readingOf microvolts) hr hhighRun
    have hchange : ((s.elapse after).supply.sample (readingOf microvolts)).change = some .normal := by
      rw [hsample]
      exact Supply.change_normal hc (Nat.zero_ne_add_one 3) rfl
    have hend : conversionComplete (readingOf microvolts) (s.elapse after) = normal :=
      conversionComplete_normal due hkept hsupply hchange (by rw [hsample]; rfl)
    have hleads := supplyLeads_of_change due hkept hsupply hchange
    exact ⟨congrArg Host.Outcome.next ((if_pos hleads).trans hend), congrArg Host.Outcome.next hend⟩

/-- Settles O42: the fourth sample at band 0 brings the entry to QUIESCENT, block by block. -/
theorem cutoffMakesTheStationQuiescent : Obligations.CutoffMakesTheStationQuiescent := by
  unfold Obligations.CutoffMakesTheStationQuiescent
  refine ⟨fun u => ?_, fun c => ?_, fun after microvolts s hsupply hkept htime hc hr hzeroRun => ?_⟩
  · simp [State.fltLow, State.attnLow, State.anyFault]
  · unfold Converter.enterQuiescent
    cases c.activity <;> simp
  · have due := conversionDue_elapse (s := s) (after := after) (by simp [hsupply]) htime
    have hchange : ((s.elapse after).supply.sample (readingOf microvolts)).change = some .cutoff := by
      rw [Supply.sample_eq]
      exact Supply.change_cutoff hc (nextRun_in (decide_eq_true (by rw [readingOf_toNat]; exact hr)) hzeroRun)
    have hleads := supplyLeads_of_change due hkept hsupply hchange
    refine ⟨conversionComplete (readingOf microvolts) (s.elapse after), congrArg Host.Outcome.next (if_pos hleads), rfl, ?_⟩
    rw [conversionComplete_cutoff due hkept hsupply hchange]
    obtain ⟨player, port, hquiescent, hmode, hwanted, htest, hsound, hattn⟩ := enterQuiescent_effect
      (State.withoutFault .supplyLow { s.elapse after with
        converter := (s.elapse after).converter.ended
        supply := { (s.elapse after).supply.sample (readingOf microvolts) with condition := .cutoff }
        drive := { (s.elapse after).drive with cap := false } })
    rw [hquiescent]
    refine ⟨rfl, rfl, rfl, rfl, rfl, rfl, rfl, rfl, rfl, rfl, rfl, rfl, rfl, rfl, rfl, rfl, rfl, rfl, hmode, hwanted, htest,
      hsound, rfl, rfl, rfl, rfl, rfl, rfl, rfl, Converter.ended_atCutoff _, rfl, rfl, rfl, rfl, rfl, hattn, ?_, ?_, rfl, rfl,
      rfl, rfl, rfl⟩
    · exact (congrArg (_ || ·) rfl).trans (Bool.or_true _)
    · exact (congrArg (_ && ·) rfl).trans (Bool.and_false _)

/-- Settles O43: the runs go to 0, the supply to LOW, and the start is warm or cold by the image. -/
theorem recoveryStartsWarmOrCold : Obligations.RecoveryStartsWarmOrCold := by
  unfold Obligations.RecoveryStartsWarmOrCold
  intro after microvolts s hsupply hkept htime hc hr hrun
  have due := conversionDue_elapse (s := s) (after := after) (by simp [hsupply]) htime
  have hband : ((s.elapse after).supply.sample (readingOf microvolts)).lastBand = min 255 (microvolts * 256 / 2500000) / 32 := by
    rw [Supply.sample_eq, readingOf_toNat]
  have hchange : ((s.elapse after).supply.sample (readingOf microvolts)).change = some .low := by
    rw [Supply.sample_eq]
    exact Supply.change_recovery hc (nextRun_in (decide_eq_true (by rw [readingOf_toNat]; exact hr)) hrun)
  have hleads := supplyLeads_of_change due hkept hsupply hchange
  have hcond : (s.elapse after).supply.condition = .cutoff := hc
  refine ⟨conversionComplete (readingOf microvolts) (s.elapse after), congrArg Host.Outcome.next (if_pos ?_), rfl, ?_⟩
  · rw [State.recoversNow, hcond, hleads]
    rfl
  rw [conversionComplete_recovery due hkept hsupply hchange hcond]
  by_cases hloaded : s.startup.validity = .notLoaded
  · rw [if_pos (by exact hloaded)]
    refine ⟨rfl, rfl, rfl, rfl, rfl, rfl, rfl, rfl, rfl, rfl, rfl, rfl, rfl, rfl, noResponse_bytes, rfl, rfl,
      fun h => absurd hloaded h, fun _ => ⟨rfl, rfl, rfl, ?_, rfl, rfl, rfl, rfl⟩⟩
    exact if_congr (rst_elapse_high_iff after) rfl rfl
  · obtain ⟨c, hwarm⟩ := warmStart_eq ((s.elapse after).recovering (readingOf microvolts))
    rw [if_neg (by exact hloaded), hwarm]
    refine ⟨rfl, rfl, rfl, rfl, rfl, rfl, rfl, rfl, rfl, rfl, rfl, rfl, rfl, rfl, noResponse_bytes, rfl, rfl,
      fun _ => ⟨rfl, rfl, rfl, rfl, hband, rfl, ?_, rfl, rfl, rfl, rfl, rfl, rfl, rfl, rfl, rfl⟩, fun h => absurd h hloaded⟩
    change (s.faults ||| 0x08#8) &&& 0x10#8 ||| 0x08#8 = _
    rw [BitVec.and_or_distrib_right]
    exact congrArg (· ||| 0x08#8) BitVec.or_zero
end

section
/-! PROOFS. Requests of this station: raised, withdrawn and queued (chapters 2, 4 and 8). The facts behind O44, O52 and O53. -/

namespace Sys2Proof.Machine

variable {s : State} {dt : Nat}

/-! ### A message that joins the queue (section 4.2) -/

theorem enqueue_queue (n : News) (s : State) : (enqueue n s).queue = (s.queue.join n).1 := by
  unfold enqueue
  dsimp only
  split <;> simp

theorem enqueue_messages {n : News} (h : s.queue.inOrder) : (enqueue n s).queue.messages = (s.queue.joinedBy n).1 := by
  rw [enqueue_queue]
  exact congrArg Prod.fst (join_eq_joinedBy n s.queue h)

/-- A message that the full queue costs is counted (R83). -/
theorem enqueue_txqDiscard {n : News} (h : s.queue.inOrder) (hc : s.counters.txqDiscard ≤ 255) :
    (enqueue n s).counters.txqDiscard =
      (if (s.queue.joinedBy n).2 then min 255 (s.counters.txqDiscard + 1) else s.counters.txqDiscard) := by
  have hlost : (s.queue.join n).2 = (s.queue.joinedBy n).2 := congrArg Prod.snd (join_eq_joinedBy n s.queue h)
  unfold enqueue
  dsimp only
  rw [hlost]
  split
  · exact bump_get_self (s := s.setQueue (s.queue.join n).1) .txqDiscard hc
  · rfl

theorem takeIn_mem {n : News} {q : TxQueue} {m : Message} (h : m ∈ (q.takeIn n).1.messages) :
    m ∈ q.messages ∨ m.news = n := by
  have hplaced : ∀ l : List Message, m ∈ placeMessage ⟨n, q.nextJoin, 0, false⟩ l → m ∈ l ∨ m.news = n := fun l hm => by
    obtain rfl | hl := List.mem_cons.1 ((placeMessage_perm _ _).mem_iff.1 hm)
    · exact .inr rfl
    · exact .inl hl
  unfold TxQueue.takeIn at h
  dsimp only at h
  split at h
  · exact hplaced _ h
  · split at h
    · exact hplaced _ h
    · split at h
      · exact (hplaced _ h).imp_left fun hm => List.mem_of_mem_dropLast hm
      · exact .inl h

theorem takeIn_waits {n : News} {q : TxQueue} (h : q.messages.length < 6) :
    ∃ m ∈ (q.takeIn n).1.messages, m.news = n ∧ m.age = 0 := by
  rw [admit_room n q h]
  exact ⟨_, (placeMessage_perm _ _).mem_iff.2 List.mem_cons_self, rfl, rfl⟩

theorem enqueue_raise_waits {i : Nat} {r : Request} (h : s.queue.messages.length < 6) :
    ∃ m ∈ (enqueue (.raise i r) s).queue.messages, m.news = .raise i r ∧ m.age = 0 := by
  rw [enqueue_queue]
  exact takeIn_waits (q := s.queue.without fun m => m.news.isClearOf i)
    (lt_of_le_of_lt (List.length_filter_le _ _) h)

/-- A CLEAR takes a waiting RAISE of its input out (R81). -/
theorem enqueue_clear_no_raise {i : Nat} {r : Request} :
    ∀ m ∈ (enqueue (.clear i r) s).queue.messages, m.news.isRaiseOf i = false := by
  intro m hm
  rw [enqueue_queue] at hm
  have hclear : ∀ q : TxQueue, (∀ x ∈ q.messages, x.news.isRaiseOf i = false) → m ∈ (q.takeIn (.clear i r)).1.messages →
      m.news.isRaiseOf i = false := fun q hq hin => by
    obtain hold | hnew := takeIn_mem hin
    · exact hq m hold
    · rw [hnew]
      rfl
  have hrest : ∀ x ∈ (s.queue.without fun x => x.news.isRaiseOf i).messages, x.news.isRaiseOf i = false := fun x hx => by
    simpa using (List.mem_filter.1 hx).2
  unfold TxQueue.join at hm
  dsimp only at hm
  split at hm
  · split at hm
    · exact hclear _ hrest hm
    · exact hrest m hm
  · next hnone =>
    exact hclear _ (fun x hx => by simpa using List.find?_eq_none.1 hnone x hx) hm

theorem enqueue_clear_waits {i : Nat} {r : Request} (hnone : ∀ m ∈ s.queue.messages, m.news.isRaiseOf i = false)
    (h : s.queue.messages.length < 6) : ∃ m ∈ (enqueue (.clear i r) s).queue.messages, m.news = .clear i r := by
  have hfind : (s.queue.messages.find? fun m => m.news.isRaiseOf i) = none :=
    List.find?_eq_none.2 fun m hm => by rw [hnone m hm]; exact Bool.false_ne_true
  have hjoin : s.queue.join (.clear i r) = s.queue.takeIn (.clear i r) := by
    simp only [TxQueue.join, hfind]
  rw [enqueue_queue, hjoin]
  obtain ⟨m, hm, hnews, -⟩ := takeIn_waits (n := .clear i r) h
  exact ⟨m, hm, hnews⟩

theorem enqueue_silence_waits (h : s.queue.messages.length < 6) :
    ∃ m ∈ (enqueue .silence s).queue.messages, m.news = .silence := by
  rw [enqueue_queue]
  unfold TxQueue.join
  dsimp only
  split
  · next hany =>
    obtain ⟨m, hm, hnews⟩ := List.any_eq_true.1 hany
    exact ⟨m, hm, by simpa using hnews⟩
  · obtain ⟨m, hm, hnews, -⟩ := takeIn_waits (n := .silence) h
    exact ⟨m, hm, hnews⟩

/-! ### A local raise (section 2.4) -/

/-- The own entry of an input and its request (R35). -/
def ownEntry (i : Nat) (r : Request) (s : State) : Entry :=
  ⟨r.cue, r.priority, s.startup.ownAddr, i, .active, r.latched, false, 0, s.beat.barCount, s.beat.beatIndex⟩

/-- The table after a local raise, and whether it cost a foreign entry (R30, R35). -/
def raisedTable (i : Nat) (r : Request) (s : State) : List Entry × Bool :=
  insertOwn s.startup.ownAddr (ownEntry i r s) (withoutKey s.startup.ownAddr i s.table)

/-- A local raise: the table, the faults and the count after it, and what it hands on (R30, R35). -/
theorem localRaise_effect (i : Nat) (r : Request) (s : State) :
    let t := localRaise i r s
    let ins := raisedTable i r s
    t.table = ins.1 ∧ s.handsOn t
      ∧ t.faults = (if ins.2 then s.faults ||| 0x80#8 else s.faults)
      ∧ (s.counters.tableOvf ≤ 255 →
        t.counters.tableOvf = min 255 (s.counters.tableOvf + if ins.2 then 1 else 0)) := by
  intro t ins
  obtain ⟨htable, hfaults, hcounters, hhands⟩ := overflowClaim_effect ins.1 (if ins.2 then 1 else 0) s
  have hraise : t = enqueue (.raise i r) (takeClaim ins.1 (countOverflow (if ins.2 then 1 else 0) s)) := rfl
  rw [hraise]
  generalize takeClaim ins.1 (countOverflow (if ins.2 then 1 else 0) s) = u at *
  refine ⟨by simpa using htable, ?_, ?_, fun hc => ?_⟩
  · exact handsOn_congr (t := u) rfl rfl rfl rfl rfl (by simp) (by simp) (by simp) (enqueue_attn _) hhands
  · cases hi : ins.2 <;> simpa [hi] using hfaults
  · have hkept : (enqueue (.raise i r) u).counters.tableOvf = u.counters.tableOvf :=
      enqueue_get_of_ne (m := .tableOvf) (by decide) _ _
    rw [hkept, hcounters hc]
    rfl

/-- The claim of a local raise, before its message joins. -/
def State.raiseClaimed (i : Nat) (r : Request) (s : State) : State :=
  takeClaim (raisedTable i r s).1 (countOverflow (if (raisedTable i r s).2 then 1 else 0) s)

theorem localRaise_eq (i : Nat) (r : Request) (s : State) :
    localRaise i r s = enqueue (.raise i r) (s.raiseClaimed i r) := rfl

theorem raiseClaimed_queue (i : Nat) (r : Request) (s : State) :
    (s.raiseClaimed i r).queue = s.queue
      ∧ (s.raiseClaimed i r).counters.txqDiscard = s.counters.txqDiscard := by
  have hother : ∀ n : Nat, (countOverflow n s).counters.txqDiscard = s.counters.txqDiscard := fun n => by
    unfold countOverflow
    split
    · rfl
    · have hbump := bumpTimes_get_of_ne (n := .tableOvf) (m := .txqDiscard) (by decide) n s
      rw [setFault_eq]
      exact hbump
  exact ⟨by simp [State.raiseClaimed], by simp only [State.raiseClaimed, takeClaim_frame, hother]⟩

/-- The RAISE of a local raise joins the queue (R79, R80, R83). -/
theorem localRaise_joins (i : Nat) (r : Request) (s : State) :
    (s.queue.messages.length < 6 → ∃ m ∈ (localRaise i r s).queue.messages, m.news = .raise i r ∧ m.age = 0)
      ∧ (s.queue.inOrder → (localRaise i r s).queue.messages = (s.queue.joinedBy (.raise i r)).1)
      ∧ (s.queue.inOrder → s.counters.txqDiscard ≤ 255 → (localRaise i r s).counters.txqDiscard =
        (if (s.queue.joinedBy (.raise i r)).2 then min 255 (s.counters.txqDiscard + 1) else s.counters.txqDiscard)) := by
  obtain ⟨hqueue, hcount⟩ := raiseClaimed_queue i r s
  rw [localRaise_eq]
  generalize s.raiseClaimed i r = u at *
  rw [← hqueue, ← hcount]
  exact ⟨enqueue_raise_waits, enqueue_messages, enqueue_txqDiscard⟩

/-- An own entry in a table with room (R35). -/
theorem raisedTable_of_room {i : Nat} {r : Request} (h : s.table.length < 16) :
    (raisedTable i r s).1.Perm
      (ownEntry i r s :: s.table.filter fun e => !(e.origin == s.startup.ownAddr && e.input == i)) := by
  have hroom : (withoutKey s.startup.ownAddr i s.table).length < tableCapacity :=
    lt_of_le_of_lt (List.length_filter_le _ _) h
  rw [raisedTable, insertOwn, if_pos hroom]
  exact placeEntry_perm _ _

/-- An own entry in a full table takes the place of the last-ranked foreign one (R30). -/
theorem raisedTable_of_full {i : Nat} {r : Request} {l : Entry} (htable : TableOk s.table)
    (hnew : ∀ e ∈ s.table, (e.origin == s.startup.ownAddr && e.input == i) = false) (hfull : 16 ≤ s.table.length)
    (hl : (s.table.filter fun e => e.origin != s.startup.ownAddr).getLast? = some l) :
    (raisedTable i r s).1.Perm (ownEntry i r s :: s.table.erase l) ∧ (raisedTable i r s).2 = true := by
  have hall : withoutKey s.startup.ownAddr i s.table = s.table :=
    List.filter_eq_self.2 fun e he => by rw [Entry.hasKey, hnew e he]; rfl
  have hnot : ¬ s.table.length < tableCapacity := Nat.not_lt.2 hfull
  have hlast : lastForeign s.startup.ownAddr s.table = some l := hl
  rw [raisedTable, insertOwn, hall, if_neg hnot, hlast]
  refine ⟨(placeEntry_perm _ _).trans ?_, rfl⟩
  rw [evictLast_of_lastForeign hlast, htable.withoutKey_eq_erase (lastForeign_mem hlast).1]

/-! ### A local withdraw (section 2.4) -/

theorem localWithdraw_of_none (i : Nat) (h : s.table.find? (Entry.hasKey s.startup.ownAddr i) = none) :
    localWithdraw i s = s := by
  simp only [localWithdraw, h]

/-- A local withdraw: the table, the queue and what it hands on (R36, R79, R81). -/
theorem localWithdraw_effect {i : Nat} {e : Entry} (h : s.table.find? (Entry.hasKey s.startup.ownAddr i) = some e) :
    let t := localWithdraw i s
    let news : News := .clear i ⟨e.cue, e.priority, e.latched⟩
    s.handsOn t
      ∧ (∀ m ∈ t.queue.messages, m.news.isRaiseOf i = false)
      ∧ ((∀ m ∈ s.queue.messages, m.news.isRaiseOf i = false) → s.queue.messages.length < 6 →
        ∃ m ∈ t.queue.messages, m.news = news)
      ∧ (s.queue.inOrder → t.queue.messages = (s.queue.joinedBy news).1)
      ∧ (s.queue.inOrder → s.counters.txqDiscard ≤ 255 → t.counters.txqDiscard =
        (if (s.queue.joinedBy news).2 then min 255 (s.counters.txqDiscard + 1) else s.counters.txqDiscard)) := by
  intro t news
  have hwithdraw : t = enqueue news (takeClaim (withoutKey s.startup.ownAddr i s.table) s) := by
    simp only [t, localWithdraw, h]
    rfl
  have hhands := takeClaim_handsOn (withoutKey s.startup.ownAddr i s.table) s
  have hqueue : (takeClaim (withoutKey s.startup.ownAddr i s.table) s).queue = s.queue := by simp
  have hcounters : (takeClaim (withoutKey s.startup.ownAddr i s.table) s).counters = s.counters := by simp
  rw [hwithdraw]
  generalize takeClaim (withoutKey s.startup.ownAddr i s.table) s = u at *
  rw [← hqueue, ← hcounters]
  exact ⟨handsOn_congr (t := u) rfl rfl rfl rfl rfl (by simp) (by simp) (by simp) (enqueue_attn _) hhands,
    enqueue_clear_no_raise, enqueue_clear_waits, enqueue_messages, enqueue_txqDiscard⟩

/-- A local withdraw leaves no own entry of its input (R36). -/
theorem localWithdraw_table (i : Nat) (s : State) : (localWithdraw i s).table =
    s.table.filter fun e => !(e.origin == s.startup.ownAddr && e.input == i) := by
  cases h : s.table.find? (Entry.hasKey s.startup.ownAddr i) with
  | none =>
    rw [localWithdraw_of_none i h]
    have hnot : ∀ e ∈ s.table, (e.origin == s.startup.ownAddr && e.input == i) = false := fun e he =>
      Bool.eq_false_iff.2 (List.find?_eq_none.1 h e he)
    exact (List.filter_eq_self.2 fun e he => by rw [hnot e he]; rfl).symm
  | some e => simp only [localWithdraw, h, enqueue_frame, takeClaim_table]; rfl

end Sys2Proof.Machine
end

section
/-! PROOFS. Inputs and keys (chapter 8): O44, O45 and O46. -/

namespace Sys2Proof.Machine

variable {s : State} {dt : Nat}

/-! ### An input in its list -/

theorem input_elapse (dt : Nat) (s : State) (i : Nat) : (s.elapse dt).input i = (s.input i).elapse dt := by
  simp only [State.input, State.elapse, List.getD_eq_getElem?_getD, List.getElem?_map]
  cases s.inputs[i]? <;> rfl

/-- An input replaced by a value of the one that stands in its place. -/
theorem modify_input (s : State) (i : Nat) (f : Input → Input) :
    s.inputs.modify i (fun _ => f (s.input i)) = s.inputs.modify i f := by
  refine List.ext_getElem? fun j => ?_
  rw [List.getElem?_modify, List.getElem?_modify]
  by_cases h : i = j
  · subst h
    simp only [if_true, State.input, List.getD_eq_getElem?_getD]
    cases s.inputs[i]? <;> rfl
  · simp only [h, if_false]

/-! ### A qualification (section 8.4) -/

/-- An input once its candidate is qualified: the band, the line fault and the request (R155, R157 to R159). -/
def Input.qualifiedAs (latched : Bool) (y : Input) : Input :=
  { y with
    qualified := y.candidate, timer := none, lineFault := y.candidate == .short || y.candidate == .opened
    request :=
      if y.candidate = .active then .raised
      else if y.candidate = .normal ∧ y.request = .raised then (if latched then .held else .idle)
      else y.request }

/-- A qualification, whole: the input, and then its request's raise or withdraw (R155, R157, R158). -/
theorem qualification_eq {i : Nat} (h : s.qualifies i = true) :
    qualification i s =
      let u := setInput i ((s.input i).qualifiedAs (s.binding i).request.latched) s
      if (s.input i).candidate = .active ∧ (s.input i).request = .idle then localRaise i (s.binding i).request u
      else if (s.input i).candidate = .normal ∧ (s.input i).request = .raised ∧ (s.binding i).request.latched = false then
        localWithdraw i u
      else u := by
  rw [qualification, if_pos h]
  dsimp only
  cases hc : (s.input i).candidate with
  | short | opened | none => simp [Input.qualifiedAs, Input.qualify, hc]
  | active => cases hr : (s.input i).request <;> simp [qualifyActive, Input.qualifiedAs, Input.qualify, hc, hr]
  | normal =>
    cases hr : (s.input i).request with
    | idle | held => simp [qualifyNormal, Input.qualifiedAs, Input.qualify, hc, hr]
    | raised =>
      cases hl : (s.binding i).request.latched <;> simp [qualifyNormal, Input.qualifiedAs, Input.qualify, hc, hr, hl]

/-- An entry lost leaves LINE_FAULT (R105, R160). -/
theorem localRaise_lineFault (i : Nat) (r : Request) (s : State) :
    hasFault (localRaise i r s).faults .lineFault = hasFault s.faults .lineFault := by
  obtain ⟨-, -, hfaults, -⟩ := localRaise_effect i r s
  rw [hfaults]
  split
  · exact (hasFault_or .tableOverflow .lineFault s.faults).trans (Bool.or_false _)
  · rfl

theorem qualificationTime_le (code : Nat) (b : Band) : qualificationTime code b ≤ 2000000 := by
  have hcode : [20000, 100000, 500000, longQualification].getD code longQualification ≤ 2000000 := by
    rcases code with _ | _ | _ | _ | n
    iterate 4 exact le_of_eq_of_le rfl (by decide)
    exact le_of_eq rfl
  cases b with
  | short | opened => exact le_rfl
  | none | active | normal => exact hcode

/-- A candidate that has lasted its qualification time is qualified (R155). -/
theorem qualifies_of_lasted {i w : Nat} (hr : s.running = true) (hi : i < 8) (hw : (s.input i).timer = some w)
    (htime : (match (s.input i).candidate with
      | .short | .opened => 2000000
      | .none | .active | .normal => [20000, 100000, 500000, 2000000].getD (s.binding i).code 2000000) ≤ w + dt) :
    (s.elapse dt).qualifies i = true := by
  have hlong := qualificationTime_le (s.binding i).code (s.input i).candidate
  have hdue : qualificationTime (s.binding i).code (s.input i).candidate ≤ tick longQualification dt w :=
    Nat.le_min.2 ⟨hlong, htime⟩
  have hrun : (s.elapse dt).running = true := hr
  rw [State.qualifies, input_elapse, Input.elapse, hw, hrun, decide_eq_true hi]
  exact decide_eq_true hdue

end Sys2Proof.Machine

open Sys2Proof Sys2Proof.Machine

/-- Settles O44: the input is qualified, and then its request is raised or withdrawn. -/
theorem qualificationActsOnTheInput : Obligations.QualificationActsOnTheInput := by
  unfold Obligations.QualificationActsOnTheInput
  intro after i s hr hi htable hfaults w hw htime x own isOwn rises withdrawn r
  have hqualifies := qualifies_of_lasted hr hi hw htime
  refine ⟨qualification i (s.elapse after), rfl, ?_⟩
  have hfaults_elapse : hasFault (s.elapse after).faults .lineFault = anyLineFault (s.elapse after).inputs := by
    refine Eq.trans hfaults.2.1 ?_
    simp only [anyLineFault, State.elapse, List.any_map]
    rfl
  rw [qualification_eq hqualifies, input_elapse]
  set u := setInput i (((s.input i).elapse after).qualifiedAs ((s.elapse after).binding i).request.latched) (s.elapse after)
    with hu
  have hinputs : u.inputs = (s.elapse after).inputs.modify i (Input.qualifiedAs r.latched) := by
    rw [hu, setInput_inputs, ← input_elapse]
    exact modify_input (s.elapse after) i (Input.qualifiedAs r.latched)
  obtain ⟨-, -, hbeat, -, hloop, hqueue, htab, hroster, hcounters, hlibrary, hplayer, hdrive, -, -, hbindings, hkeys, -,
    hstartup⟩ := setInput_frame i (((s.input i).elapse after).qualifiedAs ((s.elapse after).binding i).request.latched)
      (s.elapse after)
  rw [← hu] at hbeat hloop hqueue htab hroster hcounters hlibrary hplayer hdrive hbindings hkeys hstartup
  have hline : hasFault u.faults .lineFault = u.inputs.any Input.lineFault := by
    rw [hu, setInput_faults hfaults_elapse, if_pos rfl, setInput_inputs]
    rfl
  clear_value u
  have hentry : raisedTable i r u = raisedTable i r s := by
    simp only [raisedTable, ownEntry, hstartup, htab, hbeat]
    rfl
  by_cases hrise : rises
  · have hnot : ¬ withdrawn := fun h => Band.noConfusion (hrise.1.symm.trans h.1)
    rw [if_pos (by exact hrise), show ((s.elapse after).binding i).request = r from rfl]
    obtain ⟨ttable, thands, tfaults, tovf⟩ := localRaise_effect i r u
    obtain ⟨twaits, tjoins, -⟩ := localRaise_joins i r u
    obtain ⟨-, -, tbeat, -, tloop, troster, -, -, -, -, tinputs, tkeys, -, tstartup⟩ := localRaise_frame i r u
    have tline := localRaise_lineFault i r u
    rw [hentry] at ttable tfaults tovf
    rw [hqueue] at twaits tjoins
    refine ⟨tinputs.trans hinputs, ?_, fun h => absurd hrise h, fun _ => ?_, fun _ hroom => ?_, fun _ hnew hfull hc l hl => ?_,
      fun _ => twaits, fun _ => tjoins, fun h => absurd h hnot, fun h => absurd h hnot, troster.trans hroster,
      tbeat.trans hbeat, tkeys.trans hkeys, tstartup.trans hstartup, tloop.trans hloop⟩
    · exact tline.trans (hline.trans (congrArg (List.any · Input.lineFault) tinputs.symm))
    · exact handsOn_congr (s := u) htab.symm hplayer.symm hlibrary.symm (by rw [hdrive]; rfl) (by rw [hdrive]; rfl)
        rfl rfl rfl id thands
    · rw [ttable]
      exact raisedTable_of_room hroom
    · obtain ⟨hperm, hlost⟩ := raisedTable_of_full (r := r) htable hnew hfull hl
      rw [hlost, hcounters] at tovf
      rw [hlost] at tfaults
      rw [ttable, tfaults]
      refine ⟨hperm, tovf (hc.get_le .tableOvf), ?_⟩
      exact (hasFault_or .tableOverflow .tableOverflow u.faults).trans (Bool.or_true _)
  · rw [if_neg (by exact hrise)]
    by_cases hwithdraw : withdrawn
    · rw [if_pos (by exact hwithdraw)]
      have ttable := localWithdraw_table i u
      obtain ⟨-, -, tbeat, -, tloop, troster, tfaults, -, -, -, -, tinputs, tkeys, -, tstartup⟩ := localWithdraw_frame i u
      have tfind : ∀ e ∈ s.table, isOwn e = true → u.table.find? (Entry.hasKey u.startup.ownAddr i) = some e :=
        fun e he hown => by
          rw [htab, hstartup]
          exact htable.find?_eq_some he hown
      rw [htab, hstartup] at ttable
      refine ⟨tinputs.trans hinputs, ?_, fun _ h => absurd hwithdraw h, fun h => ?_, fun h => absurd h hrise,
        fun h => absurd h hrise, fun h => absurd h hrise, fun h => absurd h hrise, fun _ => ttable, fun _ e he hown => ?_,
        troster.trans hroster, tbeat.trans hbeat, tkeys.trans hkeys, tstartup.trans hstartup, tloop.trans hloop⟩
      · rw [tfaults, hline, tinputs]
      · obtain ⟨-, e, he, hown⟩ := h.resolve_left hrise
        obtain ⟨thands, -⟩ := localWithdraw_effect (tfind e he hown)
        exact handsOn_congr (s := u) htab.symm hplayer.symm hlibrary.symm (by rw [hdrive]; rfl) (by rw [hdrive]; rfl)
          rfl rfl rfl id thands
      · obtain ⟨-, tnone, twaits, tjoins, -⟩ := localWithdraw_effect (tfind e he hown)
        rw [hqueue] at twaits tjoins
        exact ⟨tnone, twaits, tjoins⟩
    · rw [if_neg (by exact hwithdraw)]
      exact ⟨hinputs, hline, fun _ _ => ⟨htab, hqueue⟩,
        fun h => (h.elim hrise fun h => hwithdraw h.1).elim, fun h => absurd h hrise, fun h => absurd h hrise,
        fun h => absurd h hrise, fun h => absurd h hrise, fun h => absurd h hwithdraw, fun h => absurd h hwithdraw,
        hroster, hbeat, hkeys, hstartup, hloop⟩
end

section
/-! PROOFS. The key unit (section 8.8): O45 and O46. -/

namespace Sys2Proof.Machine

variable {s : State} {dt : Nat}

/-! ### Debouncing -/

theorem KeyLine.change_eq (pressed : Bool) (k : KeyLine) : k.change pressed =
    if k.raw = pressed then k else ⟨pressed, k.debounced, if k.debounced = pressed then none else some 0⟩ := by
  simp only [KeyLine.change, @eq_comm _ pressed]

theorem keyLine_elapse (key : Key) : (s.elapse dt).keys.line key = (s.keys.line key).elapse dt := by
  cases key <;> rfl

/-- The station with a key's debounced level taken (R165). -/
def State.withKeyTaken (key : Key) (raw : Bool) (s : State) : State :=
  s.setKeys (s.keys.setLine key ⟨raw, raw, none⟩)

theorem withKeyTaken_line (key : Key) (raw : Bool) (s : State) :
    (s.withKeyTaken key raw).keys.line key = ⟨raw, raw, none⟩
      ∧ ∀ other : Key, other ≠ key → (s.withKeyTaken key raw).keys.line other = s.keys.line other := by
  refine ⟨by cases key <;> rfl, fun other hne => ?_⟩
  cases key <;> cases other
  · exact absurd rfl hne
  · rfl
  · rfl
  · exact absurd rfl hne

/-- A level that has lasted 20 ms is handed to the key unit, where the station runs (R165, R170). -/
theorem debounceExpiry_of_lasted {key : Key} {w : Nat} {raw : Bool} (hw : (s.keys.line key).timer = some w)
    (htime : 20000 ≤ w + dt) (hraw : (s.keys.line key).raw = raw) :
    exec (.debounceExpiry dt key) s = .next
      (if s.running then keyEvent key raw ((s.elapse dt).withKeyTaken key raw) else (s.elapse dt).withKeyTaken key raw) := by
  subst hraw
  have hlasted : debounceTime ≤ tick debounceTime dt w := Nat.le_min.2 ⟨le_rfl, htime⟩
  have hdue : (s.elapse dt).debounced key = true := by
    rw [State.debounced, keyLine_elapse, KeyLine.elapse, hw]
    exact decide_eq_true hlasted
  refine congrArg Host.Outcome.next ?_
  rw [debounceExpiry, if_pos hdue, keyLine_elapse]
  rfl

/-- A key at a cold start is debounced from it: released, and timed only while it is held (R165). -/
theorem coldStart_debounces (cause : StartCause) (key : Key) (s : State) :
    (coldStart cause s).keys.line key = (s.keys.line key).atColdStart := by
  cases key <;> rfl

/-- A key held through a cold start gives its press 20 ms after it (R165). -/
theorem atColdStart_debounces {key : Key} {k : KeyLine} (h : s.keys.line key = k.atColdStart) :
    (s.keys.line key).raw = k.raw ∧ (s.keys.line key).debounced = false
      ∧ (k.raw = false → (s.keys.line key).timer = none)
      ∧ (k.raw = true → (s.keys.line key).timer = some 0) := by
  rw [h]
  exact ⟨rfl, rfl, fun hraw => by simp [KeyLine.atColdStart, hraw], fun hraw => by simp [KeyLine.atColdStart, hraw]⟩

/-! ### The key unit's state machine (R166 to R169) -/

theorem ackAction_keys (s : State) : (ackAction s).keys = { s.keys with state := .idle } := by
  simp [ackAction, setKeyState]

theorem testAction_keys (s : State) : (testAction s).keys = { s.keys with state := .idle } := by
  unfold testAction requestTest
  dsimp only
  split <;> simp [setKeyState]

/-- Neither key's level is touched by the state machine (R165). -/
theorem keyEvent_line (key other : Key) (pressed : Bool) (s : State) :
    (keyEvent key pressed s).keys.line other = s.keys.line other := by
  have hack := ackAction_keys s
  have htest := testAction_keys s
  unfold keyEvent
  cases other <;> (repeat' split) <;> simp [KeyUnit.line, hack, htest, setKeyState, beginChord]

/-- The key state after a press (R166, R167). -/
def KeyState.pressed : KeyState → Key → KeyState
  | .idle, .ack => .ackDown
  | .idle, .test => .testDown
  | .ackDown, .test | .testDown, .ack => .chord
  | k, _ => k

/-- A press changes the key state alone, and begins a chord's count (R166, R167). -/
theorem keyEvent_press (key : Key) (s : State) : keyEvent key true s = s.setKeys { s.keys with
    state := s.keys.state.pressed key
    hold := if s.keys.state = .ackDown ∧ key = .test ∨ s.keys.state = .testDown ∧ key = .ack then 0 else s.keys.hold } := by
  have hkeep : ∀ k h, s.keys.state = k → s.keys.hold = h → s = s.setKeys { s.keys with state := k, hold := h } := by
    rintro _ _ rfl rfl
    rfl
  unfold keyEvent
  cases key <;> cases hs : s.keys.state
  case ack.idle | test.idle | ack.testDown | test.ackDown => rfl
  all_goals exact hkeep _ _ hs rfl

/-- A release that ends no key's own press but a chord, or finds the keys spent, changes the key state alone (R167, R168). -/
theorem keyEvent_release_of_chord (key : Key) (h : s.keys.state = .chord) :
    keyEvent key false s = setKeyState .spent s := by
  unfold keyEvent
  rw [h]

theorem keyEvent_release_of_spent (key : Key) (h : s.keys.state = .spent) : keyEvent key false s =
    s.setKeys { s.keys with state := if s.keys.ack.debounced || s.keys.test.debounced then .spent else .idle } := by
  have hkeep : s = s.setKeys { s.keys with state := .spent } := by
    rw [← h]
    rfl
  unfold keyEvent
  rw [h]
  dsimp only
  split
  · exact hkeep
  · rfl

theorem keyEvent_release_ack (h : s.keys.state = .ackDown) : keyEvent .ack false s = ackAction s := by
  unfold keyEvent
  rw [h]

theorem keyEvent_release_test (h : s.keys.state = .testDown) : keyEvent .test false s = testAction s := by
  unfold keyEvent
  rw [h]

/-- A silence originated at this station (R46, R47). -/
theorem originateSilence_effect (s : State) :
    (originateSilence s).table = s.table.map (fun e => { e with silenced := true })
      ∧ (originateSilence s).player = { s.player with sound := false }
      ∧ (originateSilence s).drive = (if s.player.sound = true ∧ (s.player.mode = .intro ∨ s.player.mode = .cycle) then
          patternWithdrawn s.drive else s.drive)
      ∧ (s.queue.messages.length < 6 → ∃ m ∈ (originateSilence s).queue.messages, m.news = .silence)
      ∧ (s.queue.inOrder → (originateSilence s).queue.messages = (s.queue.joinedBy .silence).1) := by
  obtain ⟨htable, hplayer, hdrive⟩ := applySilence_effect s
  have hqueue : (applySilence s).queue = s.queue := by simp
  rw [withdrawPattern_eq] at hdrive
  unfold originateSilence
  generalize applySilence s = u at *
  rw [← hqueue]
  refine ⟨by simpa using htable, by simpa using hplayer, ?_, enqueue_silence_waits, enqueue_messages⟩
  rw [show (enqueue .silence u).drive = u.drive by simp, hdrive]
  exact if_congr (by simp) rfl rfl

/-- An ACK action: a silence, and then a chirp asked for (R169). -/
theorem ackAction_effect (s : State) :
    (ackAction s).table = s.table.map (fun e => { e with silenced := true })
      ∧ (ackAction s).player.sound = false
      ∧ chirpAsked (if s.player.sound = true ∧ (s.player.mode = .intro ∨ s.player.mode = .cycle) then
          patternWithdrawn s.drive else s.drive) (ackAction s).drive
      ∧ (s.queue.messages.length < 6 → ∃ m ∈ (ackAction s).queue.messages, m.news = .silence) := by
  obtain ⟨htable, hplayer, hdrive, hwaits, -⟩ := originateSilence_effect (setKeyState .idle s)
  refine ⟨htable, congrArg Player.sound hplayer, ?_, hwaits⟩
  have hchirp := chirpRequest_asks (originateSilence (setKeyState .idle s)).drive
  rw [hdrive] at hchirp
  rw [ackAction, requestChirp, State.setDrive_drive, hdrive]
  exact hchirp

/-- An output test asked for with an empty table is due, unless one plays (R130). -/
theorem Player.requestTest_empty (p : Player) :
    p.requestTest true = ({ p with testDue := p.testDue || p.mode != .test }, true) := by
  obtain ⟨mode, current, wanted, restart, introCount, stepOffset, testDue, testBeats, sound⟩ := p
  cases testDue with
  | true => rfl
  | false => cases mode <;> rfl

/-- A TEST action: an output test asked for, and a chirp where an empty table allows it (R130, R169). -/
theorem testAction_effect (s : State) :
    (testAction s).player.testDue = (s.player.testDue || (s.table.isEmpty && s.player.mode != .test))
      ∧ (s.table = [] → chirpAsked s.drive (testAction s).drive)
      ∧ (s.table ≠ [] → (testAction s).drive = s.drive) := by
  have hpress : testAction s = if (s.player.requestTest s.table.isEmpty).2 then
      requestChirp ((setKeyState .idle s).setPlayer (s.player.requestTest s.table.isEmpty).1)
      else (setKeyState .idle s).setPlayer (s.player.requestTest s.table.isEmpty).1 := rfl
  rw [hpress]
  cases hempty : s.table with
  | cons e rest =>
    refine ⟨?_, fun h => absurd h (List.cons_ne_nil _ _), fun _ => rfl⟩
    exact (Bool.or_false _).symm
  | nil =>
    rw [List.isEmpty_nil, Player.requestTest_empty]
    exact ⟨rfl, fun _ => chirpRequest_asks s.drive, fun h => absurd rfl h⟩

/-- The level that an expiry leaves is the taken one, and the other key's stays, in every station state (R165). -/
theorem debounceExpiry_lines {key : Key} {w : Nat} {raw : Bool} (hw : (s.keys.line key).timer = some w)
    (htime : 20000 ≤ w + dt) (hraw : (s.keys.line key).raw = raw) :
    ∃ t, exec (.debounceExpiry dt key) s = .next t ∧ t.keys.line key = ⟨raw, raw, none⟩
      ∧ (∀ other : Key, other ≠ key → t.keys.line other = (s.elapse dt).keys.line other)
      ∧ (s.running = true → t = keyEvent key raw ((s.elapse dt).withKeyTaken key raw)) := by
  obtain ⟨hline, hothers⟩ := withKeyTaken_line key raw (s.elapse dt)
  refine ⟨_, debounceExpiry_of_lasted hw htime hraw, ?_⟩
  cases hr : s.running with
  | false => exact ⟨hline, hothers, fun h => Bool.noConfusion h⟩
  | true =>
    refine ⟨(keyEvent_line key key raw _).trans hline, fun other hne => ?_, fun _ => rfl⟩
    exact (keyEvent_line key other raw _).trans (hothers other hne)

/-- A start that leaves both keys as a cold start does debounces them from it (R165). -/
theorem debounces_from_coldStart {s t : State} {after : Nat}
    (h : ∀ key, t.keys.line key = ((s.elapse after).keys.line key).atColdStart) (key : Key) :
    (t.keys.line key).raw = (s.keys.line key).raw ∧ (t.keys.line key).debounced = false
      ∧ ((s.keys.line key).raw = false → (t.keys.line key).timer = none)
      ∧ ((s.keys.line key).raw = true →
        ∃ u, exec (.debounceExpiry 20000 key) t = .next u ∧ u.keys.line key = ⟨true, true, none⟩) := by
  obtain ⟨hraw, hdebounced, hreleased, hheld⟩ := atColdStart_debounces (h key)
  rw [keyLine_elapse] at hraw hreleased hheld
  refine ⟨hraw, hdebounced, hreleased, fun hpressed => ?_⟩
  obtain ⟨u, hexec, hline, -⟩ := debounceExpiry_lines (dt := 20000) (hheld hpressed) (by omega) (hraw.trans hpressed)
  exact ⟨u, hexec, hline⟩

end Sys2Proof.Machine

open Sys2Proof Sys2Proof.Machine

/-- Settles O45: a level begins or stops its debounce, an expiry takes it, and a cold start of each cause begins anew. -/
theorem keyLevelsAreDebounced : Obligations.KeyLevelsAreDebounced := by
  unfold Obligations.KeyLevelsAreDebounced
  intro after microvolts s moved down debouncesFromTheStart
  refine ⟨fun pressed => ⟨?_, ?_⟩, fun key w hw htime raw hraw hne => ?_, fun low => ?_, fun held hrst hlong => ?_,
    fun hsupply hkept htime hc hr hrun hloaded => ?_⟩
  · exact congrArg Host.Outcome.next
      (congrArg (fun k => (s.elapse after).setKeys { (s.elapse after).keys with ack := k }) (KeyLine.change_eq pressed _))
  · exact congrArg Host.Outcome.next
      (congrArg (fun k => (s.elapse after).setKeys { (s.elapse after).keys with test := k }) (KeyLine.change_eq pressed _))
  · obtain ⟨t, hexec, hline, hothers, hevent⟩ := debounceExpiry_lines hw htime.ge hraw
    refine ⟨t, hexec, hline, hothers, fun hrun hpress hidle => ?_, fun hrun hrelease hdown => ?_⟩
    · have hstate : ((s.elapse after).withKeyTaken key true).keys.state = .idle := by cases key <;> exact hidle
      rw [hevent hrun, hpress, keyEvent_press, hstate]
      cases key <;> rfl
    · rw [hevent hrun, hrelease]
      cases key with
      | ack => rw [keyEvent_release_ack (s := (s.elapse after).withKeyTaken .ack false) hdown, ackAction_keys]
      | test => rw [keyEvent_release_test (s := (s.elapse after).withKeyTaken .test false) hdown, testAction_keys]
  · exact ⟨powerOn low (s.elapse after), rfl, debounces_from_coldStart fun key => coldStart_debounces .powerOn key _⟩
  · have hpin := rst_elapse_timing hrst after
    have hheld : 1000 ≤ min 1000 (held + after) := by omega
    exact ⟨_, congrArg Host.Outcome.next (resetPin_of_held hpin hheld),
      debounces_from_coldStart fun key => coldStart_debounces .resetPin key _⟩
  · have due := conversionDue_elapse (s := s) (after := after) (by simp [hsupply]) htime.ge
    have hchange : ((s.elapse after).supply.sample (readingOf microvolts)).change = some .low := by
      rw [Supply.sample_eq]
      exact Supply.change_recovery hc (nextRun_in (decide_eq_true hr) hrun)
    have hcond : (s.elapse after).supply.condition = .cutoff := hc
    have hrecovers : (s.elapse after).recoversNow (readingOf microvolts) = true := by
      rw [State.recoversNow, hcond, supplyLeads_of_change due hkept hsupply hchange]
      rfl
    refine ⟨_, congrArg Host.Outcome.next ((if_pos hrecovers).trans
      ((conversionComplete_recovery due hkept hsupply hchange hcond).trans (by rw [if_pos (by exact hloaded)]))), ?_⟩
    exact debounces_from_coldStart fun key => coldStart_debounces .supplyRecovery key _

/-- Settles O46: the level is taken, and the key unit acts on it where the station runs. -/
theorem debouncedKeysAct : Obligations.DebouncedKeysAct := by
  unfold Obligations.DebouncedKeysAct
  intro after key s w hw htime raw line ks moved
  have hexec := debounceExpiry_of_lasted (raw := raw) hw htime rfl
  have hkeys : ((s.elapse after).withKeyTaken key raw).keys = moved := by cases key <;> rfl
  have hstate : moved.state = s.keys.state := by cases key <;> rfl
  have hv : ∀ b, raw = b → ((s.elapse after).withKeyTaken key b).keys = moved := fun b hb => hb ▸ hkeys
  have hlines := fun other => keyEvent_line key other raw ((s.elapse after).withKeyTaken key raw)
  obtain ⟨-, -, hbeat, -, -, hroster, hfaults, -, -, -, -, hinputs, -⟩ :=
    keyEvent_frame key raw ((s.elapse after).withKeyTaken key raw)
  refine ⟨_, hexec, ?_⟩
  cases hr : s.running with
  | false =>
    have hrest : (s.elapse after).withKeyTaken key raw = { s.elapse after with keys := moved } := by rw [← hkeys]; rfl
    rw [if_neg Bool.false_ne_true]
    exact ⟨congrArg KeyUnit.ack hkeys, congrArg KeyUnit.test hkeys, rfl, rfl, rfl, rfl, fun _ => hrest,
      fun h => Bool.noConfusion h, fun h => Bool.noConfusion h, fun h => Bool.noConfusion h, fun h => Bool.noConfusion h,
      fun h => Bool.noConfusion h⟩
  | true =>
    rw [if_pos rfl]
    refine ⟨hkeys ▸ hlines .ack, hkeys ▸ hlines .test, hbeat, hinputs, hroster, hfaults, fun h => Bool.noConfusion h,
      fun _ hraw => ?_, fun _ hraw hs hkey => ?_, fun _ hraw hs hkey => ?_, fun _ hraw hs => ?_, fun _ hraw hs => ?_⟩
    · rw [hraw, keyEvent_press, hv true hraw, hstate]
      exact ⟨rfl, rfl, rfl, rfl, by cases key <;> cases s.keys.state <;> rfl, fun h => if_pos h⟩
    · rw [hraw, hkey, keyEvent_release_ack (by rw [← hkey, hv false hraw, hstate, hs])]
      obtain ⟨htable, hsound, hchirp, hwaits⟩ := ackAction_effect ((s.elapse after).withKeyTaken .ack false)
      exact ⟨by rw [ackAction_keys], htable, hsound, hchirp, hwaits⟩
    · rw [hraw, hkey, keyEvent_release_test (by rw [← hkey, hv false hraw, hstate, hs])]
      obtain ⟨hdue, hchirp, hdrive⟩ := testAction_effect ((s.elapse after).withKeyTaken .test false)
      exact ⟨by rw [testAction_keys], by simp [State.withKeyTaken], by simp [State.withKeyTaken], hdue, hchirp, hdrive⟩
    · rw [hraw, keyEvent_release_of_chord key (by rw [hv false hraw, hstate, hs])]
      exact ⟨rfl, rfl, rfl⟩
    · rw [hraw, keyEvent_release_of_spent key (by rw [hv false hraw, hstate, hs]), hv false hraw]
      exact ⟨rfl, rfl⟩
end

section
/-! PROOFS. The drives (chapter 7): O47. -/

namespace Sys2Proof.Machine

variable {s : State} {dt : Nat}

/-! ### Chirps -/

/-- A rest taken back from behind a chirp starts a new wave, whatever the chirp's (R138, R143). -/
theorem Drive.setTone_rest {r : ToneStep} (d : Drive) (source : SounderSource) (h : r.tone = 0 ∨ r.volume = 0) :
    d.setTone source r = { d with
      source := source, tone := r.tone, volume := r.volume, envelope := r.envelope, offset := r.offset
      envelopeLevel := envelopeLevelOf r.volume r.envelope r.offset
      level := d.capped (envelopeLevelOf r.volume r.envelope r.offset)
      sndPhase := 0 } := by
  have hbroken : (d.sounding && d.tone == r.tone && d.capped (envelopeLevelOf r.volume r.envelope r.offset) != 0) = false := by
    obtain h | h := h
    · cases htone : d.tone == r.tone with
      | false => simp
      | true => simp [Drive.sounding, (beq_iff_eq.1 htone).trans h]
    · simp [envelopeLevelOf, h, Drive.capped]
  simp only [Drive.setTone, hbroken, Bool.false_eq_true, if_false]

theorem chirpEnd_of_due {w : Nat} (hw : s.drive.chirpTimer = some w) (htime : 31250 ≤ w + dt) :
    exec (.chirpEnd dt) s = .next ((s.elapse dt).setDrive (s.elapse dt).drive.chirpEnd) := by
  have htimer : (s.elapse dt).drive.chirpTimer = some (tick eighthTime dt w) := congrArg (Option.map _) hw
  have hdue : eighthTime ≤ tick eighthTime dt w := Nat.le_min.2 ⟨le_rfl, htime⟩
  refine congrArg Host.Outcome.next ?_
  rw [chirpEnd, htimer]
  exact if_pos hdue

/-! ### Waves -/

/-- A high part of SND in eighths of the period (R136). -/
theorem sndHigh_iff (htone : s.drive.tone ≠ 0) (hlevel : s.drive.level ≠ 0) :
    s.sndHigh = true ↔ 8 * (s.drive.sndPhase % 1000000) < sndDuty s.drive.level * 1000000 := by
  have hsounding : s.drive.sounding = true := by simp [Drive.sounding, htone, hlevel]
  rw [State.sndHigh, hsounding, Bool.true_and]
  exact decide_eq_true_iff

theorem sounding_of_low (h : s.drive.tone = 0 ∨ s.drive.level = 0) : s.drive.sounding = false := by
  obtain h | h := h <;> simp [Drive.sounding, h]

/-- The period of SND that starts, where one does (R135, R145). -/
theorem periodStart_snd_of_start {d : Drive} (hsounding : d.sounding = true) (hperiod : 1000000 ≤ d.sndPhase)
    (hstart : d.sndPhase % 1000000 < toneHz d.tone) :
    d.periodStart .snd = { d with level := d.capped d.envelopeLevel, sndPhase := d.sndPhase % 1000000 } := by
  have hat : atPeriodStart (toneHz d.tone) d.sndPhase = true := (atPeriodStart_iff _ _).2 ⟨hperiod, hstart⟩
  rw [Drive.periodStart, hsounding, hat]
  rfl

theorem periodStart_snd_of_not {d : Drive}
    (h : d.sounding = false ∨ d.sndPhase < 1000000 ∨ toneHz d.tone ≤ d.sndPhase % 1000000) : d.periodStart .snd = d := by
  obtain hsame | ⟨hsounding, hat, -⟩ := periodStart_snd_cases d
  · exact hsame
  · obtain ⟨hperiod, hstart⟩ := (atPeriodStart_iff _ _).1 hat
    obtain h | h | h := h
    · exact absurd (h.symm.trans hsounding) Bool.false_ne_true
    · exact absurd hperiod (Nat.not_le.2 h)
    · exact absurd hstart (Nat.not_lt.2 h)

theorem periodStart_bcn_of_start {d : Drive} (hlit : d.beaconLevel ≠ 0) (hperiod : 1000000 ≤ d.bcnPhase)
    (hstart : d.bcnPhase % 1000000 < 1000) :
    d.periodStart .bcn = { d with beaconLevel := d.capped d.intensity, bcnPhase := d.bcnPhase % 1000000 } := by
  have hat : atPeriodStart beaconHz d.bcnPhase = true := (atPeriodStart_iff _ _).2 ⟨hperiod, hstart⟩
  rw [Drive.periodStart, bne_iff_ne.2 hlit, hat]
  rfl

theorem periodStart_bcn_of_not {d : Drive}
    (h : d.beaconLevel = 0 ∨ d.bcnPhase < 1000000 ∨ 1000 ≤ d.bcnPhase % 1000000) : d.periodStart .bcn = d := by
  obtain hsame | ⟨hlit, hat, -⟩ := periodStart_bcn_cases d
  · exact hsame
  · obtain ⟨hperiod, hstart⟩ := (atPeriodStart_iff _ _).1 hat
    obtain h | h | h := h
    · exact absurd h hlit
    · exact absurd hperiod (Nat.not_le.2 h)
    · exact absurd hstart (Nat.not_lt.2 h)

/-- The high part of a lit beacon: a quarter, a half or all of its period, wherever it begins (R139). -/
theorem bcnHigh_iff {level width : Nat} (hwidth : [0, 1, 2, 4].getD level 0 * 250000 = width) :
    ∃ rise, rise + width ≤ max 1000000 width ∧ ∀ u : State, u.drive.beaconLevel = level →
      (u.bcnHigh = true ↔ rise ≤ u.drive.bcnPhase % 1000000 ∧ u.drive.bcnPhase % 1000000 < rise + width) := by
  have hlt : Config.beaconLead level % (1000000 - width + 1) < 1000000 - width + 1 := Nat.mod_lt _ (Nat.succ_pos _)
  refine ⟨Config.beaconLead level % (1000000 - width + 1), by omega, fun u hu => ?_⟩
  have hw : u.bcnWidth = width := by rw [← hwidth, ← hu]; rfl
  have hrise : u.bcnRise = Config.beaconLead level % (1000000 - width + 1) := by rw [State.bcnRise, hw, hu]; rfl
  rw [State.bcnHigh, hw, hrise, Bool.and_eq_true]
  exact and_congr decide_eq_true_iff decide_eq_true_iff

end Sys2Proof.Machine

open Sys2Proof Sys2Proof.Machine

/-- Settles O47: the end of a chirp, and each output's period and high part. -/
theorem chirpsEndAndPeriodsStart : Obligations.ChirpsEndAndPeriodsStart := by
  unfold Obligations.ChirpsEndAndPeriodsStart
  intro after s
  obtain ⟨hbcn, hsnd⟩ := elapse_waves s after
  refine ⟨fun w hw htime => ⟨fun hbehind => ?_, fun r hbehind hrest => ?_⟩, fun htone hlevel => ?_, fun hlow => ?_,
    fun hlit => ?_, fun hdark => ?_, fun level width hmem => ?_⟩
  · have hend : (s.elapse after).drive.chirpEnd = { (s.elapse after).drive.hush with chirpTimer := none } := by
      rw [Drive.chirpEnd, show (s.elapse after).drive.behind = none from hbehind]
    rw [chirpEnd_of_due hw htime, hend]
    rfl
  · have hend : (s.elapse after).drive.chirpEnd
        = { (s.elapse after).drive.setTone .pattern r with chirpTimer := none, behind := none } := by
      rw [Drive.chirpEnd, show (s.elapse after).drive.behind = some r from hbehind]
    rw [chirpEnd_of_due hw htime, hend, Drive.setTone_rest _ _ hrest]
    rfl
  · intro hz run
    have hrun : (s.elapse after).drive.sndPhase = run := hsnd htone hlevel
    have hsounding : (s.elapse after).drive.sounding = true := by
      rw [Drive.sounding, bne_iff_ne.2 (by exact htone), bne_iff_ne.2 (by exact hlevel)]
      rfl
    have hhigh := sndHigh_iff (s := s.elapse after) htone hlevel
    rw [hrun] at hhigh
    refine ⟨fun hperiod hstart => ?_, fun hnot => ?_, fun h => ?_, fun h => ?_, fun h => ?_⟩
    · refine congrArg Host.Outcome.next (congrArg (s.elapse after).setDrive ?_)
      rw [periodStart_snd_of_start hsounding (by rw [hrun]; exact hperiod) (by rw [hrun]; exact hstart), hrun]
      rfl
    · exact congrArg Host.Outcome.next (congrArg (s.elapse after).setDrive
        (periodStart_snd_of_not (.inr (by rw [hrun]; exact hnot))))
    · rw [hhigh, show (s.elapse after).drive.level = 1 from h]
      change 8 * (run % 1000000) < 1 * 1000000 ↔ _
      omega
    · rw [hhigh, show (s.elapse after).drive.level = 2 from h]
      change 8 * (run % 1000000) < 2 * 1000000 ↔ _
      omega
    · rw [hhigh, show (s.elapse after).drive.level = 3 from h]
      change 8 * (run % 1000000) < 4 * 1000000 ↔ _
      omega
  · have hquiet : (s.elapse after).drive.sounding = false := sounding_of_low (s := s.elapse after) hlow
    refine ⟨congrArg Host.Outcome.next (congrArg (s.elapse after).setDrive (periodStart_snd_of_not (.inl hquiet))), ?_⟩
    rw [State.sndHigh, hquiet, Bool.false_and]
  · intro run
    have hrun : (s.elapse after).drive.bcnPhase = run := hbcn hlit
    refine ⟨fun hperiod hstart => ?_, fun hnot => ?_⟩
    · refine congrArg Host.Outcome.next (congrArg (s.elapse after).setDrive ?_)
      rw [periodStart_bcn_of_start (d := (s.elapse after).drive) hlit (by rw [hrun]; exact hperiod)
        (by rw [hrun]; exact hstart), hrun]
      rfl
    · exact congrArg Host.Outcome.next (congrArg (s.elapse after).setDrive
        (periodStart_bcn_of_not (.inr (by rw [hrun]; exact hnot))))
  · refine ⟨congrArg Host.Outcome.next (congrArg (s.elapse after).setDrive (periodStart_bcn_of_not (.inl hdark))), ?_⟩
    obtain ⟨rise, -, hrise⟩ := bcnHigh_iff (level := 0) (width := 0) rfl
    rw [Bool.eq_false_iff, ne_eq, hrise (s.elapse after) hdark]
    omega
  · have hwidth : [0, 1, 2, 4].getD level 0 * 250000 = width ∧ width ≤ 1000000 := by
      simp only [List.mem_cons, Prod.mk.injEq, List.not_mem_nil, or_false] at hmem
      obtain ⟨rfl, rfl⟩ | ⟨rfl, rfl⟩ | ⟨rfl, rfl⟩ := hmem <;> decide
    obtain ⟨rise, hin, hrise⟩ := bcnHigh_iff hwidth.1
    exact ⟨rise, by omega, hrise⟩
end

section
/-! PROOFS. The panel port's transactions and frames (sections 12.1 to 12.5): O48 to O51 and O56. -/

namespace Sys2Proof.Machine

variable {s : State} {dt : Nat}

/-! ### Frames of commands (section 12.2) -/

theorem commandOf_code (c : PanelCommand) : commandOf c.code = some c := by
  cases c <;> rfl

theorem code_ne_zero (c : PanelCommand) : c.code ≠ 0#8 := by
  cases c <;> decide

/-- A buffer of a length and its bytes passes the check just where the byte behind them is their check byte (R208). -/
theorem frameCheckOk_iff (bs : List Byte) : frameCheckOk bs = true ↔
    (bs.getD 1 0#8).toNat ≤ 90 ∧ 3 + (bs.getD 1 0#8).toNat ≤ bs.length
      ∧ crc8 (bs.take (2 + (bs.getD 1 0#8).toNat)) = bs.getD (2 + (bs.getD 1 0#8).toNat) 0#8 := by
  unfold frameCheckOk byteAt
  dsimp only
  rw [Bool.and_eq_true, Bool.and_eq_true, Bool.and_eq_true, beq_iff_eq]
  constructor
  · rintro ⟨⟨⟨-, hn⟩, hlen⟩, hcheck⟩
    exact ⟨of_decide_eq_true hn, of_decide_eq_true hlen, hcheck⟩
  · rintro ⟨hn, hlen, hcheck⟩
    exact ⟨⟨⟨decide_eq_true (by omega), decide_eq_true hn⟩, decide_eq_true hlen⟩, hcheck⟩

theorem carried_of_good {bs : List Byte} (hcode : bs.getD 0 0#8 ≠ 0#8) (h : frameCheckOk bs = true) :
    carried bs = match commandOf (bs.getD 0 0#8) with
      | none => .unknown
      | some c => .command c ((bs.drop 2).take (bs.getD 1 0#8).toNat) := by
  cases bs with
  | nil => exact absurd rfl hcode
  | cons code rest =>
    rw [List.getD_cons_zero] at hcode ⊢
    simp only [carried, if_neg hcode, h, if_true]
    rfl

/-- A command's frame ends in its check, whatever follows it (R207, R208). -/
theorem carried_commandFrame (c : PanelCommand) (payload filler : List Byte) (h : payload.length ≤ 90) :
    carried (commandFrame c.code payload ++ filler) = .command c payload := by
  have hn : (BitVec.ofNat 8 payload.length).toNat = payload.length := by
    rw [BitVec.toNat_ofNat]
    omega
  have hframe : commandFrame c.code payload ++ filler = c.code :: BitVec.ofNat 8 payload.length
      :: (payload ++ crc8 (c.code :: BitVec.ofNat 8 payload.length :: payload) :: filler) := by
    simp [commandFrame]
  rw [hframe]
  generalize hcheck : crc8 (c.code :: BitVec.ofNat 8 payload.length :: payload) = check
  have hok : frameCheckOk (c.code :: BitVec.ofNat 8 payload.length :: (payload ++ check :: filler)) = true := by
    rw [frameCheckOk_iff]
    simp only [List.getD_cons_succ, List.getD_cons_zero, hn]
    refine ⟨h, by simp only [List.length_cons, List.length_append]; omega, ?_⟩
    rw [Nat.add_comm 2, List.take_succ_cons, List.take_succ_cons, List.getD_cons_succ, List.getD_cons_succ,
      List.take_left, hcheck]
    simp
  rw [carried_of_good (by exact code_ne_zero c) hok, List.getD_cons_zero, commandOf_code]
  simp only [List.getD_cons_succ, List.getD_cons_zero, hn, List.drop_succ_cons, List.drop_zero, List.take_left]

/-! ### The close (sections 12.2 and 12.4) -/

/-- The port once a transaction has closed: a new response held, and nothing else of it left (R206, R207). -/
def Port.closed (response : List Byte) (p : Port) : Port :=
  { p with
    opened := false, dropped := false, buffer := [], bitCount := 0, shift := 0#8, outPos := 0, pso := false
    held := response }

/-- The close of a transaction that carries a command, before its checks (R208). -/
theorem closeCommand_of_carried {c : PanelCommand} {act : List Byte → State → Taken} {payload filler : List Byte}
    (hopen : s.port.opened = true) (hkept : s.port.dropped = false) (hlen : payload.length ≤ 90)
    (hbuffer : s.port.buffer = commandFrame c.code payload ++ filler) : closeCommand c act s =
      closeWith (responseFrame (takeCommand c act payload s).status c.code (takeCommand c act payload s).payload)
        (takeCommand c act payload s).state := by
  have hcarries : s.carries = .command c payload := by
    rw [State.carries, hkept, hbuffer]
    exact carried_commandFrame c payload filler hlen
  simp only [closeCommand, hcarries]
  rw [if_pos ⟨hopen, trivial⟩]

/-- A command of the right length at a station that runs acts (R208). -/
theorem closeCommand_acts {c : PanelCommand} {act : List Byte → State → Taken} {payload filler : List Byte}
    (hr : s.running = true) (hopen : s.port.opened = true) (hkept : s.port.dropped = false)
    (hlen : payload.length = c.payloadLength) (hbuffer : s.port.buffer = commandFrame c.code payload ++ filler) :
    closeCommand c act s =
      closeWith (responseFrame (act payload s).status c.code (act payload s).payload) (act payload s).state := by
  have hshort : payload.length ≤ 90 := by
    rw [hlen]
    cases c <;> decide
  have htake : takeCommand c act payload s = act payload s := by rw [takeCommand, if_pos hr, if_pos hlen]
  rw [closeCommand_of_carried hopen hkept hshort hbuffer, htake]

/-- A command at a station that does not run, or of the wrong length, is turned away with no effect (R208, R209). -/
theorem closeCommand_turnedAway {c : PanelCommand} {act : List Byte → State → Taken} {payload filler : List Byte}
    (hopen : s.port.opened = true) (hkept : s.port.dropped = false) (hlen : payload.length ≤ 90)
    (hbuffer : s.port.buffer = commandFrame c.code payload ++ filler) :
    (s.running = false → closeCommand c act s = closeWith (responseFrame .notReady c.code s.notReadyPayload) s)
      ∧ (s.running = true → payload.length ≠ c.payloadLength →
        closeCommand c act s = closeWith (responseFrame .badArgument c.code []) s) := by
  rw [closeCommand_of_carried hopen hkept hlen hbuffer]
  refine ⟨fun hr => ?_, fun hr hwrong => ?_⟩
  · rw [takeCommand, if_neg (by rw [hr]; exact Bool.false_ne_true)]
  · rw [takeCommand, if_pos hr, if_neg hwrong]
    rfl

/-- NOT_READY shows one of the two states that turn a command away, and the start's cause (R209). -/
theorem notReadyPayload_eq (hr : s.running = false) : s.notReadyPayload =
    [if s.startup.station = .starting then 0x00#8 else 0x03#8,
     match s.startup.cause with
     | .powerOn => 0x00#8
     | .resetPin => 0x01#8
     | .supplyRecovery => 0x02#8] := by
  have hstation : s.startup.station.code = if s.startup.station = .starting then 0x00#8 else 0x03#8 := by
    unfold State.running at hr
    cases hs : s.startup.station <;> simp_all [StationState.code]
  have hcause : s.startup.cause.code = match s.startup.cause with
      | .powerOn => 0x00#8
      | .resetPin => 0x01#8
      | .supplyRecovery => 0x02#8 := by
    cases s.startup.cause <;> rfl
  exact congrArg₂ (fun a b => [a, b]) hstation hcause

theorem carries_nothing (h : s.port.dropped = true ∨ s.port.buffer = [] ∨ s.port.buffer.getD 0 0#8 = 0#8) :
    s.carries = .nothing := by
  unfold State.carries
  split
  · rfl
  · next hkept =>
    obtain h | h := h.resolve_left hkept
    · rw [h]
      rfl
    · cases hb : s.port.buffer with
      | nil => rfl
      | cons code rest =>
        rw [hb, List.getD_cons_zero] at h
        rw [carried, if_pos h]

theorem carries_bad (hkept : s.port.dropped = false) (hbuffer : s.port.buffer ≠ []) (hcode : s.port.buffer.getD 0 0#8 ≠ 0#8)
    (hbad : ¬ frameCheckOk s.port.buffer = true) : s.carries = .bad := by
  rw [State.carries, hkept, if_neg Bool.false_ne_true]
  cases hb : s.port.buffer with
  | nil => exact absurd hb hbuffer
  | cons code rest =>
    rw [hb] at hcode hbad
    rw [List.getD_cons_zero] at hcode
    rw [carried, if_neg hcode, if_neg hbad]

/-- The eleven codes are those of commands (section 12.3). -/
theorem commandOf_eq_none : ∀ code : Byte,
    code ∉ [0x01#8, 0x02#8, 0x03#8, 0x04#8, 0x05#8, 0x10#8, 0x11#8, 0x12#8, 0x13#8, 0x14#8, 0x15#8] →
    commandOf code = none := by
  decide

theorem carries_unknown (hkept : s.port.dropped = false) (hcode : s.port.buffer.getD 0 0#8 ≠ 0#8)
    (hgood : frameCheckOk s.port.buffer = true) (hnone : commandOf (s.port.buffer.getD 0 0#8) = none) :
    s.carries = .unknown := by
  rw [State.carries, hkept, if_neg Bool.false_ne_true, carried_of_good hcode hgood, hnone]

/-- The bit that a fall of PSCK presents (R206, R221). -/
theorem Port.nextBit_eq (p : Port) :
    p.nextBit = if p.dropped then false else (p.held.getD p.outPos 0#8).getMsbD p.bitCount := by
  unfold Port.nextBit
  cases p.dropped <;> rfl

/-- The three bytes of the shortest command (section 12.3). -/
theorem commandFrame_readSummary : commandFrame PanelCommand.readSummary.code [] = [0x01#8, 0x00#8, 0x15#8] := by
  have hcode : crc8Byte 0#8 0x01#8 = 0x07#8 := by decide
  have hlength : crc8Byte 0x07#8 0x00#8 = 0x15#8 := by decide
  have hcheck : crc8 [0x01#8, 0x00#8] = 0x15#8 := by
    rw [crc8, List.foldl_cons, List.foldl_cons, List.foldl_nil, hcode, hlength]
  exact congrArg (fun check => [0x01#8, 0x00#8, check]) hcheck

/-! ### What the reads show (section 12.5) -/

theorem summary_eq (hr : s.running = true) : s.summary =
    [if s.startup.station = .joining then 0x01#8 else 0x02#8, s.startup.cause.code,
     BitVec.ofNat 8 s.startup.ownAddr, BitVec.ofNat 8 s.beat.lock.code, s.beat.barCount,
     BitVec.ofNat 8 s.beat.beatIndex.toNat, BitVec.ofNat 8 s.supply.lastBand, s.supply.condition.code,
     (s.table.head?.map fun e => BitVec.ofNat 8 e.cue).getD 0#8,
     (s.table.head?.map fun e => BitVec.ofNat 8 e.priority).getD 0#8,
     BitVec.ofNat 8 s.table.length, s.faults, BitVec.ofNat 8 s.library.rejected] := by
  have hstation : s.startup.station.code = if s.startup.station = .joining then 0x01#8 else 0x02#8 := by
    unfold State.running at hr
    cases hs : s.startup.station <;> simp_all [StationState.code]
  have hhead : ∀ f : Entry → Nat, BitVec.ofNat 8 ((s.table.head?.map f).getD 0)
      = (s.table.head?.map fun e => BitVec.ofNat 8 (f e)).getD 0#8 := fun f => by
    cases s.table.head? <;> rfl
  rw [State.summary, hstation, hhead Entry.cue, hhead Entry.priority, BitVec.ofNat_toNat]

theorem Entry.record_eq (e : Entry) : e.record =
    [BitVec.ofNat 8 ((if e.silenced then 128 else 0) + (if e.latched then 64 else 0) + e.cue),
     BitVec.ofNat 8 (8 * e.input + e.priority), BitVec.ofNat 8 (32 * e.state.code + e.origin),
     BitVec.ofNat 8 (16 * e.stampBeat.toNat + e.miss), e.stampBar] := by
  rw [Nat.mul_comm 8, Nat.mul_comm 32, Nat.mul_comm 16]
  rfl

theorem Input.record_eq (x : Input) : x.record =
    [BitVec.ofNat 8 (16 * x.qualified.code + x.candidate.code),
     BitVec.ofNat 8 ((if x.lineFault then 4 else 0) + x.request.code)] := by
  rw [Nat.mul_comm 16]
  rfl

/-- The SELF entry shows the station's own values, any other what was heard (R99, R213). -/
theorem RosterEntry.record_eq (s : State) (e : RosterEntry) : e.record s =
    (let own : Bool := e.state == .self
    let anyFault := if own then s.faults != 0#8 else e.anyFault
    let supplyLow := if own then s.supply.condition == .low else e.supplyLow
    let miss := if own then 0 else e.miss
    let lock := if own then 4 + s.beat.lock.code else if e.heardLocked then 1 else 0
    [BitVec.ofNat 8 ((if e.lastHeard.isSome then 128 else 0) + (if anyFault then 64 else 0)
        + (if supplyLow then 32 else 0) + 8 * miss + e.state.code),
     BitVec.ofNat 8 (16 * (match e.lastHeard with | some h => h.2.toNat | none => 0) + lock),
     (match e.lastHeard with | some h => h.1 | none => 0#8), if own then s.faults else e.faultByte]) := by
  have hmul : ∀ m, 8 * m = m * 8 := Nat.mul_comm 8
  have hstamp : ∀ m, 16 * m = m * 16 := Nat.mul_comm 16
  unfold RosterEntry.record rosterRecord
  dsimp only
  rw [hmul, hstamp]
  by_cases hown : e.state = .self
  · rw [if_pos hown, beq_iff_eq.2 hown, hown]
    cases e.lastHeard <;> rfl
  · rw [if_neg hown, beq_eq_false_iff_ne.2 hown]
    cases e.lastHeard <;> rfl

end Sys2Proof.Machine

open Sys2Proof Sys2Proof.Machine

/-- Settles O56. -/
theorem panelFramesReadBackAsSent : Obligations.PanelFramesReadBackAsSent := by
  unfold Obligations.PanelFramesReadBackAsSent
  exact carried_commandFrame

/-- Settles O48: an edge at an open port, and none at a closed one. -/
theorem transactionClocksBothWays : Obligations.TransactionClocksBothWays := by
  unfold Obligations.TransactionClocksBothWays
  intro after psi s
  have hbits : (s.elapse after).port.bitCount = s.port.bitCount := rfl
  refine ⟨fun hclosed => ?_, fun hopen hcount => ?_, fun hopen hcount => ?_, fun hopen => ?_, fun hclosed => ⟨?_, ?_⟩⟩
  · exact congrArg Host.Outcome.next (if_neg (Bool.eq_false_iff.1 hclosed))
  · refine congrArg Host.Outcome.next ((if_pos hopen).trans (congrArg (s.elapse after).setPort ?_))
    exact if_neg (by omega)
  · refine congrArg Host.Outcome.next ((if_pos hopen).trans (congrArg (s.elapse after).setPort ?_))
    exact if_pos (by omega)
  · refine congrArg Host.Outcome.next ((if_pos hopen).trans (congrArg (s.elapse after).setPort ?_))
    exact congrArg (fun b => { s.port with pso := b }) (Port.nextBit_eq s.port)
  · exact congrArg Host.Outcome.next (if_neg (Bool.eq_false_iff.1 hclosed))
  · exact congrArg Host.Outcome.next (if_neg (Bool.eq_false_iff.1 hclosed))

/-- Settles O49: what the transaction carries decides which of the three closes it is. -/
theorem closesThatCarryNoCommand : Obligations.ClosesThatCarryNoCommand := by
  unfold Obligations.ClosesThatCarryNoCommand
  intro after s hopen closed code n good
  have hgood : frameCheckOk s.port.buffer = true ↔ good := frameCheckOk_iff s.port.buffer
  refine ⟨fun h => ?_, fun hkept hbuffer hcode hbad => ?_, fun hkept hbuffer hcode hwhole hnone => ?_⟩
  · have hcarries := carries_nothing (s := s.elapse after) h
    refine congrArg Host.Outcome.next ((if_pos ⟨hopen, hcarries⟩).trans ?_)
    rw [noResponse_bytes]
    rfl
  · have hcarries := carries_bad (s := s.elapse after) hkept hbuffer hcode fun h => hbad (hgood.1 h)
    exact congrArg Host.Outcome.next (if_pos ⟨hopen, hcarries⟩)
  · have hcarries := carries_unknown (s := s.elapse after) hkept hcode (hgood.2 hwhole) (commandOf_eq_none code hnone)
    exact congrArg Host.Outcome.next (if_pos ⟨hopen, hcarries⟩)

/-- Settles O50: every command comes by its close. -/
theorem notReadyAndBadLengthHaveNoEffect : Obligations.NotReadyAndBadLengthHaveNoEffect := by
  unfold Obligations.NotReadyAndBadLengthHaveNoEffect
  intro after payload filler s c hc hopen hkept hlen hbuffer closed
  obtain ⟨act, hexec, hcount⟩ : ∃ act, exec c.1 s = .next (closeCommand c.2.1 act (s.elapse after))
      ∧ c.2.2 = c.2.1.payloadLength := by
    simp only [List.mem_cons, List.not_mem_nil, or_false] at hc
    obtain rfl | rfl | rfl | rfl | rfl | rfl | rfl | rfl | rfl | rfl | rfl := hc
    exacts [⟨actReadSummary, rfl, rfl⟩, ⟨actReadTable, rfl, rfl⟩, ⟨actReadRoster, rfl, rfl⟩, ⟨actReadInputs, rfl, rfl⟩,
      ⟨actReadCounters, rfl, rfl⟩, ⟨actPost, rfl, rfl⟩, ⟨actWithdraw, rfl, rfl⟩, ⟨actSilence, rfl, rfl⟩,
      ⟨actRestore, rfl, rfl⟩, ⟨actTest, rfl, rfl⟩, ⟨actClearCounters, rfl, rfl⟩]
  obtain ⟨hnotReady, hwrong⟩ := closeCommand_turnedAway (s := s.elapse after) (act := act) hopen hkept hlen hbuffer
  rw [hexec, hcount]
  refine ⟨fun hr => ?_, fun hr hne => congrArg Host.Outcome.next (hwrong hr hne)⟩
  rw [hnotReady hr, notReadyPayload_eq (s := s.elapse after) hr]
  rfl

/-- Settles O51: the close of each read, with what the station shows. -/
theorem readsAnswerAndChangeNothing : Obligations.ReadsAnswerAndChangeNothing := by
  unfold Obligations.ReadsAnswerAndChangeNothing
  intro after filler s hr hopen hkept closed
  have hacts := fun (c : PanelCommand) (act : List Byte → State → Taken) (payload : List Byte) =>
    closeCommand_acts (s := s.elapse after) (c := c) (act := act) (payload := payload) (filler := filler) hr hopen hkept
  refine ⟨fun hbuffer => ?_, fun hbuffer => ?_, fun half hhalf hbuffer => ?_, fun half hhalf hbuffer => ?_, fun hbuffer => ?_,
    fun hbuffer => ?_⟩
  · refine congrArg Host.Outcome.next ((hacts .readSummary actReadSummary [] rfl (by rw [commandFrame_readSummary]; exact hbuffer)).trans ?_)
    exact congrArg (fun p => closed false 0x01#8 p) (summary_eq (s := s.elapse after) hr)
  · refine congrArg Host.Outcome.next ((hacts .readTable actReadTable [] rfl hbuffer).trans ?_)
    exact congrArg (fun p => closed s.port.attn 0x02#8 (BitVec.ofNat 8 s.table.length :: s.table.flatMap p))
      (funext Entry.record_eq)
  · have hnum : (byteAt [BitVec.ofNat 8 half] 0).toNat = half := by
      simp only [List.mem_cons, List.not_mem_nil, or_false] at hhalf
      obtain rfl | rfl := hhalf <;> rfl
    have hlow : half ≤ 1 := by
      simp only [List.mem_cons, List.not_mem_nil, or_false] at hhalf
      omega
    have hact : actReadRoster [BitVec.ofNat 8 half] (s.elapse after)
        = ⟨s.elapse after, .ok, (s.elapse after).rosterPayload half⟩ := by
      rw [actReadRoster, hnum]
      exact if_pos hlow
    refine congrArg Host.Outcome.next ((hacts .readRoster actReadRoster [BitVec.ofNat 8 half] rfl hbuffer).trans ?_)
    rw [hact]
    exact congrArg (fun p => closed s.port.attn 0x03#8
      (BitVec.ofNat 8 (16 * half) :: ((s.roster.drop (16 * half)).take 16).flatMap p))
      (funext (RosterEntry.record_eq (s.elapse after)))
  · have hact : actReadRoster [half] (s.elapse after) = turnAway .badArgument (s.elapse after) :=
      if_neg (Nat.not_le.2 hhalf)
    refine congrArg Host.Outcome.next ((hacts .readRoster actReadRoster [half] rfl hbuffer).trans ?_)
    rw [hact]
    rfl
  · have hrecords : (s.elapse after).inputsPayload = s.inputs.flatMap fun x =>
        [BitVec.ofNat 8 (16 * x.qualified.code + x.candidate.code),
         BitVec.ofNat 8 ((if x.lineFault then 4 else 0) + x.request.code)] := by
      rw [State.inputsPayload, State.elapse, List.flatMap_map]
      exact congrArg (fun f => List.flatMap f s.inputs) (funext fun x => Input.record_eq (x.elapse after))
    refine congrArg Host.Outcome.next ((hacts .readInputs actReadInputs [] rfl hbuffer).trans ?_)
    exact congrArg (fun p => closed s.port.attn 0x04#8 p) hrecords
  · exact congrArg Host.Outcome.next (hacts .readCounters actReadCounters [] rfl hbuffer)

end

section
/-! PROOFS. The panel commands that act (section 12.6): O52, O53 and O54. -/

namespace Sys2Proof.Machine

variable {s : State} {dt : Nat}

/-! ### POST (sections 8.6 and 12.6) -/

theorem virtualInput_iff (i : Nat) : virtualInput i = true ↔ 8 ≤ i ∧ i ≤ 11 := by
  simp [virtualInput]

theorem postInRange_iff (i cue priority latched : Byte) : postInRange [i, cue, priority, latched] = true ↔
    8 ≤ i.toNat ∧ i.toNat ≤ 11 ∧ 1 ≤ cue.toNat ∧ cue.toNat ≤ 63 ∧ 1 ≤ priority.toNat
      ∧ priority.toNat ≤ 7 ∧ latched.toNat ≤ 1 := by
  have hbytes : postInRange [i, cue, priority, latched] = (virtualInput i.toNat
      && decide (1 ≤ cue.toNat) && decide (cue.toNat ≤ 63) && decide (1 ≤ priority.toNat) && decide (priority.toNat ≤ 7)
      && decide (latched.toNat ≤ 1)) := rfl
  rw [hbytes]
  simp only [Bool.and_eq_true, virtualInput_iff, and_assoc]
  exact and_congr_right fun _ => and_congr_right fun _ => and_congr decide_eq_true_iff (and_congr decide_eq_true_iff
    (and_congr decide_eq_true_iff (and_congr decide_eq_true_iff decide_eq_true_iff)))

/-- The request state that POST and WITHDRAW return, of an input that has one (R215). -/
theorem requestPayload_modify {i : Nat} {f : Input → Input} {inputs : List Input} (h : s.inputs = inputs.modify i f)
    (hi : i < inputs.length) : s.requestPayload i = [BitVec.ofNat 8 (f (inputs.getD i Input.atStart)).request.code] := by
  rw [State.requestPayload, State.input, h, List.getD_eq_getElem?_getD, List.getD_eq_getElem?_getD, List.getElem?_modify]
  rw [List.getElem?_eq_getElem hi]
  simp

/-- The station with a virtual input's request RAISED by a POST (R162). -/
def State.posted (i : Nat) (r : Request) (s : State) : State :=
  modifyInput i (fun x => { x with request := .raised, posted := some r }) s

/-- A POST at an IDLE input raises its request with the fields posted (R162). -/
theorem actPost_raises {i cue priority latched : Byte} (hlegal : postInRange [i, cue, priority, latched] = true)
    (hidle : (s.input i.toNat).request = .idle) :
    let t := localRaise i.toNat ⟨cue.toNat, priority.toNat, latched == 1#8⟩
      (s.posted i.toNat ⟨cue.toNat, priority.toNat, latched == 1#8⟩)
    actPost [i, cue, priority, latched] s = ⟨t, .ok, t.requestPayload i.toNat⟩ := by
  intro t
  have hpost : postRequest i.toNat (postFields [i, cue, priority, latched]) s = (t, true) := by
    simp only [postRequest, hidle]
    rfl
  rw [actPost, if_pos hlegal]
  dsimp only
  rw [show (byteAt [i, cue, priority, latched] 0).toNat = i.toNat from rfl, hpost, if_pos rfl]

theorem posted_requestPayload {i : Nat} {r : Request} (hi : i < s.inputs.length) :
    (localRaise i r (s.posted i r)).requestPayload i = [0x01#8] :=
  requestPayload_modify (f := fun x => { x with request := .raised, posted := some r })
    (by simp [State.posted, modifyInput]) hi

/-- A POST at an input that is not IDLE is taken where it repeats the fields posted, and changes nothing (R162). -/
theorem actPost_repeats {i cue priority latched : Byte} (hlegal : postInRange [i, cue, priority, latched] = true)
    (hbusy : (s.input i.toNat).request ≠ .idle) :
    actPost [i, cue, priority, latched] s =
      if (s.input i.toNat).posted = some ⟨cue.toNat, priority.toNat, latched == 1#8⟩ then
        ⟨s, .ok, [if (s.input i.toNat).request = .raised then 0x01#8 else 0x02#8]⟩
      else ⟨s, .inputBusy, []⟩ := by
  have hpost : postRequest i.toNat (postFields [i, cue, priority, latched]) s =
      (s, (s.input i.toNat).posted == some ⟨cue.toNat, priority.toNat, latched == 1#8⟩) := by
    unfold postRequest
    cases hr : (s.input i.toNat).request with
    | idle => exact absurd hr hbusy
    | raised | held => rfl
  have hcode : s.requestPayload i.toNat = [if (s.input i.toNat).request = .raised then 0x01#8 else 0x02#8] := by
    unfold State.requestPayload
    cases hr : (s.input i.toNat).request with
    | idle => exact absurd hr hbusy
    | raised | held => rfl
  rw [actPost, if_pos hlegal]
  dsimp only
  rw [show (byteAt [i, cue, priority, latched] 0).toNat = i.toNat from rfl, hpost, if_congr beq_iff_eq rfl rfl, hcode]
  rfl

theorem actPost_illegal {payload : List Byte} (h : ¬ postInRange payload = true) :
    actPost payload s = ⟨s, .badArgument, []⟩ := if_neg h

/-! ### WITHDRAW (sections 8.6 and 12.6) -/

theorem actWithdraw_illegal {i : Byte} (h : ¬ (8 ≤ i.toNat ∧ i.toNat ≤ 11)) : actWithdraw [i] s = ⟨s, .badArgument, []⟩ :=
  if_neg fun hv => h ((virtualInput_iff i.toNat).1 hv)

theorem actWithdraw_eq {i : Byte} (h : 8 ≤ i.toNat ∧ i.toNat ≤ 11) : actWithdraw [i] s =
    ⟨withdrawRequest i.toNat s, .ok, (withdrawRequest i.toNat s).requestPayload i.toNat⟩ :=
  if_pos ((virtualInput_iff i.toNat).2 h)

theorem withdrawRequest_of_not_raised {i : Nat} (h : (s.input i).request ≠ .raised) : withdrawRequest i s = s := by
  unfold withdrawRequest
  cases hr : (s.input i).request with
  | raised => exact absurd hr h
  | idle | held => rfl

theorem withdrawRequest_of_latched {i : Nat} (h : (s.input i).request = .raised) (hl : (s.input i).postedLatched = true) :
    withdrawRequest i s = modifyInput i (fun x => { x with request := .held }) s := by
  simp only [withdrawRequest, h, hl, if_true]

theorem withdrawRequest_of_unlatched {i : Nat} (h : (s.input i).request = .raised) (hl : (s.input i).postedLatched = false) :
    withdrawRequest i s = localWithdraw i (modifyInput i (fun x => { x with request := .idle, posted := none }) s) := by
  simp only [withdrawRequest, h, hl, Bool.false_eq_true, if_false]

/-! ### The commands without a payload (section 12.6) -/

theorem applyRestore_nextJoin (s : State) : (applyRestore s).queue.nextJoin = s.queue.nextJoin := by
  simp only [applyRestore_eq, takeClaim_frame, State.beforeRestoreClaim, clearFault_frame, moveRoster_frame]
  rfl

/-- A restore originated at this station: the messages of HELD requests leave first, and then a RESTORE joins (R51, R82). -/
theorem originateRestore_queue (s : State) :
    let kept := s.queue.messages.filter fun m =>
      match m.news with
      | .raise i _ => (s.input i).request != .held
      | .clear _ _ | .silence | .restore => true
    (s.queue.messages.length < 6 → ∃ m ∈ (originateRestore s).queue.messages, m.news = .restore)
      ∧ (s.queue.inOrder →
        (originateRestore s).queue.messages = (TxQueue.joinedBy .restore ⟨kept, s.queue.nextJoin⟩).1) := by
  intro kept
  have hmessages : (applyRestore s).queue.messages = kept := applyRestore_queue s
  have hqueue : (applyRestore s).queue = ⟨kept, s.queue.nextJoin⟩ :=
    congrArg₂ TxQueue.mk hmessages (applyRestore_nextJoin s)
  constructor
  · intro hroom
    refine enqueue_restore_waits (s := applyRestore s) ?_
    rw [hmessages]
    exact lt_of_le_of_lt (List.length_filter_le _ _) hroom
  · intro horder
    have hkept : (applyRestore s).queue.inOrder := by
      rw [hqueue]
      exact horder.sublist List.filter_sublist
    rw [originateRestore, enqueue_messages hkept, hqueue]

/-- TEST answers OK just where the table is empty (R130, R217). -/
theorem actTest_eq (payload : List Byte) (s : State) : actTest payload s =
    ⟨s.setPlayer { s.player with testDue := s.player.testDue || (s.table.isEmpty && s.player.mode != .test) },
      if s.table = [] then .ok else .refused, []⟩ := by
  have htest : actTest payload s = if (s.player.requestTest s.table.isEmpty).2 then
      ⟨s.setPlayer (s.player.requestTest s.table.isEmpty).1, .ok, []⟩ else turnAway .refused s := rfl
  rw [htest]
  cases hempty : s.table with
  | cons e rest =>
    have hsame : s.setPlayer { s.player with testDue := s.player.testDue || false } = s := by
      rw [Bool.or_false]
      rfl
    rw [if_neg (List.cons_ne_nil e rest)]
    exact (congrArg (fun t => (⟨t, .refused, []⟩ : Taken)) hsame).symm
  | nil =>
    rw [List.isEmpty_nil, Player.requestTest_empty]
    rfl

/-- What a restore originated after a wait leaves of the station (R49 to R51, R84, R102, R106, R161). -/
theorem originateRestore_effect (after : Nat) (s : State) :
    let t := originateRestore (s.elapse after)
    t.table = s.table.filterMap (fun e =>
        if e.origin = s.startup.ownAddr then (if (s.input e.input).request = .held then none else some e)
        else if e.state = .orphaned then none else some { e with state := .provisional, miss := 0 })
      ∧ t.inputs = (s.elapse after).inputs.map (fun x =>
        if x.request = .held then { x with request := .idle, posted := none } else x)
      ∧ t.roster = s.roster.map (fun e => if e.state = .missing then { e with state := .unknown, miss := 0 } else e)
      ∧ hasFault t.faults .addressConflict = false ∧ hasFault t.faults .tableOverflow = false
      ∧ (s.queue.messages.length < 6 → ∃ m ∈ t.queue.messages, m.news = .restore)
      ∧ (s.queue.inOrder →
        let kept := s.queue.messages.filter fun m =>
          match m.news with
          | .raise i _ => (s.input i).request != .held
          | .clear _ _ | .silence | .restore => true
        t.queue.messages = (TxQueue.joinedBy .restore ⟨kept, s.queue.nextJoin⟩).1)
      ∧ t.keys = (s.elapse after).keys ∧ t.beat = (s.elapse after).beat := by
  obtain ⟨htable, -⟩ := applyRestore_of_agree (s := s) (v := s.elapse after) rfl rfl rfl (request_elapse after s)
  obtain ⟨hconflict, hoverflow⟩ := applyRestore_hasFault (s.elapse after)
  have hinputs := applyRestore_inputs (s.elapse after)
  have hroster := applyRestore_roster (s.elapse after)
  obtain ⟨hwaits, hjoins⟩ := originateRestore_queue (s.elapse after)
  obtain ⟨-, -, hbeat, -, -, -, -, -, -, -, hkeys, -⟩ := applyRestore_frame (s.elapse after)
  obtain ⟨-, -, tbeat, -, -, ttable, troster, tfaults, -, -, -, -, -, -, tinputs, tkeys, -⟩ :=
    enqueue_frame .restore (applyRestore (s.elapse after))
  simp only [request_elapse] at hjoins
  exact ⟨ttable.trans htable, tinputs.trans hinputs, troster.trans hroster,
    (congrArg (hasFault · .addressConflict) tfaults).trans hconflict,
    (congrArg (hasFault · .tableOverflow) tfaults).trans hoverflow, hwaits, hjoins, tkeys.trans hkeys, tbeat.trans hbeat⟩

end Sys2Proof.Machine

open Sys2Proof Sys2Proof.Machine

/-- Settles O52: the arguments' ranges, and then the input's request state. -/
theorem postRaisesAVirtualInput : Obligations.PostRaisesAVirtualInput := by
  unfold Obligations.PostRaisesAVirtualInput
  intro after filler i cue priority latched s hr hopen hkept hbuffer legal r own
  have hclose := closeCommand_acts (s := s.elapse after) (c := .post) (act := actPost)
    (payload := [i, cue, priority, latched]) (filler := filler) hr hopen hkept rfl hbuffer
  have hrequest : ((s.elapse after).input i.toNat).request = (s.input i.toNat).request := request_elapse after s i.toNat
  refine ⟨_, congrArg Host.Outcome.next hclose, ?_⟩
  by_cases hlegal : postInRange [i, cue, priority, latched] = true
  · have hranges : legal := (postInRange_iff i cue priority latched).1 hlegal
    by_cases hidle : (s.input i.toNat).request = .idle
    · have hraise : actPost [i, cue, priority, latched] (s.elapse after)
          = ⟨localRaise i.toNat r ((s.elapse after).posted i.toNat r), .ok,
            (localRaise i.toNat r ((s.elapse after).posted i.toNat r)).requestPayload i.toNat⟩ :=
        actPost_raises (s := s.elapse after) hlegal (hrequest.trans hidle)
      obtain ⟨ttable, thands, tfaults, tovf⟩ := localRaise_effect i.toNat r ((s.elapse after).posted i.toNat r)
      obtain ⟨twaits, tjoins, tdiscard⟩ := localRaise_joins i.toNat r ((s.elapse after).posted i.toNat r)
      obtain ⟨-, -, tbeat, -, -, troster, -, -, -, -, tinputs, tkeys, -, tstartup⟩ :=
        localRaise_frame i.toNat r ((s.elapse after).posted i.toNat r)
      have tpayload := posted_requestPayload (s := s.elapse after) (i := i.toNat) (r := r)
      rw [hraise]
      generalize localRaise i.toNat r ((s.elapse after).posted i.toNat r) = t at *
      have hlen : (s.elapse after).inputs.length = s.inputs.length := List.length_map _
      refine ⟨troster, tbeat, tkeys, tstartup, rfl, fun h => absurd hranges h, fun _ h => absurd hidle h,
        fun _ _ htwelve => ⟨tinputs, ?_, ?_, fun hroom => ?_, fun htable hnew hfull hc l hl => ?_, fun hroom => ?_,
          fun hq hc => ⟨tjoins hq, tdiscard hq (hc.get_le .txqDiscard)⟩⟩⟩
      · have hi : i.toNat < (s.elapse after).inputs.length := by
          rw [hlen, htwelve]
          exact Nat.lt_succ_of_le hranges.2.1
        exact congrArg (responseFrame .ok 0x10#8) (tpayload hi)
      · exact handsOn_congr (s := (s.elapse after).posted i.toNat r) (t := t) rfl rfl rfl rfl rfl rfl rfl rfl id thands
      · exact ttable ▸ raisedTable_of_room (s := (s.elapse after).posted i.toNat r) (i := i.toNat) (r := r) hroom
      · obtain ⟨hperm, hlost⟩ := raisedTable_of_full (s := (s.elapse after).posted i.toNat r) (i := i.toNat) (r := r)
          htable hnew hfull hl
        rw [hlost] at tovf tfaults
        exact ⟨ttable ▸ hperm, tovf (hc.get_le .tableOvf), tfaults⟩
      · obtain ⟨m, hm, hnews, -⟩ := twaits hroom
        exact ⟨m, hm, hnews⟩
    · have hposted : ((s.elapse after).input i.toNat).posted = (s.input i.toNat).posted := by rw [input_elapse]; rfl
      rw [actPost_repeats hlegal (by rw [hrequest]; exact hidle), hposted, hrequest]
      by_cases hsame : (s.input i.toNat).posted = some ⟨cue.toNat, priority.toNat, latched == 1#8⟩
      · rw [if_pos hsame]
        exact ⟨rfl, rfl, rfl, rfl, rfl, fun h => absurd hranges h, fun _ _ => ⟨rfl, rfl, rfl, (if_pos hsame).symm⟩,
          fun _ h => absurd h hidle⟩
      · rw [if_neg hsame]
        exact ⟨rfl, rfl, rfl, rfl, rfl, fun h => absurd hranges h, fun _ _ => ⟨rfl, rfl, rfl, (if_neg hsame).symm⟩,
          fun _ h => absurd h hidle⟩
  · have hillegal : ¬ legal := fun h => hlegal ((postInRange_iff i cue priority latched).2 h)
    rw [actPost_illegal hlegal]
    exact ⟨rfl, rfl, rfl, rfl, rfl, fun _ => ⟨rfl, rfl, rfl, rfl⟩, fun h => absurd h hillegal, fun h => absurd h hillegal⟩

/-- Settles O53: the input's request state, and whether it was posted latched. -/
theorem withdrawTakesBackARequest : Obligations.WithdrawTakesBackARequest := by
  unfold Obligations.WithdrawTakesBackARequest
  intro after filler i s hr hopen hkept hbuffer htwelve virtual x latched
  have hclose := closeCommand_acts (s := s.elapse after) (c := .withdraw) (act := actWithdraw)
    (payload := [i]) (filler := filler) hr hopen hkept rfl hbuffer
  have hrequest : ((s.elapse after).input i.toNat).request = x.request := request_elapse after s i.toNat
  refine ⟨_, congrArg Host.Outcome.next hclose, ?_⟩
  by_cases hvirtual : virtual
  · have hi : i.toNat < (s.elapse after).inputs.length :=
      (Nat.lt_succ_of_le hvirtual.2).trans_eq (htwelve.symm.trans (List.length_map _).symm)
    rw [actWithdraw_eq hvirtual]
    by_cases hraised : x.request = .raised
    · have hlatched : ((s.elapse after).input i.toNat).postedLatched = latched := by
        rw [input_elapse]
        rfl
      cases hl : latched with
      | true =>
        have hheld := withdrawRequest_of_latched (hrequest.trans hraised) (hlatched.trans hl)
        have hpayload := requestPayload_modify (s := withdrawRequest i.toNat (s.elapse after)) (i := i.toNat)
          (f := fun x => { x with request := .held }) (by rw [hheld]; rfl) hi
        rw [hpayload, hheld]
        exact ⟨rfl, rfl, rfl, rfl, rfl, fun h => absurd hvirtual h, fun _ h => absurd hraised h,
          fun _ _ _ => ⟨rfl, rfl, rfl, rfl⟩, fun _ _ h => Bool.noConfusion h⟩
      | false =>
        have hidle := withdrawRequest_of_unlatched (hrequest.trans hraised) (hlatched.trans hl)
        have hpayload := requestPayload_modify (s := withdrawRequest i.toNat (s.elapse after)) (i := i.toNat)
          (f := fun x => { x with request := .idle, posted := none }) (by rw [hidle]; simp [modifyInput]) hi
        rw [hpayload, hidle]
        generalize hu : modifyInput i.toNat (fun x => { x with request := .idle, posted := none }) (s.elapse after) = u
        obtain ⟨-, -, tbeat, -, -, troster, -, -, -, -, -, tinputs, tkeys, -, tstartup⟩ := localWithdraw_frame i.toNat u
        have ttable := localWithdraw_table i.toNat u
        have tclaim := fun e => localWithdraw_effect (s := u) (i := i.toNat) (e := e)
        generalize localWithdraw i.toNat u = t at *
        subst hu
        refine ⟨troster, tbeat, tkeys, tstartup, rfl, fun h => absurd hvirtual h, fun _ h => absurd hraised h,
          fun _ _ h => Bool.noConfusion h, fun _ _ _ => ⟨ttable, tinputs, rfl, fun e he => ?_⟩⟩
        obtain ⟨thands, -, -, tjoins, tdiscard⟩ := tclaim e he
        exact ⟨handsOn_congr (t := t) rfl rfl rfl rfl rfl rfl rfl rfl id thands,
          fun hq hc => ⟨tjoins hq, tdiscard hq (hc.get_le .txqDiscard)⟩⟩
    · have hkeep := withdrawRequest_of_not_raised (s := s.elapse after) (by rw [hrequest]; exact hraised)
      have hpayload : (s.elapse after).requestPayload i.toNat = [if x.request = .idle then 0x00#8 else 0x02#8] := by
        rw [State.requestPayload, hrequest]
        cases hx : x.request with
        | raised => exact absurd hx hraised
        | idle | held => rfl
      rw [hkeep, hpayload]
      exact ⟨rfl, rfl, rfl, rfl, rfl, fun h => absurd hvirtual h, fun _ _ => ⟨rfl, rfl, rfl, rfl⟩,
        fun _ h => absurd h hraised, fun _ h => absurd h hraised⟩
  · rw [actWithdraw_illegal hvirtual]
    exact ⟨rfl, rfl, rfl, rfl, rfl, fun _ => ⟨rfl, rfl, rfl, rfl⟩, fun h => absurd h hvirtual, fun h => absurd h hvirtual,
      fun h => absurd h hvirtual⟩

/-- Settles O54: the close of each command, with what it originates. -/
theorem panelSilenceRestoreTestClear : Obligations.PanelSilenceRestoreTestClear := by
  unfold Obligations.PanelSilenceRestoreTestClear
  intro after filler s hr hopen hkept
  have hacts := fun (c : PanelCommand) (act : List Byte → State → Taken) =>
    closeCommand_acts (s := s.elapse after) (c := c) (act := act) (payload := []) (filler := filler) hr hopen hkept
  refine ⟨fun hbuffer => ?_, fun hbuffer => ?_, fun hbuffer => ?_, fun hbuffer => ?_⟩
  · obtain ⟨htable, hplayer, -, hwaits, hjoins⟩ := originateSilence_effect (s.elapse after)
    obtain ⟨-, -, -, -, -, hroster, hfaults, -, -, -, -, hinputs, hkeys, -⟩ := originateSilence_frame (s.elapse after)
    have hclose : closeCommand .silence actSilence (s.elapse after)
        = closeWith (responseFrame .ok 0x12#8 []) (originateSilence (s.elapse after)) := hacts .silence actSilence rfl hbuffer
    have hsound := congrArg Player.sound hplayer
    refine ⟨_, congrArg Host.Outcome.next hclose, ?_⟩
    generalize originateSilence (s.elapse after) = u at *
    exact ⟨htable, hsound, rfl, hwaits, hjoins, hinputs, hroster, hfaults, hkeys⟩
  · have hclose : closeCommand .restore actRestore (s.elapse after)
        = closeWith (responseFrame .ok 0x13#8 []) (originateRestore (s.elapse after)) := hacts .restore actRestore rfl hbuffer
    obtain ⟨htable, hinputs, hroster, hconflict, hoverflow, hwaits, hjoins, hkeys, hbeat⟩ := originateRestore_effect after s
    refine ⟨_, congrArg Host.Outcome.next hclose, ?_⟩
    generalize originateRestore (s.elapse after) = u at *
    exact ⟨htable, hinputs, hroster, hconflict, hoverflow, rfl, hwaits, hjoins, hkeys, hbeat⟩
  · exact congrArg Host.Outcome.next (hacts .clearCounters actClearCounters rfl hbuffer)
  · refine ⟨_, congrArg Host.Outcome.next (hacts .test actTest rfl hbuffer), ?_⟩
    rw [actTest_eq]
    exact ⟨rfl, rfl, rfl, rfl, rfl, rfl⟩

end

section
/-! PROOFS. The modes of a station that runs on the loop, through the operations of the slots, of the beat unit and of the
DATA line. -/

namespace Sys2Proof.Machine

variable {s : State}

/-- What the conditions on the modes ask of a station that runs on the loop. -/
structure State.RunsOk (s : State) : Prop where
  running : s.running = true
  lock : s.beat.lock ≠ .halted
  locked : s.startup.station = .member → s.beat.lock = .locked
  supply : s.supply.condition ≠ .cutoff
  tx : s.TxOk
  mark : s.MarkOk

/-- Nothing but these fields is read by the conditions on the modes of a running station. -/
theorem State.RunsOk.of_eq {t : State} (h : s.RunsOk)
    (e : t.startup.station = s.startup.station ∧ t.beat.lock = s.beat.lock ∧ t.beat.mark = s.beat.mark
      ∧ t.supply.condition = s.supply.condition ∧ t.loop.tx = s.loop.tx ∧ t.pins.beatLow = s.pins.beatLow
      ∧ t.pins.beatHeld = s.pins.beatHeld ∧ t.pins.dataHeld = s.pins.dataHeld) : t.RunsOk := by
  obtain ⟨hrunning, hlock, hlocked, hsupply, htx, hmark⟩ := h
  obtain ⟨es, el, em, ec, et, eb, eh, ed⟩ := e
  constructor
  · simpa only [State.running, es] using hrunning
  · rwa [el]
  · rwa [es, el]
  · rwa [ec]
  · simpa only [State.TxOk, es, et] using htx
  · simpa only [State.MarkOk, el, em, eb, eh, ed] using hmark

theorem State.RunsOk.joining_of_not_locked (h : s.RunsOk) (hl : s.beat.lock ≠ .locked) : s.startup.station = .joining := by
  have hr := h.running
  simp only [State.running, Bool.or_eq_true, beq_iff_eq] at hr
  exact hr.resolve_right fun hm => hl (h.locked hm)

/-! ### The record of the frame being sent -/

/-- What a completed record has left to send, if it is one: its last stop bit at most (R92). -/
def TxRecord.completeOk (r : TxRecord) : Prop :=
  r.outcome = .complete → (r.bit = 9 ∧ r.byte + 1 = r.bytes.length) ∨ r.bytes.length ≤ r.byte

theorem State.TxOk.of_none (h : s.loop.tx = none) : s.TxOk := by
  intro r hr
  rw [h] at hr
  cases hr

theorem State.TxOk.of_some {r : TxRecord} (h : s.loop.tx = some r) (hsends : r.outcome = .sending → s.startup.station = .member)
    (hdone : r.completeOk) : s.TxOk := by
  intro q hq
  rw [h] at hq
  cases hq
  exact ⟨hsends, hdone⟩

/-- A station that stops sending may be in any state (R76, R192). -/
theorem abandonTx_txOk (h : ∀ r, s.loop.tx = some r → r.completeOk) : (abandonTx s).TxOk := by
  unfold abandonTx
  split
  · next hnone => exact .of_none hnone
  · next r hr =>
    split
    · exact .of_some rfl (fun hsends => by cases hsends) fun hdone => by cases hdone
    · next hother => exact .of_some hr (fun hsends => absurd hsends hother) (h r hr)

theorem State.TxOk.completeOk (h : s.TxOk) {r : TxRecord} (hr : s.loop.tx = some r) : r.completeOk := (h r hr).2

/-- A change of the transceiver alone. -/
theorem setLoop_runs {x : Transceiver} (h : s.RunsOk) (htx : (s.setLoop x).TxOk) : (s.setLoop x).RunsOk :=
  ⟨h.running, h.lock, h.locked, h.supply, htx, h.mark⟩

theorem modifyTx_runs {f : TxRecord → TxRecord} (h : s.RunsOk) (houtcome : ∀ r, (f r).outcome = r.outcome)
    (hdone : ∀ r, s.loop.tx = some r → r.completeOk → (f r).completeOk) : (modifyTx f s).RunsOk := by
  refine setLoop_runs h ?_
  cases hr : s.loop.tx with
  | none => exact .of_none rfl
  | some r => exact .of_some rfl (fun hsends => (h.tx r hr).1 (houtcome r ▸ hsends)) (hdone r hr (h.tx.completeOk hr))

theorem abandonTx_runs (h : s.RunsOk) : (abandonTx s).RunsOk := by
  obtain ⟨-, epins, ebeat, -, -, -, -, -, -, -, -, -, -, -, -, -, esupply, estartup, -⟩ := abandonTx_frame s
  exact ⟨by simpa only [State.running, estartup] using h.running, by rw [ebeat]; exact h.lock,
    by rw [ebeat, estartup]; exact h.locked, by rw [esupply]; exact h.supply,
    abandonTx_txOk fun _ => h.tx.completeOk, by simpa only [State.MarkOk, ebeat, epins] using h.mark⟩

theorem startTx_runs (slot : Slot) (f : Frame) (since : Nat) (sampled : Bool) (h : s.RunsOk)
    (hm : s.startup.station = .member) : (startTx slot f since sampled s).RunsOk :=
  setLoop_runs h (.of_some rfl (fun _ => hm) fun hdone => by cases hdone)

theorem State.station_of_isMember (h : s.isMember = true) : s.startup.station = .member := by
  simpa [State.isMember] using h

theorem State.member_of_mayBegin (h : s.mayBegin = true) : s.startup.station = .member := by
  simp only [State.mayBegin, Bool.and_eq_true] at h
  exact State.station_of_isMember h.1.1

theorem offerHead_runs (since : Nat) (sampled : Bool) (h : s.RunsOk) (hm : s.startup.station = .member) :
    (offerHead since sampled s).RunsOk := by
  unfold offerHead
  split
  · exact h
  · exact startTx_runs _ _ _ _ (h.of_eq (by simp)) hm

/-! ### The slots -/

theorem endReception_runs (h : s.RunsOk) : (endReception s).RunsOk := by
  refine h.of_eq ?_
  unfold endReception
  split <;> simp

theorem clearSlot_runs (part : Part) (h : s.RunsOk) : (clearSlot part s).RunsOk :=
  setLoop_runs (abandonTx_runs h) (.of_none rfl)

theorem restartSlotTimer_runs (h : s.RunsOk) : (restartSlotTimer s).RunsOk :=
  h.of_eq (by simp [restartSlotTimer])

theorem slotBegin_runs (h : s.RunsOk) : (slotBegin s).RunsOk := by
  unfold slotBegin
  split
  · exact h
  · split
    · next sl _ _ =>
      have ht : (s.setLoop { s.loop with part := sl.part, owner := sl.ownerAt s.beat.beatIndex }).RunsOk := h.of_eq (by simp)
      unfold sendStatus
      split
      · next hnow => exact startTx_runs _ _ _ _ ht (State.member_of_mayBegin hnow.2.1)
      · exact ht
    · exact h

theorem openSlotAttempt_runs (h : s.RunsOk) : (openSlotAttempt s).RunsOk := by
  unfold openSlotAttempt
  split
  · next hnow =>
    have ht : (s.setLoop { s.loop with attempt := .past }).RunsOk := h.of_eq (by simp)
    dsimp only
    (repeat' split)
    · exact h.of_eq (by simp)
    · exact offerHead_runs _ _ ht (State.station_of_isMember hnow.1)
    · exact ht
  · exact h

theorem slotEnd_runs (h : s.RunsOk) : (slotEnd s).RunsOk := by
  unfold slotEnd
  split
  · exact h
  · next sl _ =>
    split
    · extract_lets t u
      have ht : t.RunsOk := by
        unfold t
        split
        · exact endReception_runs h
        · exact h
      have hu : u.RunsOk := by
        unfold u
        (repeat' split)
        · exact ht.of_eq (by simp)
        · exact ht
        · exact ht
      exact clearSlot_runs _ hu
    · exact h

/-! ### The beat unit -/

/-- A change of the beat unit that leaves the lock state and the mark. -/
theorem modifyBeat_runs {f : BeatUnit → BeatUnit} (h : s.RunsOk) (hlock : (f s.beat).lock = s.beat.lock)
    (hmark : (f s.beat).mark = s.beat.mark) : (modifyBeat f s).RunsOk :=
  h.of_eq ⟨rfl, hlock, hmark, rfl, rfl, rfl, rfl, rfl⟩

theorem indexZeroReport_runs (h : s.RunsOk) (hl : s.beat.lock = .locked) : (indexZeroReport s).RunsOk := by
  unfold indexZeroReport
  split
  · next hj =>
    dsimp only
    split
    · refine ⟨by simp [State.running, setStation_startup], by simpa using h.lock, fun _ => by simpa using hl,
        by simpa using h.supply, ?_, by simpa [State.MarkOk] using h.mark⟩
      intro r hr
      exact ⟨fun _ => rfl, (h.tx r hr).2⟩
    · exact h.of_eq (by simp)
  · exact h

theorem becomeZero_runs (h : s.RunsOk) : (becomeZero s).RunsOk := by
  have ht := modifyBeat_runs h (f := fun b => { b with barCount := b.barCount + 1#8, strayTally := 0 }) rfl rfl
  unfold becomeZero
  dsimp only
  split
  · next hl => exact indexZeroReport_runs ht hl
  · exact ht

theorem startBeat_runs (kind : BeatKind) (h : s.RunsOk) : (startBeat kind s).RunsOk := by
  have ht := modifyBeat_runs h (f := fun b =>
    { b with
      timer := 0, lastKind := kind, eighth := 0, beatIndex := b.beatIndex + 1#4
      measuring := kind == .followed || kind == .own }) rfl rfl
  unfold startBeat
  dsimp only
  split
  · exact becomeZero_runs ht
  · exact ht

/-- The mark that a beat begins is seen 2 µs later, and has its whole time to run (R3, R197). -/
theorem holdMark_runs (h : s.RunsOk) (hl : s.beat.lock = .settling ∨ s.beat.lock = .locked) : (holdMark s).RunsOk := by
  obtain ⟨-, hheld⟩ := h.mark
  refine ⟨h.running, h.lock, h.locked, h.supply, h.tx, fun m hm => ?_, hheld⟩
  rw [holdMark_beat] at hm
  cases hm
  refine ⟨.inr ?_, ?_, hl⟩
  all_goals
    unfold markAt
    split <;> decide

theorem handBeat_runs (h : s.RunsOk) : (handBeat s).RunsOk := by
  obtain ⟨-, epins, ebeat, -, -, -, esupply, estartup⟩ := handBeat_frame s
  exact ⟨by simpa only [State.running, estartup] using h.running, by rw [ebeat]; exact h.lock,
    by rw [ebeat, estartup]; exact h.locked, by rw [esupply]; exact h.supply,
    .of_none (by rw [handBeat_loop]), by simpa only [State.MarkOk, ebeat, epins] using h.mark⟩

theorem enterLocked_runs (h : s.RunsOk) : (enterLocked s).RunsOk := by
  obtain ⟨hmark, hheld⟩ := h.mark
  refine ⟨h.running, by rw [enterLocked_beat]; simp, fun _ => by rw [enterLocked_beat], h.supply, h.tx,
    fun m hm => ?_, hheld⟩
  rw [enterLocked_beat] at hm ⊢
  obtain ⟨hseen, htime, -⟩ := hmark m hm
  exact ⟨hseen, htime, .inr rfl⟩

/-- A station that is no MEMBER enters SETTLING or LOCKED (R11, R12). -/
theorem settleTo_runs (n : Nat) (h : s.RunsOk) (hl : s.beat.lock ≠ .locked) :
    (settleTo n s).RunsOk ∧ ((settleTo n s).beat.lock = .settling ∨ (settleTo n s).beat.lock = .locked) := by
  have hstation := h.joining_of_not_locked hl
  by_cases hn : 4 ≤ n
  · rw [settleTo_locks hn, enterLocked_beat]
    exact ⟨enterLocked_runs h, .inr rfl⟩
  · rw [settleTo_goes_on hn]
    obtain ⟨hmark, hheld⟩ := h.mark
    refine ⟨⟨h.running, nofun, fun hm => ?_, h.supply, h.tx, fun m hm => ?_, hheld⟩, .inl rfl⟩
    · exact absurd (hstation.symm.trans hm) nofun
    · obtain ⟨hseen, htime, -⟩ := hmark m hm
      exact ⟨hseen, htime, .inl rfl⟩

/-- The entry to FREE releases the mark; a MEMBER is JOINING and sends no more (R16, R192). -/
theorem enterFree_runs (h : s.RunsOk) : (enterFree s).RunsOk := by
  obtain ⟨-, epins, -, -, -, -, -, -, -, -, -, -, -, -, -, esupply⟩ := enterFree_frame s
  have hjoining : (enterFree s).startup.station = .joining := by
    rw [enterFree_startup]
    by_cases hm : s.startup.station = .member
    · exact if_pos hm
    · have hr := h.running
      simp only [State.running, Bool.or_eq_true, beq_iff_eq] at hr
      exact (if_neg hm).trans (hr.resolve_right hm)
  refine ⟨by simp [State.running, hjoining], by rw [enterFree_beat]; exact nofun,
    fun hm => absurd (hjoining.symm.trans hm) nofun, by rw [esupply]; exact h.supply, ?_, fun m hm => ?_,
    by rw [epins]; exact h.mark.2⟩
  · unfold enterFree freeReport
    dsimp only
    split
    · exact abandonTx_txOk fun _ => h.tx.completeOk
    · exact h.tx
  · rw [enterFree_beat] at hm
    cases hm

theorem settlingBeat_runs (kind : BeatKind) (n : Nat) (h : s.RunsOk) (hl : s.beat.lock ≠ .locked) :
    (settlingBeat kind n s).RunsOk := by
  obtain ⟨hsettled, hlock⟩ := settleTo_runs n (startBeat_runs kind h) (by rw [startBeat_beat]; exact hl)
  exact handBeat_runs (holdMark_runs hsettled hlock)

theorem lockedBeat_runs (kind : BeatKind) (h : s.RunsOk) (hl : s.beat.lock = .locked) : (lockedBeat kind s).RunsOk :=
  handBeat_runs (holdMark_runs (startBeat_runs kind h) (.inr (by rw [startBeat_beat]; exact hl)))

theorem sameBeat_runs (h : s.RunsOk) (hl : s.beat.lock ≠ .locked) : (sameBeat s).RunsOk := by
  have hstation := h.joining_of_not_locked hl
  obtain ⟨hmark, hheld⟩ := h.mark
  refine restartSlotTimer_runs (holdMark_runs ⟨h.running, nofun, fun hm => ?_, h.supply, h.tx, fun m hm => ?_, hheld⟩ (.inl rfl))
  · exact absurd (hstation.symm.trans hm) nofun
  · obtain ⟨hseen, htime, -⟩ := hmark m hm
    exact ⟨hseen, htime, .inl rfl⟩

theorem stray_runs (h : s.RunsOk) : (stray s).RunsOk := by
  have ht : (bump .stray (modifyBeat (fun b => { b with strayTally := b.strayTally + 1 }) s)).RunsOk := h.of_eq (by simp)
  unfold stray
  dsimp only
  split
  · exact enterFree_runs ht
  · exact ht

theorem takeFall_runs (h : s.RunsOk) : (takeFall s).RunsOk := by
  unfold takeFall
  dsimp only
  split
  · exact h
  · next hl =>
    have hl' : s.beat.lock ≠ .locked := by rw [hl]; exact nofun
    (repeat' split)
    · exact sameBeat_runs h hl'
    · exact h
    · exact settlingBeat_runs _ _ h hl'
  · next hl =>
    have hl' : s.beat.lock ≠ .locked := by rw [hl]; exact nofun
    (repeat' split)
    · exact h
    · exact settlingBeat_runs _ _ h hl'
    · exact settlingBeat_runs _ _ h hl'
  · next hl =>
    (repeat' split)
    · exact h
    · exact stray_runs h
    · exact lockedBeat_runs _ h hl

theorem beatFall_runs (h : s.RunsOk) : (beatFall s).RunsOk := by
  unfold beatFall
  split
  · refine takeFall_runs (modifyBeat_runs ⟨h.running, h.lock, h.locked, h.supply, h.tx, fun m hm => ?_, ?_⟩ rfl rfl)
    · obtain ⟨-, htime, hlock⟩ := h.mark.1 m hm
      exact ⟨.inl rfl, htime, hlock⟩
    · exact ⟨Nat.zero_le _, h.mark.2.2⟩
  · exact h

theorem internalBeat_runs (h : s.RunsOk) : (internalBeat s).RunsOk := by
  have ht := startBeat_runs .internal h
  by_cases halone : 16 ≤ s.freeCount
  · rw [internalBeat_of_sixteen halone]
    have hsure := modifyBeat_runs ht (f := fun b => { b with phaseConfirmed := true }) rfl rfl
    exact handBeat_runs (holdMark_runs (enterLocked_runs hsure) (.inr (by rw [enterLocked_beat])))
  · rw [internalBeat_of_few (Nat.lt_of_not_le halone)]
    exact handBeat_runs (modifyBeat_runs ht (f := fun b => { b with freeBeats := s.freeCount }) rfl rfl)

theorem beatTimerExpiry_runs (h : s.RunsOk) : (beatTimerExpiry s).RunsOk := by
  unfold beatTimerExpiry
  split
  · split
    · exact h
    · exact internalBeat_runs h
    · next hl => exact settlingBeat_runs _ _ h (by rw [hl]; exact nofun)
    · next hl => exact lockedBeat_runs _ h hl
  · exact h

theorem markRelease_runs (h : s.RunsOk) : (markRelease s).RunsOk := by
  unfold markRelease
  (repeat' split)
  · exact ⟨h.running, h.lock, h.locked, h.supply, h.tx, nofun, h.mark.2⟩
  · exact h
  · exact h

theorem barMark_runs (h : s.RunsOk) : (barMark s).RunsOk := by
  have ht := modifyBeat_runs h (f := fun b => { b with measuring := false, phaseConfirmed := true, beatIndex := 0#4 }) rfl rfl
  unfold barMark
  split
  · unfold recogniseBarMark
    dsimp only
    split
    · exact ht
    · exact becomeZero_runs ht
  · exact h

theorem barMark_mark (s : State) : (barMark s).beat.mark = s.beat.mark := by
  unfold barMark recogniseBarMark becomeZero
  dsimp only
  (repeat' split) <;> simp

theorem beatRise_runs (h : s.RunsOk) : (beatRise s).RunsOk := by
  unfold beatRise
  split
  · next hsees =>
    have hnone : (barMark s).beat.mark = none := by
      simp only [State.seesBeatRise, Bool.and_eq_true, Option.isNone_iff_eq_none] at hsees
      rw [barMark_mark, hsees.1.2]
    obtain ⟨hrunning, hlock, hlocked, hsupply, htx, -, -, hdata⟩ := barMark_runs h
    extract_lets t _ u
    have hu : u.RunsOk := ⟨hrunning, hlock, hlocked, hsupply, htx, fun m hm => absurd (hnone.symm.trans hm) nofun,
      Nat.zero_le _, hdata⟩
    split
    · exact hu.of_eq (by simp)
    · exact hu
  · exact h

theorem beatStuck_runs (h : s.RunsOk) : (beatStuck s).RunsOk := by
  have ht : (setFault .beatStuck (modifyBeat (fun b => { b with stuck := true }) s)).RunsOk := h.of_eq (by simp)
  unfold beatStuck
  split
  · dsimp only
    split
    · exact enterFree_runs ht
    · exact ht
  · exact h

theorem handMark_beat {part : State → State} (hpart : ∀ t, (part t).beat = t.beat) (s : State) :
    (handMark part s).beat = s.beat := by
  unfold handMark
  split <;> simp [hpart]

theorem eighthMark_runs (h : s.RunsOk) : (eighthMark s).RunsOk := by
  have hbeat : (eighthMark s).beat.lock = s.beat.lock ∧ (eighthMark s).beat.mark = s.beat.mark := by
    unfold eighthMark
    split
    · rw [handMark_beat fun t => by simp]
      exact ⟨rfl, rfl⟩
    · exact ⟨rfl, rfl⟩
  exact h.of_eq (by simp [hbeat])

theorem adopt_runs (sender : Nat) (bar : Byte) (beat : BitVec 4) (h : s.RunsOk) : (adopt sender bar beat s).RunsOk := by
  unfold adopt
  (repeat' split)
  · exact h
  · exact modifyBeat_runs h rfl rfl
  · exact modifyBeat_runs h rfl rfl
  · exact modifyBeat_runs h rfl rfl
  · exact h
  · exact modifyBeat_runs h rfl rfl

/-! ### The DATA line -/

theorem modifyLine_runs (f : Line → Line) (h : s.RunsOk) : (modifyLine f s).RunsOk := h.of_eq (by simp)

theorem conflictBy_runs (slot : Slot) (f : Frame) (h : s.RunsOk) : (conflictBy slot f s).RunsOk :=
  h.of_eq (by simp [conflictBy_tx])

theorem noteOwner_runs (f : Frame) (h : s.RunsOk) : (noteOwner f s).RunsOk :=
  h.of_eq (by simp [noteOwner_tx])

theorem endRestore_runs (slot : Slot) (f : Frame) (h : s.RunsOk) : (endRestore slot f s).RunsOk :=
  h.of_eq (by simp [endRestore_tx])

theorem endStatus_runs (slot : Slot) (f : Frame) (h : s.RunsOk) : (endStatus slot f s).RunsOk := by
  refine conflictBy_runs _ _ (noteOwner_runs _ ?_)
  split
  · exact adopt_runs _ _ _ h
  · exact (adopt_runs f.sender f.bar f.beat h).of_eq (by simp)

theorem handOn_runs (slot : Slot) (f : Frame) (h : s.RunsOk) : (handOn slot f s).RunsOk := by
  unfold handOn
  split
  · split
    · exact h.of_eq (by simp [endRaise, conflictBy_tx]; split <;> simp)
    · exact h.of_eq (by simp [endClear, conflictBy_tx]; split <;> simp)
    · exact h.of_eq (by simp [endSilence, conflictBy_tx]; split <;> simp)
    · exact endRestore_runs _ _ h
    · exact endStatus_runs _ _ h
  · exact conflictBy_runs _ _ (h.of_eq (by simp))

theorem judgeFrame_runs (r : Reception) (h : s.RunsOk) : (judgeFrame r s).RunsOk := by
  unfold judgeFrame
  (repeat' split)
  · exact h.of_eq (by simp)
  · exact handOn_runs _ _ h
  · exact h.of_eq (by simp)

end Sys2Proof.Machine
end

section
/-! PROOFS. The modes of a station that runs on the loop, through the samples of DATA, and the operations that touch no
mode. -/

namespace Sys2Proof.Machine

variable {s : State}

/-! ### Sending and read-back -/

theorem TxRecord.nextBit_outcome (r : TxRecord) : r.nextBit.outcome = r.outcome := by
  unfold TxRecord.nextBit
  split <;> rfl

/-- After the last stop bit of a completed frame nothing is left to send (R92, R201). -/
theorem TxRecord.nextBit_completeOk {r : TxRecord} (h : r.completeOk) : r.nextBit.completeOk := by
  intro hdone
  rw [TxRecord.nextBit_outcome] at hdone
  obtain ⟨h9, hlast⟩ | hover := h hdone
  · simp [TxRecord.nextBit, h9, hlast]
  · refine .inr ?_
    unfold TxRecord.nextBit
    split
    · exact hover
    · exact Nat.le_succ_of_le hover

theorem nextBit_runs (h : s.RunsOk) : (modifyTx TxRecord.nextBit s).RunsOk :=
  modifyTx_runs h TxRecord.nextBit_outcome fun _ _ => TxRecord.nextBit_completeOk

theorem bitTimeEnd_runs (h : s.RunsOk) : (bitTimeEnd s).RunsOk := by
  unfold bitTimeEnd
  (repeat' split)
  · exact h
  · exact nextBit_runs h
  · exact h

theorem resynchronise_runs (h : s.RunsOk) : (resynchronise s).RunsOk := by
  unfold resynchronise
  (repeat' split)
  · exact h
  · exact nextBit_runs h
  · exact h

theorem completeTx_runs {r : TxRecord} (h : s.RunsOk) (hr : s.loop.tx = some r) (h9 : r.bit = 9)
    (hlast : r.byte + 1 = r.bytes.length) : (completeTx r s).RunsOk := by
  have ht : (modifyTx (fun x => { x with sampled := true, outcome := .complete }) s).RunsOk :=
    setLoop_runs h (.of_some (congrArg (Option.map _) hr) (fun hsends => by cases hsends) fun _ => .inl ⟨h9, hlast⟩)
  unfold completeTx
  dsimp only
  (repeat' split) <;> exact ht.of_eq (by simp)

theorem readBack_runs (h : s.RunsOk) : (readBack s).RunsOk := by
  unfold readBack
  split
  · exact h
  · next r hr =>
    split
    · exact abandonTx_runs (h.of_eq (by simp))
    · split
      · next hnow =>
        simp only [State.completesNow, hr, Bool.and_eq_true, beq_iff_eq] at hnow
        obtain ⟨-, ⟨-, h9⟩, hlast⟩ := hnow
        exact completeTx_runs h hr h9 hlast
      · split
        · exact modifyTx_runs h (fun _ => rfl) fun _ _ hdone => hdone
        · exact h

/-! ### Edges and samples -/

/-- A change of the pins that leaves BEAT, with DATA's filter in range. -/
theorem setPins_runs {p : Pins} (h : s.RunsOk) (hlow : p.beatLow = s.pins.beatLow) (hbeat : p.beatHeld = s.pins.beatHeld)
    (hdata : p.dataHeld ≤ 2) : (s.setPins p).RunsOk := by
  refine ⟨h.running, h.lock, h.locked, h.supply, h.tx, ?_, ?_, hdata⟩
  · simpa only [State.setPins_pins, State.setPins_beat, hlow] using h.mark.1
  · simpa only [State.setPins_pins, hbeat] using h.mark.2.1

theorem dataFall_runs (h : s.RunsOk) : (dataFall s).RunsOk := by
  have hp : (s.setPins { s.pins with dataLow := true, dataHeld := 0 }).RunsOk := setPins_runs h rfl rfl (Nat.zero_le _)
  unfold dataFall
  dsimp only
  (repeat' split)
  · exact h
  · exact resynchronise_runs (modifyLine_runs _ (modifyLine_runs _ hp))
  · exact resynchronise_runs (modifyLine_runs _ hp)
  · exact modifyLine_runs _ hp

theorem dataRise_runs (h : s.RunsOk) : (dataRise s).RunsOk := by
  have hp : (s.setPins { s.pins with dataLow := false, dataHeld := 0 }).RunsOk := setPins_runs h rfl rfl (Nat.zero_le _)
  unfold dataRise
  dsimp only
  (repeat' split)
  · exact modifyLine_runs _ (modifyLine_runs _ hp)
  · exact modifyLine_runs _ hp
  · exact h

theorem State.member_of_aligns (h : s.aligns = true) : s.startup.station = .member := (aligns_iff.1 h).1

theorem beginFrame_runs (h : s.RunsOk) : (beginFrame s).RunsOk := by
  unfold beginFrame
  dsimp only
  split
  · next haligns => exact offerHead_runs _ _ (h.of_eq (by simp)) (State.member_of_aligns (s := s) haligns)
  · exact h.of_eq (by simp)

theorem sampleStart_runs (h : s.RunsOk) : (sampleStart s).RunsOk := by
  unfold sampleStart
  dsimp only
  (repeat' split)
  · exact modifyLine_runs _ h
  · exact modifyLine_runs _ h
  · exact beginFrame_runs (modifyLine_runs _ h)

theorem sampleStop_runs (h : s.RunsOk) : (sampleStop s).RunsOk := by
  unfold sampleStop
  split
  · exact modifyLine_runs _ h
  · dsimp only
    split
    · exact judgeFrame_runs _ (modifyLine_runs _ (h.of_eq (by simp)))
    · exact modifyLine_runs _ (h.of_eq (by simp))

theorem receiverSample_runs (h : s.RunsOk) : (receiverSample s).RunsOk := by
  unfold receiverSample
  split
  · split
    · exact sampleStart_runs h
    · unfold sampleData
      exact modifyLine_runs _ h
    · exact sampleStop_runs h
    all_goals exact h
  · exact h

theorem bitSample_runs (h : s.RunsOk) : (bitSample s).RunsOk := receiverSample_runs (readBack_runs h)

theorem gapTimeout_runs (h : s.RunsOk) : (gapTimeout s).RunsOk := by
  unfold gapTimeout
  split
  · dsimp only
    split
    · exact modifyLine_runs _ h
    · exact h.of_eq (by simp)
  · exact h

/-! ### The supply monitor, the keys, the outputs and the panel port -/

theorem supplyOwnTimer_condition (s : State) : (supplyOwnTimer s).supply.condition = s.supply.condition := by
  unfold supplyOwnTimer
  (repeat' split) <;> simp

theorem setCondition_runs {c : Condition} (h : s.RunsOk) (hc : c ≠ .cutoff) : (setCondition c s).RunsOk :=
  ⟨h.running, h.lock, h.locked, hc, h.tx, h.mark⟩

theorem chirpEnd_frame (s : State) : ∃ d, chirpEnd s = s.setDrive d := by
  unfold chirpEnd
  (repeat' split)
  · exact ⟨_, rfl⟩
  · exact ⟨s.drive, rfl⟩
  · exact ⟨s.drive, rfl⟩

theorem PanelAction.runs {c : PanelCommand} {act : List Byte → State → Taken} (ha : PanelAction c act) (payload : List Byte)
    (h : s.RunsOk) : (act payload s).state.RunsOk := by
  cases ha
  case readSummary => exact h.of_eq (by simp [actReadSummary])
  case readTable => exact h
  case readRoster =>
    unfold actReadRoster
    dsimp only
    split <;> exact h
  case readInputs => exact h
  case readCounters => exact h
  case post =>
    unfold actPost postRequest
    dsimp only
    (repeat' split)
    · exact h.of_eq (by simp)
    all_goals exact h
  case withdraw =>
    unfold actWithdraw
    dsimp only
    split
    · exact h.of_eq (by simp)
    · exact h
  case silence => exact h.of_eq (by simp [actSilence])
  case restore => exact h.of_eq (by simp [actRestore])
  case test =>
    rw [actTest_eq]
    exact h.of_eq (by simp)
  case clearCounters => exact h.of_eq (by simp [actClearCounters])

theorem closeWith_runs (response : List Byte) (h : s.RunsOk) : (closeWith response s).RunsOk :=
  h.of_eq (by simp [closeWith])

theorem closeCommand_runs {c : PanelCommand} {act : List Byte → State → Taken} (ha : PanelAction c act) (h : s.RunsOk) :
    (closeCommand c act s).RunsOk := by
  have htaken (payload : List Byte) : (takeCommand c act payload s).state.RunsOk := by
    unfold takeCommand
    (repeat' split)
    · exact ha.runs _ h
    all_goals exact h
  unfold closeCommand
  split
  · split
    · exact closeWith_runs _ (htaken _)
    · exact h
  all_goals exact h

end Sys2Proof.Machine
end

section
/-! PROOFS. The modes of a station that is STARTING or QUIESCENT, the changes between these and the states in which it runs
on the loop, and a wait. O58. -/

namespace Sys2Proof.Machine

variable {s : State}

/-- What the conditions on the modes ask of a STARTING or QUIESCENT station. -/
structure State.IdleOk (s : State) : Prop where
  idle : s.running = false
  halted : s.beat.lock = .halted
  noMark : s.beat.mark = none
  beatHeld : s.pins.beatHeld ≤ 2
  dataHeld : s.pins.dataHeld ≤ 2
  supply : s.startup.station = .quiescent ↔ s.supply.condition = .cutoff
  table : s.table = []
  queue : s.queue.messages = []
  loop : s.loop = Transceiver.atStart
  starting : s.startup.station = .starting → s.roster = rosterAtStart s.startup.ownAddr ∧ s.beat.stuck = false
  dark : s.DarkOk

/-- Nothing but these fields is read by the conditions on the modes of a station that does not run. -/
theorem State.IdleOk.of_eq {t : State} (h : s.IdleOk)
    (e : t.startup.station = s.startup.station ∧ t.startup.ownAddr = s.startup.ownAddr ∧ t.beat.lock = s.beat.lock
      ∧ t.beat.mark = s.beat.mark ∧ t.beat.stuck = s.beat.stuck ∧ t.pins.beatHeld = s.pins.beatHeld
      ∧ t.pins.dataHeld = s.pins.dataHeld ∧ t.supply.condition = s.supply.condition ∧ t.table = s.table
      ∧ t.queue = s.queue ∧ t.loop = s.loop ∧ t.roster = s.roster ∧ t.drive = s.drive) : t.IdleOk := by
  obtain ⟨hidle, hhalted, hmark, hb, hd, hsupply, htable, hqueue, hloop, hstarting, hdark⟩ := h
  obtain ⟨es, ea, el, em, ek, eb, ed, ec, et, eq, ex, er, edr⟩ := e
  constructor
  · simpa only [State.running, es] using hidle
  · rwa [el]
  · rwa [em]
  · rwa [eb]
  · rwa [ed]
  · rwa [es, ec]
  · rwa [et]
  · rwa [eq]
  · rwa [ex]
  · rwa [es, er, ea, ek]
  · simpa only [State.DarkOk, es, edr] using hdark

/-- The modes of a station agree, whether it runs on the loop or not. -/
def State.ModesHold (s : State) : Prop :=
  s.RunsOk ∨ s.IdleOk

theorem State.Ok.modesHold (h : s.Ok) : s.ModesHold := by
  obtain ⟨hhalted, hmember, hquiescent⟩ := h.modes
  cases hr : s.running with
  | true =>
    have hlock : s.beat.lock ≠ .halted := fun hl => by simp [hr] at hhalted; exact hhalted hl
    refine .inl ⟨hr, hlock, hmember, fun hc => ?_, h.tx, h.mark⟩
    have hq := hquiescent.2 hc
    simp [State.running, hq] at hr
  | false =>
    have hlock := hhalted.2 hr
    obtain ⟨htable, hqueue, hloop⟩ := h.rest.1 hr
    refine .inr ⟨hr, hlock, ?_, h.mark.2.1, h.mark.2.2, hquiescent, htable, hqueue, hloop, h.rest.2, h.dark⟩
    cases hm : s.beat.mark with
    | none => rfl
    | some m =>
      obtain ⟨-, -, hl⟩ := h.mark.1 m hm
      simp [hlock] at hl

/-! ### What the modes say of a station -/

theorem State.RunsOk.modesOk (h : s.RunsOk) : s.ModesOk := by
  refine ⟨⟨fun hl => absurd hl h.lock, fun hr => absurd (h.running.symm.trans hr) nofun⟩, h.locked,
    fun hq => ?_, fun hc => absurd hc h.supply⟩
  have hr := h.running
  simp [State.running, hq] at hr

theorem State.IdleOk.modesOk (h : s.IdleOk) : s.ModesOk := by
  refine ⟨⟨fun _ => h.idle, fun _ => h.halted⟩, fun hm => ?_, h.supply⟩
  have hidle := h.idle
  simp [State.running, hm] at hidle

theorem State.IdleOk.no_tx (h : s.IdleOk) : s.loop.tx = none := by rw [h.loop]; rfl

theorem State.IdleOk.markOk (h : s.IdleOk) : s.MarkOk :=
  ⟨fun _ hm => absurd (h.noMark.symm.trans hm) nofun, h.beatHeld, h.dataHeld⟩

theorem State.ModesHold.tx (h : s.ModesHold) : s.TxOk := by
  obtain h | h := h
  · exact h.tx
  · exact .of_none h.no_tx

theorem State.ModesHold.mark (h : s.ModesHold) : s.MarkOk := by
  obtain h | h := h
  · exact h.mark
  · exact h.markOk

theorem State.ModesHold.modes (h : s.ModesHold) : s.ModesOk := by
  obtain h | h := h
  · exact h.modesOk
  · exact h.modesOk

theorem State.ModesHold.rest (h : s.ModesHold) : s.RestOk := by
  obtain h | h := h
  · refine ⟨fun hr => absurd (h.running.symm.trans hr) nofun, fun hst => ?_⟩
    have hr := h.running
    simp [State.running, hst] at hr
  · exact ⟨fun _ => ⟨h.table, h.queue, h.loop⟩, h.starting⟩

theorem State.ModesHold.dark (h : s.ModesHold) : s.DarkOk := by
  obtain h | h := h
  · intro hq
    have hr := h.running
    simp [State.running, hq] at hr
  · exact h.dark

/-- A completed frame's last stop bit is recessive: only a frame on its way out pulls DATA low (R92, R201). -/
theorem State.TxOk.member_of_drivesData (h : s.TxOk) (hd : s.drivesData = true) : s.startup.station = .member := by
  unfold State.drivesData at hd
  split at hd
  · cases hd
  · next r hr =>
    obtain ⟨hsends, hdone⟩ := h r hr
    simp only [TxRecord.level, TxRecord.driving, Bool.not_or, Bool.not_not, Bool.and_eq_true, bne_iff_ne, decide_eq_true_iff,
      Bool.not_eq_true'] at hd
    obtain ⟨⟨hleft, hshort⟩, hbit⟩ := hd
    cases ho : r.outcome with
    | sending => exact hsends ho
    | abandoned => exact absurd ho hleft
    | complete =>
      obtain ⟨h9, -⟩ | hover := hdone ho
      · simp [bitLevel, h9] at hbit
      · omega

theorem State.ModesHold.offTheLoop (h : s.ModesHold) (hq : s.startup.station = .quiescent) : s.offTheLoop := by
  obtain h | h := h
  · have hr := h.running
    simp [State.running, hq] at hr
  · obtain ⟨-, -, hlevel, hbeacon, -⟩ := h.dark hq
    exact ⟨by simp [State.drivesBeat, h.noMark], by simp [State.drivesData, h.no_tx],
      by simp [State.snd, Drive.sounding, hlevel], by simp [State.bcn, hbeacon]⟩

/-! ### Operations of a station that does not run -/

/-- A change of the pins that keeps the filters in range. -/
theorem setPins_idle {p : Pins} (h : s.IdleOk) (hb : p.beatHeld ≤ 2) (hd : p.dataHeld ≤ 2) : (s.setPins p).IdleOk :=
  ⟨h.idle, h.halted, h.noMark, hb, hd, h.supply, h.table, h.queue, h.loop, h.starting, h.dark⟩

theorem modifyLine_idle (f : Line → Line) (h : s.IdleOk) : (modifyLine f s).IdleOk := h.of_eq (by simp)

theorem not_member_of_idle (h : s.running = false) : s.isMember = false := by
  cases hst : s.startup.station <;> simp_all [State.running, State.isMember]

theorem beatFall_idle (h : s.IdleOk) : (beatFall s).IdleOk := by
  unfold beatFall takeFall
  split
  · have ht := setPins_idle h (p := { s.pins with beatLow := true, beatHeld := 0 }) (Nat.zero_le _) h.dataHeld
    simp only [modifyBeat_beat, State.setPins_beat, h.halted]
    exact ht.of_eq (by simp)
  · exact h

theorem beatTimerExpiry_of_halted (h : s.beat.lock = .halted) : beatTimerExpiry s = s := by
  simp [beatTimerExpiry, State.beatExpired, h]

theorem markRelease_of_none (h : s.beat.mark = none) : markRelease s = s := by
  simp [markRelease, h]

theorem barMark_of_halted (h : s.beat.lock = .halted) : barMark s = s := by
  simp [barMark, State.barMarkNow, h]

theorem beatStuck_of_halted (h : s.beat.lock = .halted) : beatStuck s = s := by
  simp [beatStuck, h]

theorem eighthMark_of_halted (h : s.beat.lock = .halted) : eighthMark s = s := by
  simp [eighthMark, State.eighthDue, h]

/-- BEAT that rises in HALTED is stuck no longer (R21). -/
theorem beatRise_idle (h : s.IdleOk) : (beatRise s).IdleOk := by
  unfold beatRise
  split
  · rw [barMark_of_halted h.halted]
    obtain ⟨hidle, hhalted, hmark, hb, hd, hsupply, htable, hqueue, hloop, hstarting, hdark⟩ := h
    extract_lets _ _ u
    have hu : u.IdleOk := ⟨hidle, hhalted, hmark, Nat.zero_le _, hd, hsupply, htable, hqueue, hloop,
      fun hst => ⟨(hstarting hst).1, rfl⟩, hdark⟩
    split
    · exact hu.of_eq (by simp)
    · exact hu
  · exact h

theorem slotBegin_of_idle (h : s.running = false) : slotBegin s = s := by
  unfold slotBegin
  split
  · rfl
  · rw [if_neg (by simp [h])]

theorem openSlotAttempt_of_idle (h : s.running = false) : openSlotAttempt s = s := by
  unfold openSlotAttempt
  rw [if_neg (by simp [not_member_of_idle h])]

theorem slotEnd_of_idle (h : s.running = false) : slotEnd s = s := by
  unfold slotEnd
  split
  · rfl
  · rw [if_neg (by simp [h])]

theorem bitSample_of_idle (h : s.IdleOk) : bitSample s = s := by
  have hback : readBack s = s := by
    unfold readBack
    rw [h.no_tx]
  rw [bitSample, hback, receiverSample_of_not (by simp [h.idle])]

theorem bitTimeEnd_of_idle (h : s.IdleOk) : bitTimeEnd s = s := by
  unfold bitTimeEnd
  rw [h.no_tx]

theorem dataStuck_of_idle (h : s.running = false) : dataStuck s = s := by
  unfold dataStuck
  rw [if_neg (by simp [h])]

theorem dataFall_idle (h : s.IdleOk) : (dataFall s).IdleOk := by
  have hp := setPins_idle h (p := { s.pins with dataLow := true, dataHeld := 0 }) h.beatHeld (Nat.zero_le _)
  unfold dataFall
  dsimp only
  rw [if_neg (c := s.running = true) (by simp [h.idle])]
  split
  · exact h
  · exact modifyLine_idle _ hp

theorem dataRise_idle (h : s.IdleOk) : (dataRise s).IdleOk := by
  have hp := setPins_idle h (p := { s.pins with dataLow := false, dataHeld := 0 }) h.beatHeld (Nat.zero_le _)
  unfold dataRise
  dsimp only
  (repeat' split)
  · exact modifyLine_idle _ (modifyLine_idle _ hp)
  · exact modifyLine_idle _ hp
  · exact h

theorem gapTimeout_idle (h : s.IdleOk) : (gapTimeout s).IdleOk := by
  have hrx : s.loop.rx = none := by rw [h.loop]; rfl
  unfold gapTimeout
  dsimp only
  rw [hrx]
  split
  · exact modifyLine_idle _ h
  · exact h

theorem qualification_of_idle (i : Nat) (h : s.running = false) : qualification i s = s := by
  unfold qualification State.qualifies
  rw [if_neg (by simp [h])]

theorem debounceExpiry_idle (key : Key) (h : s.IdleOk) : (debounceExpiry key s).IdleOk := by
  unfold debounceExpiry
  dsimp only
  rw [if_neg (c := s.running = true) (by simp [h.idle])]
  split
  · exact h.of_eq (by simp)
  · exact h

/-- A change of the drives that leaves them dark in QUIESCENT (R146). -/
theorem setDrive_idle {d : Drive} (h : s.IdleOk) (hdark : (s.setDrive d).DarkOk) : (s.setDrive d).IdleOk :=
  ⟨h.idle, h.halted, h.noMark, h.beatHeld, h.dataHeld, h.supply, h.table, h.queue, h.loop, h.starting, hdark⟩

theorem chirpEnd_idle (h : s.IdleOk) : (chirpEnd s).IdleOk := by
  unfold chirpEnd
  (repeat' split)
  · next t ht _ =>
    refine setDrive_idle h fun hq => ?_
    obtain ⟨-, -, -, -, hchirp⟩ := h.dark hq
    exact absurd (hchirp.symm.trans ht) nofun
  · exact h
  · exact h

theorem periodStart_idle (output : Output) (h : s.IdleOk) : (periodStart output s).IdleOk := by
  refine setDrive_idle h fun hq => ?_
  obtain ⟨-, -, hlevel, hbeacon, -⟩ := h.dark hq
  have hkeep : s.drive.periodStart output = s.drive := by
    cases output <;> simp [Drive.periodStart, Drive.sounding, hlevel, hbeacon]
  rw [hkeep]
  exact h.dark hq

theorem closeWith_idle (response : List Byte) (h : s.IdleOk) : (closeWith response s).IdleOk :=
  h.of_eq (by simp [closeWith])

/-- Commands are turned away at a station that does not run (R209). -/
theorem closeCommand_idle (c : PanelCommand) (act : List Byte → State → Taken) (h : s.IdleOk) :
    (closeCommand c act s).IdleOk := by
  have htaken (payload : List Byte) : (takeCommand c act payload s).state = s := by
    rw [takeCommand, if_neg (by simp [h.idle])]
  unfold closeCommand
  split
  · split
    · dsimp only
      rw [htaken]
      exact closeWith_idle _ h
    · exact h
  all_goals exact h

end Sys2Proof.Machine
end

section
/-! PROOFS. The changes of station state, a wait, and the modes after every step: O58. -/

namespace Sys2Proof.Machine

variable {s : State}

/-! ### The changes of station state -/

theorem State.ModesHold.idle_of_starting (h : s.ModesHold) (hst : s.startup.station = .starting) : s.IdleOk :=
  h.resolve_left fun hruns => by simpa [State.running, hst] using hruns.running

theorem coldStart_idle (cause : StartCause) (hb : s.pins.beatHeld ≤ 2) (hd : s.pins.dataHeld ≤ 2) :
    (coldStart cause s).IdleOk :=
  ⟨rfl, rfl, rfl, hb, hd, ⟨nofun, nofun⟩, rfl, rfl, rfl, fun _ => ⟨rfl, rfl⟩, nofun⟩

theorem enterJoining_runs (hb : s.pins.beatHeld ≤ 2) (hd : s.pins.dataHeld ≤ 2) (htx : s.loop.tx = none)
    (hc : s.supply.condition ≠ .cutoff) : (enterJoining s).RunsOk := by
  have hjoined : s.atJoining.RunsOk := ⟨rfl, nofun, nofun, hc, .of_none htx, nofun, hb, hd⟩
  exact hjoined.of_eq (by simp [enterJoining_eq])

theorem warmStart_runs (hb : s.pins.beatHeld ≤ 2) (hd : s.pins.dataHeld ≤ 2) (hc : s.supply.condition ≠ .cutoff) :
    (warmStart s).RunsOk :=
  enterJoining_runs (s := s.atWarmStart) hb hd rfl hc

/-- A station whose supply is cut off is QUIESCENT, with its table, queue and transceiver as at a start (R146, R193). -/
theorem enterQuiescent_idle (hb : s.pins.beatHeld ≤ 2) (hd : s.pins.dataHeld ≤ 2) (hc : s.supply.condition = .cutoff) :
    (enterQuiescent s).IdleOk := by
  obtain ⟨player, port, heq, -⟩ := enterQuiescent_effect s
  rw [heq]
  exact ⟨rfl, rfl, rfl, hb, hd, ⟨fun _ => hc, fun _ => rfl⟩, rfl, rfl, rfl, nofun, fun _ => ⟨rfl, rfl, rfl, rfl, rfl⟩⟩

/-! ### The supply condition -/

theorem Supply.not_cutoff_of_change {m : Supply} {c : Condition} (h : m.change = some c) (hc : c ≠ .low) :
    m.condition ≠ .cutoff := by
  intro hcut
  simp only [Supply.change, hcut] at h
  split at h <;> simp_all

theorem setSupply_modes {m : Supply} (h : s.ModesHold) (hm : m.condition = s.supply.condition) :
    (s.setSupply m).ModesHold :=
  h.imp (·.of_eq (by simp [hm])) (·.of_eq (by simp [hm]))

/-- Between NORMAL and LOW no mode changes with the condition (R175). -/
theorem setCondition_modes {c : Condition} (h : s.ModesHold) (hold : s.supply.condition ≠ .cutoff) (hc : c ≠ .cutoff) :
    (setCondition c s).ModesHold := by
  refine h.imp (setCondition_runs · hc) fun hidle => ?_
  have hstation : s.startup.station ≠ .quiescent := fun hq => hold (hidle.supply.1 hq)
  exact ⟨hidle.idle, hidle.halted, hidle.noMark, hidle.beatHeld, hidle.dataHeld,
    ⟨fun hq => absurd hq hstation, fun h => absurd h hc⟩, hidle.table, hidle.queue, hidle.loop, hidle.starting,
    fun hq => absurd hq hstation⟩

theorem setFault_modes (f : FaultName) (h : s.ModesHold) : (setFault f s).ModesHold :=
  h.imp (·.of_eq (by simp)) (·.of_eq (by simp))

theorem clearFault_modes (f : FaultName) (h : s.ModesHold) : (clearFault f s).ModesHold :=
  h.imp (·.of_eq (by simp)) (·.of_eq (by simp))

theorem becomeCutoff_modes (h : s.ModesHold) : (becomeCutoff s).ModesHold := by
  obtain ⟨-, hb, hd⟩ := h.mark
  exact .inr (enterQuiescent_idle (by simpa using hb) (by simpa using hd) (by simp [setCondition]))

theorem recover_modes (h : s.ModesHold) : (recover s).ModesHold := by
  obtain ⟨-, hb, hd⟩ := h.mark
  unfold recover
  extract_lets _ t
  have hb' : t.pins.beatHeld ≤ 2 := by simpa [t, becomeLow] using hb
  have hd' : t.pins.dataHeld ≤ 2 := by simpa [t, becomeLow] using hd
  have hlow : t.supply.condition = .low := becomeLow_condition _
  split
  · exact .inr (coldStart_idle _ hb' hd')
  · exact .inl (warmStart_runs hb' hd' (by rw [hlow]; exact nofun))

theorem supplySample_modes (b : Byte) (h : s.ModesHold) : (supplySample b s).ModesHold := by
  unfold supplySample
  extract_lets t
  have ht : t.ModesHold := setSupply_modes h rfl
  split
  · exact ht
  · next hchange =>
    exact clearFault_modes _ (setCondition_modes ht (Supply.not_cutoff_of_change hchange nofun) nofun)
  · exact becomeCutoff_modes ht
  · split
    · exact recover_modes ht
    · next hold => exact setFault_modes _ (setCondition_modes ht hold nofun)

theorem setConverter_modes (c : Converter) (h : s.ModesHold) : (s.setConverter c).ModesHold :=
  h.imp (·.of_eq (by simp)) (·.of_eq (by simp))

theorem handReading_modes (b : Byte) (a : Conversion) (discard : Bool) (h : s.ModesHold) :
    (handReading b a discard s).ModesHold := by
  unfold handReading
  (repeat' split)
  · exact h
  · exact h
  · exact h.imp (·.of_eq (by simp)) (·.of_eq (by simp))
  · exact supplySample_modes _ h

theorem conversionComplete_modes (b : Byte) (h : s.ModesHold) : (conversionComplete b s).ModesHold := by
  unfold conversionComplete
  split
  · exact setConverter_modes _ (handReading_modes _ _ _ (setConverter_modes _ h))
  · exact h

/-! ### RST and the steps of a cold start -/

theorem setPins_modes {p : Pins} (h : s.ModesHold) (hlow : p.beatLow = s.pins.beatLow) (hb : p.beatHeld = s.pins.beatHeld)
    (hd : p.dataHeld = s.pins.dataHeld) : (s.setPins p).ModesHold :=
  h.imp (·.of_eq (by simp [hlow, hb, hd])) (·.of_eq (by simp [hb, hd]))

theorem setStartup_modes {u : Startup} (h : s.ModesHold) (hst : u.station = s.startup.station)
    (hown : u.ownAddr = s.startup.ownAddr) : (s.setStartup u).ModesHold :=
  h.imp (·.of_eq (by simp [hst])) (·.of_eq (by simp [hst, hown]))

theorem endWaiting_modes (h : s.ModesHold) : (endWaiting s).ModesHold := by
  unfold endWaiting
  split
  · exact setStartup_modes h rfl rfl
  · exact h

theorem rstFall_modes (h : s.ModesHold) : (rstFall s).ModesHold := by
  unfold rstFall
  split
  · exact setPins_modes h rfl rfl rfl
  all_goals exact h

theorem resetPin_modes (h : s.ModesHold) : (resetPin s).ModesHold := by
  obtain ⟨-, hb, hd⟩ := h.mark
  unfold resetPin
  (repeat' split)
  · exact .inr (coldStart_idle _ hb hd)
  all_goals exact h

theorem rstRise_modes (h : s.ModesHold) : (rstRise s).ModesHold := by
  obtain ⟨-, hb, hd⟩ := h.mark
  have ht : (s.setPins { s.pins with rst := .high }).ModesHold := setPins_modes h rfl rfl rfl
  unfold rstRise
  dsimp only
  (repeat' split)
  · exact h
  · exact .inr (coldStart_idle _ hb hd)
  · exact endWaiting_modes ht
  · exact .inr (coldStart_idle _ hb hd)
  · exact endWaiting_modes ht

theorem State.starting_of_startingAt {st : StartStep} (h : s.startingAt st = true) : s.startup.station = .starting := by
  simp only [State.startingAt, Bool.and_eq_true, beq_iff_eq] at h
  exact h.1

theorem State.starting_of_readingAfter {n : Nat} (h : s.readingAfter n = true) : s.startup.station = .starting := by
  simp only [State.readingAfter, Bool.and_eq_true] at h
  exact State.starting_of_startingAt h.1.1

/-- A roster at its start values goes with the address that the straps give (R103, R185). -/
theorem settlingWaitEnd_modes (straps : BitVec 5) (h : s.ModesHold) : (settlingWaitEnd straps s).ModesHold := by
  unfold settlingWaitEnd
  split
  · next hnow =>
    have hst := State.starting_of_startingAt hnow.1
    obtain ⟨hidle, hhalted, hmark, hb, hd, hsupply, htable, hqueue, hloop, hstarting, hdark⟩ := h.idle_of_starting hst
    exact .inr ⟨hidle, hhalted, hmark, hb, hd, hsupply, htable, hqueue, hloop, fun _ => ⟨rfl, (hstarting hst).2⟩, hdark⟩
  · exact h

theorem rejectImage_modes (h : s.ModesHold) : (rejectImage s).ModesHold := by
  rw [rejectImage_eq]
  exact h.imp (·.of_eq ⟨rfl, rfl, rfl, rfl, rfl, rfl, rfl, rfl⟩)
    (·.of_eq ⟨rfl, rfl, rfl, rfl, rfl, rfl, rfl, rfl, rfl, rfl, rfl, rfl, rfl⟩)

theorem headerReadComplete_modes (header : List Byte) (h : s.ModesHold) : (headerReadComplete header s).ModesHold := by
  unfold headerReadComplete
  (repeat' split)
  · exact setStartup_modes h rfl rfl
  · exact rejectImage_modes h
  · exact h

theorem missingAcknowledge_modes (sent : Nat) (h : s.ModesHold) : (missingAcknowledge sent s).ModesHold := by
  unfold missingAcknowledge
  split
  · exact rejectImage_modes h
  · exact h

theorem imageReadComplete_modes (rest : List Byte) (h : s.ModesHold) : (imageReadComplete rest s).ModesHold := by
  unfold imageReadComplete
  dsimp only
  (repeat' split)
  · exact setStartup_modes h rfl rfl
  · exact rejectImage_modes h
  · exact h

/-- The end of CHECKING makes the station JOINING, with its transceiver as at the start (R184, R190). -/
theorem loadComplete_modes (h : s.ModesHold) : (loadComplete s).ModesHold := by
  unfold loadComplete
  split
  · next hnow =>
    have hst := State.starting_of_startingAt hnow
    have hidle := h.idle_of_starting hst
    extract_lets t
    have ht : t.pins = s.pins ∧ t.loop = s.loop ∧ t.supply = s.supply := by
      unfold t
      split
      · exact ⟨rfl, rfl, rfl⟩
      · rw [loadImage_eq]
        exact ⟨rfl, rfl, rfl⟩
    obtain ⟨hpins, hloop, hsupply⟩ := ht
    refine .inl (enterJoining_runs ?_ ?_ ?_ fun hc => ?_)
    · simpa [hpins] using hidle.beatHeld
    · simpa [hpins] using hidle.dataHeld
    · simpa [hloop] using hidle.no_tx
    · rw [State.setStartup_supply, hsupply] at hc
      exact absurd (hst.symm.trans (hidle.supply.2 hc)) nofun
  · exact h

/-! ### A wait -/

theorem tick_le (cap dt t : Nat) : tick cap dt t ≤ cap := Nat.min_le_left _ _

/-- A mark runs down, and by the time the station would see it, it does (R3, R197). -/
theorem elapse_markOk (dt : Nat) (h : s.MarkOk) : (s.elapse dt).MarkOk := by
  obtain ⟨hmark, hb, -⟩ := h
  refine ⟨fun m' hm' => ?_, ?_, tick_le _ _ _⟩
  · obtain ⟨m, hm, rfl⟩ := Option.map_eq_some_iff.1 hm'
    obtain ⟨hseen, htime, hlock⟩ := hmark m hm
    refine ⟨?_, (Nat.sub_le _ _).trans htime, hlock⟩
    rw [elapse_beatLow, hm, unseen_elapse]
    simp only [Option.any_some, Bool.or_eq_true, decide_eq_true_iff]
    by_cases hlow : s.pins.beatLow = true
    · exact .inl (.inl hlow)
    · by_cases hdue : m.unseen ≤ dt
      · exact .inl (.inr hdue)
      · exact .inr (by omega)
  · simp only [State.elapse, Pins.elapse]
    split
    · exact Nat.zero_le _
    · exact tick_le _ _ _

theorem elapse_runs (dt : Nat) (h : s.RunsOk) : (s.elapse dt).RunsOk := by
  refine ⟨h.running, h.lock, h.locked, h.supply, fun r' hr' => ?_, elapse_markOk dt h.mark⟩
  rw [elapse_tx] at hr'
  obtain ⟨r, hr, rfl⟩ := Option.map_eq_some_iff.1 hr'
  exact h.tx r hr

theorem elapse_idle (dt : Nat) (h : s.IdleOk) : (s.elapse dt).IdleOk := by
  obtain ⟨-, hb, hd⟩ := elapse_markOk dt h.markOk
  refine ⟨h.idle, h.halted, ?_, hb, hd, h.supply, h.table, h.queue, ?_, h.starting, fun hq => ?_⟩
  · exact congrArg (Option.map fun m : Mark => { m with remaining := m.remaining - dt }) h.noMark
  · have hloop : (s.elapse dt).loop = s.loop.elapse s.running dt := rfl
    rw [hloop, h.loop, h.idle]
    rfl
  · obtain ⟨hquiet, hsource, hlevel, hbeacon, hchirp⟩ := h.dark hq
    exact ⟨hquiet, hsource, hlevel, hbeacon, congrArg (Option.map (tick eighthTime dt)) hchirp⟩

theorem elapse_modes (dt : Nat) (h : s.ModesHold) : (s.elapse dt).ModesHold :=
  h.imp (elapse_runs dt) (elapse_idle dt)

/-! ### An operation and a step -/

theorem setPort_modes (p : Port) (h : s.ModesHold) : (s.setPort p).ModesHold :=
  h.imp (·.of_eq (by simp)) (·.of_eq (by simp))

theorem closeWith_modes (response : List Byte) (h : s.ModesHold) : (closeWith response s).ModesHold := setPort_modes _ h

theorem operation_modes {op : State → State} (hop : Operation op) (h : s.ModesHold) : (op s).ModesHold := by
  cases hop
  case nothing => exact h
  case powerOn => exact .inr (coldStart_idle _ h.mark.2.1 h.mark.2.2)
  case rstFall => exact rstFall_modes h
  case resetPin => exact resetPin_modes h
  case rstRise => exact rstRise_modes h
  case settlingWaitEnd straps => exact settlingWaitEnd_modes straps h
  case headerReadComplete header => exact headerReadComplete_modes header h
  case missingAcknowledge sent => exact missingAcknowledge_modes sent h
  case imageReadComplete rest => exact imageReadComplete_modes rest h
  case loadComplete => exact loadComplete_modes h
  case beatFall => exact h.imp beatFall_runs beatFall_idle
  case beatTimerExpiry => exact h.imp beatTimerExpiry_runs fun hi => by rwa [beatTimerExpiry_of_halted hi.halted]
  case markRelease => exact h.imp markRelease_runs fun hi => by rwa [markRelease_of_none hi.noMark]
  case barMark => exact h.imp barMark_runs fun hi => by rwa [barMark_of_halted hi.halted]
  case beatRise => exact h.imp beatRise_runs beatRise_idle
  case beatStuck => exact h.imp beatStuck_runs fun hi => by rwa [beatStuck_of_halted hi.halted]
  case eighthMark => exact h.imp eighthMark_runs fun hi => by rwa [eighthMark_of_halted hi.halted]
  case slotBegin => exact h.imp slotBegin_runs fun hi => by rwa [slotBegin_of_idle hi.idle]
  case openSlotAttempt => exact h.imp openSlotAttempt_runs fun hi => by rwa [openSlotAttempt_of_idle hi.idle]
  case slotEnd => exact h.imp slotEnd_runs fun hi => by rwa [slotEnd_of_idle hi.idle]
  case bitSample => exact h.imp bitSample_runs fun hi => by rwa [bitSample_of_idle hi]
  case gapTimeout => exact h.imp gapTimeout_runs gapTimeout_idle
  case dataStuck =>
    refine h.imp (fun hr => ?_) fun hi => by rwa [dataStuck_of_idle hi.idle]
    exact hr.of_eq (by simp)
  case dataFall => exact h.imp dataFall_runs dataFall_idle
  case dataRise => exact h.imp dataRise_runs dataRise_idle
  case bitTimeEnd => exact h.imp bitTimeEnd_runs fun hi => by rwa [bitTimeEnd_of_idle hi]
  case scanNext => exact h.imp (·.of_eq (by simp)) (·.of_eq (by simp))
  case supplyOwnTimer =>
    exact h.imp (·.of_eq (by simp [supplyOwnTimer_condition])) (·.of_eq (by simp [supplyOwnTimer_condition]))
  case conversionComplete b => exact conversionComplete_modes b h
  case qualification i => exact h.imp (·.of_eq (by simp)) fun hi => by rwa [qualification_of_idle i hi.idle]
  case keyLevelChange => exact h.imp (·.of_eq (by simp)) (·.of_eq (by simp))
  case debounceExpiry key => exact h.imp (·.of_eq (by simp)) (debounceExpiry_idle key)
  case chirpEnd =>
    refine h.imp (fun hr => ?_) chirpEnd_idle
    obtain ⟨d, hd⟩ := chirpEnd_frame s
    rw [hd]
    exact hr.of_eq (by simp)
  case periodStart output => exact h.imp (·.of_eq (by simp [periodStart])) (periodStart_idle output)
  case transactionOpen => unfold transactionOpen; split <;> simp [h, setPort_modes]
  case psckRise => unfold psckRise; split <;> simp [h, setPort_modes]
  case psckFall => unfold psckFall; split <;> simp [h, setPort_modes]
  case closeNothing => unfold closeNothing; split <;> simp [h, closeWith_modes]
  case closeBad => unfold closeBad; split <;> simp [h, closeWith_modes]
  case closeUnknown => unfold closeUnknown; split <;> simp [h, closeWith_modes]
  case closeCommand ha => exact h.imp (closeCommand_runs ha) (closeCommand_idle _ _)

theorem setPending_modes (l : List Instr) (h : s.ModesHold) : (s.setPending l).ModesHold :=
  h.imp (·.of_eq (by simp)) (·.of_eq (by simp))

theorem step_modes {t : State} (h : s.Ok) (hstep : step s = .next t) : t.ModesHold := by
  obtain rfl | ⟨rest, dt, op, hop, rfl⟩ := step_cases hstep
  · exact h.modesHold
  · exact operation_modes hop (elapse_modes dt (setPending_modes rest h.modesHold))

end Sys2Proof.Machine

open Sys2Proof Sys2Proof.Machine

/-- Settles O58: a station either runs on the loop or is STARTING or QUIESCENT with its blocks at rest, and each operation
keeps that. -/
theorem everyStepKeepsTheModes : Obligations.EveryStepKeepsTheModes := by
  unfold Obligations.EveryStepKeepsTheModes
  intro s t h hstep
  have ht := step_modes h hstep
  exact ⟨ht.modes, ht.tx, ht.mark, ht.rest, ht.dark, ht.offTheLoop, ht.tx.member_of_drivesData⟩

end

section
/-! PROOFS. Own entries, ORPHANED entries and ranges through every change of the cue table (sections 2.2 to 2.8). -/

namespace Sys2Proof.Machine

variable {own sender : Nat} {stamp : Stamp} {table : List Entry}

/-! ### What a change of the table keeps -/

/-- The table holds an own entry of an input. -/
def HoldsOwn (own : Nat) (table : List Entry) (i : Nat) : Prop :=
  ∃ e ∈ table, e.origin = own ∧ e.input = i

/-- The own entries are those of the inputs with a request (R33). -/
theorem State.ownOk_iff {s : State} :
    s.OwnOk ↔ ∀ i, HoldsOwn s.startup.ownAddr s.table i ↔ i < 12 ∧ (s.input i).request ≠ .idle := by
  constructor
  · rintro ⟨hhas, honly⟩ i
    constructor
    · rintro ⟨e, he, ho, rfl⟩
      exact honly e he ho
    · exact fun ⟨hi, hr⟩ => hhas i hi hr
  · intro h
    exact ⟨fun i hi hr => (h i).2 ⟨hi, hr⟩, fun e he ho => (h e.input).1 ⟨e, he, ho, rfl⟩⟩

/-- A change of the table that keeps the fields in range, makes no entry ORPHANED, and keeps the own entries. -/
structure TableKept (own : Nat) (before after : List Entry) : Prop where
  ok : ∀ e ∈ after, e.Ok
  orphans : ∀ e ∈ after, e.state = .orphaned → ∃ o ∈ before, o.state = .orphaned ∧ o.origin = e.origin ∧ o.latched = e.latched
  owns : ∀ i, HoldsOwn own after i ↔ HoldsOwn own before i

theorem TableKept.refl (h : ∀ e ∈ table, e.Ok) : TableKept own table table :=
  ⟨h, fun e he ho => ⟨e, he, ho, rfl, rfl⟩, fun _ => Iff.rfl⟩

theorem TableKept.trans {a b c : List Entry} (hab : TableKept own a b) (hbc : TableKept own b c) : TableKept own a c where
  ok := hbc.ok
  orphans e he ho := by
    obtain ⟨x, hx, hxo, hxorigin, hxlatched⟩ := hbc.orphans e he ho
    obtain ⟨y, hy, hyo, hyorigin, hylatched⟩ := hab.orphans x hx hxo
    exact ⟨y, hy, hyo, hyorigin.trans hxorigin, hylatched.trans hxlatched⟩
  owns i := (hbc.owns i).trans (hab.owns i)

/-- A change that only takes foreign entries out. -/
theorem TableKept.of_subset {after : List Entry} (h : ∀ e ∈ table, e.Ok) (hsub : ∀ e ∈ after, e ∈ table)
    (hown : ∀ e ∈ table, e.origin = own → e ∈ after) : TableKept own table after where
  ok e he := h e (hsub e he)
  orphans e he ho := ⟨e, hsub e he, ho, rfl, rfl⟩
  owns _ := ⟨fun ⟨e, he, ho, hi⟩ => ⟨e, hsub e he, ho, hi⟩, fun ⟨e, he, ho, hi⟩ => ⟨e, hown e he ho, ho, hi⟩⟩

/-- A silence sets flags and nothing else (R46). -/
theorem TableKept.silence (h : ∀ e ∈ table, e.Ok) : TableKept own table (silenceEntries table) where
  ok e he := by
    obtain ⟨x, hx, rfl⟩ := List.mem_map.1 he
    exact h x hx
  orphans e he ho := by
    obtain ⟨x, hx, rfl⟩ := List.mem_map.1 he
    exact ⟨x, hx, ho, rfl, rfl⟩
  owns i := by
    constructor
    · rintro ⟨e, he, ho, hi⟩
      obtain ⟨x, hx, rfl⟩ := List.mem_map.1 he
      exact ⟨x, hx, ho, hi⟩
    · rintro ⟨x, hx, ho, hi⟩
      exact ⟨_, List.mem_map_of_mem hx, ho, hi⟩

/-! ### Entries inserted -/

theorem mem_placeEntry {e x : Entry} : x ∈ placeEntry e table ↔ x = e ∨ x ∈ table := by
  rw [(placeEntry_perm e table).mem_iff, List.mem_cons]

/-- No own entry is evicted (R30, R31). -/
theorem mem_evictLast_of_own {e : Entry} (he : e ∈ table) (ho : e.origin = own) : e ∈ evictLast own table := by
  unfold evictLast
  split
  · next l hl =>
    exact (withoutKey_mem _ _ _ _).2 ⟨he, fun hk => (lastForeign_mem hl).2 (hk.1.symm.trans ho)⟩
  · exact he

theorem mem_insertForeign {e x : Entry} (h : x ∈ (insertForeign own e table).1) : x = e ∨ x ∈ table := by
  unfold insertForeign at h
  split at h
  · exact mem_placeEntry.1 h
  · split at h
    · split at h
      · exact (mem_placeEntry.1 h).imp_right fun hx => (evictLast_sublist own table).subset hx
      · exact .inr h
    · exact .inr h

theorem mem_insertForeign_of_own {e x : Entry} (hx : x ∈ table) (ho : x.origin = own) : x ∈ (insertForeign own e table).1 := by
  unfold insertForeign
  split
  · exact mem_placeEntry.2 (.inr hx)
  · split
    · split
      · exact mem_placeEntry.2 (.inr (mem_evictLast_of_own hx ho))
      · exact hx
    · exact hx

theorem mem_insertOwn {e x : Entry} (h : x ∈ (insertOwn own e table).1) : x = e ∨ x ∈ table := by
  unfold insertOwn at h
  split at h
  · exact mem_placeEntry.1 h
  · split at h
    · exact (mem_placeEntry.1 h).imp_right fun hx => (evictLast_sublist own table).subset hx
    · exact .inr h

theorem mem_insertOwn_of_own {e x : Entry} (hx : x ∈ table) (ho : x.origin = own) : x ∈ (insertOwn own e table).1 := by
  unfold insertOwn
  split
  · exact mem_placeEntry.2 (.inr hx)
  · split
    · exact mem_placeEntry.2 (.inr (mem_evictLast_of_own hx ho))
    · exact hx

/-- Own entries of twelve inputs never fill the table: a full one holds a foreign entry (R30). -/
theorem exists_foreign_of_full (h : TableOk table) (hinputs : ∀ e ∈ table, e.origin = own → e.input < 12)
    (hfull : 16 ≤ table.length) : ∃ l, lastForeign own table = some l := by
  by_contra hnone
  have hown : ∀ e ∈ table, e.origin = own := by
    intro e he
    by_contra hforeign
    have hlast : lastForeign own table = none := Option.eq_none_iff_forall_not_mem.2 fun l hl => hnone ⟨l, hl⟩
    rw [lastForeign, List.getLast?_eq_none_iff, List.filter_eq_nil_iff] at hlast
    exact hlast e he (by simpa [Entry.foreign] using hforeign)
  have hnodup : (table.map Entry.input).Nodup := by
    refine List.pairwise_map.2 (h.2.imp_of_mem fun {a b} ha hb hab heq => ?_)
    exact hab.2 ⟨(hown a ha).trans (hown b hb).symm, heq⟩
  have hsub : table.map Entry.input ⊆ List.range 12 := by
    intro i hi
    obtain ⟨e, he, rfl⟩ := List.mem_map.1 hi
    exact List.mem_range.2 (hinputs e he (hown e he))
  have hlen := (List.subperm_of_subset hnodup hsub).length_le
  simp only [List.length_map, List.length_range] at hlen
  omega

theorem mem_insertOwn_self {e : Entry} (h : TableOk table) (hinputs : ∀ e ∈ table, e.origin = own → e.input < 12) :
    e ∈ (insertOwn own e table).1 := by
  unfold insertOwn
  split
  · exact mem_placeEntry.2 (.inl rfl)
  · next hfull =>
    obtain ⟨l, hl⟩ := exists_foreign_of_full h hinputs (Nat.le_of_not_lt hfull)
    simp only [hl]
    exact mem_placeEntry.2 (.inl rfl)

/-! ### The items of a frame -/

/-- The entry that an item of a frame leaves of its key, but for its stamp and its flags (R38, R41). -/
structure Item.LeftAs (i : Item) (sender : Nat) (e : Entry) : Prop where
  active : e.state = .active
  origin : e.origin = sender
  input : e.input = i.input
  cue : e.cue = i.cue
  priority : e.priority = i.priority
  miss : e.miss = 0

theorem Item.LeftAs.ok {i : Item} {e : Entry} (h : i.LeftAs sender e) (hi : i.inRange = true) (hs : sender ≤ 31) : e.Ok := by
  obtain ⟨hcue, hcue', hprio, hprio', hinput⟩ := i.inRange_iff.1 hi
  obtain ⟨-, eorigin, einput, ecue, eprio, emiss⟩ := h
  exact ⟨ecue ▸ hcue, ecue ▸ hcue', eprio ▸ hprio, eprio ▸ hprio', eorigin ▸ hs, einput ▸ hinput, emiss ▸ Nat.zero_le _⟩

/-- After an item an entry is the one it left, or an earlier one of another key (R38, R41). -/
theorem mem_applyItem {i : Item} {x : Entry} (h : x ∈ (applyItem own sender stamp i table).1) :
    i.LeftAs sender x ∨ x ∈ table ∧ ¬ (x.origin = sender ∧ x.input = i.input) := by
  cases hf : table.find? (Entry.hasKey sender i.input) with
  | some e =>
    rw [applyItem_of_some hf] at h
    obtain ⟨-, ho, hi⟩ := mem_hasKey_of_find? hf
    obtain rfl | hx := mem_placeEntry.1 h
    · exact .inl ⟨rfl, ho, hi, rfl, rfl, rfl⟩
    · exact .inr ((withoutKey_mem _ _ _ _).1 hx)
  | none =>
    rw [applyItem_of_none hf] at h
    obtain rfl | hx := mem_insertForeign h
    · exact .inl ⟨rfl, rfl, rfl, rfl, rfl, rfl⟩
    · exact .inr ⟨hx, Entry.hasKey_eq_false.1 (by simpa using List.find?_eq_none.1 hf x hx)⟩

theorem mem_applyItem_of_own {i : Item} {x : Entry} (hne : sender ≠ own) (hx : x ∈ table) (ho : x.origin = own) :
    x ∈ (applyItem own sender stamp i table).1 := by
  cases hf : table.find? (Entry.hasKey sender i.input) with
  | some e =>
    rw [applyItem_of_some hf]
    exact mem_placeEntry.2 (.inr ((withoutKey_mem _ _ _ _).2 ⟨hx, fun hk => hne (hk.1.symm.trans ho)⟩))
  | none =>
    rw [applyItem_of_none hf]
    exact mem_insertForeign_of_own hx ho

theorem TableKept.applyItem {i : Item} (h : ∀ e ∈ table, e.Ok) (hne : sender ≠ own) (hs : sender ≤ 31)
    (hi : i.inRange = true) : TableKept own table (applyItem own sender stamp i table).1 where
  ok e he := (mem_applyItem he).elim (fun hl => hl.ok hi hs) fun hx => h e hx.1
  orphans e he ho := by
    obtain hl | ⟨hx, -⟩ := mem_applyItem he
    · exact absurd (hl.active.symm.trans ho) nofun
    · exact ⟨e, hx, ho, rfl, rfl⟩
  owns k := by
    constructor
    · rintro ⟨e, he, ho, hk⟩
      obtain hl | ⟨hx, -⟩ := mem_applyItem he
      · exact absurd (hl.origin.symm.trans ho) hne
      · exact ⟨e, hx, ho, hk⟩
    · exact fun ⟨e, he, ho, hk⟩ => ⟨e, mem_applyItem_of_own hne he ho, ho, hk⟩

theorem TableKept.applyItems {items : List Item} (h : ∀ e ∈ table, e.Ok) (hne : sender ≠ own) (hs : sender ≤ 31)
    (hitems : ∀ i ∈ items, i.inRange = true) : TableKept own table (applyItems own sender stamp items table).1 := by
  induction items generalizing table with
  | nil => exact .refl h
  | cons i rest ih =>
    have hone := TableKept.applyItem (stamp := stamp) h hne hs (hitems i List.mem_cons_self)
    exact hone.trans (ih hone.ok fun j hj => hitems j (List.mem_cons_of_mem _ hj))

/-- After a frame's items a sender's entry is ACTIVE, or an earlier one that no item names (R38, R41). -/
theorem mem_applyItems_of_sender {items : List Item} {x : Entry} (h : x ∈ (applyItems own sender stamp items table).1)
    (ho : x.origin = sender) : x.state = .active ∨ x ∈ table ∧ ∀ i ∈ items, i.input ≠ x.input := by
  induction items generalizing table with
  | nil => exact .inr ⟨h, nofun⟩
  | cons i rest ih =>
    obtain hactive | ⟨hx, hrest⟩ := ih h
    · exact .inl hactive
    · obtain hl | ⟨hmem, hkey⟩ := mem_applyItem hx
      · exact .inl hl.active
      · refine .inr ⟨hmem, fun j hj => ?_⟩
        obtain rfl | hj := List.mem_cons.1 hj
        · exact fun heq => hkey ⟨ho, heq.symm⟩
        · exact hrest j hj

theorem TableKept.applyStatusItems {items : List Item} (h : ∀ e ∈ table, e.Ok) (hne : sender ≠ own) (hs : sender ≤ 31)
    (hitems : ∀ i ∈ items, i.inRange = true) : TableKept own table (applyStatusItems own sender stamp items table).1 := by
  have hdrop : TableKept own table (dropUnlisted sender items table) := by
    refine .of_subset h (fun e he => (List.mem_filter.1 he).1) fun e he ho => List.mem_filter.2 ⟨he, ?_⟩
    have hother : e.origin ≠ sender := fun heq => hne (heq.symm.trans ho)
    simp [hother]
  exact hdrop.trans (.applyItems hdrop.ok hne hs hitems)

/-- A STATUS leaves its sender no entry but ACTIVE ones (R40, R41). -/
theorem active_of_mem_applyStatusItems {items : List Item} {x : Entry}
    (h : x ∈ (applyStatusItems own sender stamp items table).1) (ho : x.origin = sender) : x.state = .active := by
  obtain hactive | ⟨hx, hnone⟩ := mem_applyItems_of_sender h ho
  · exact hactive
  · obtain ⟨-, hlisted⟩ := List.mem_filter.1 hx
    obtain ⟨i, hi, heq⟩ : ∃ i ∈ items, i.input = x.input := by simpa [ho] using hlisted
    exact absurd heq (hnone i hi)

/-! ### A miss, and a restore -/

theorem mem_missEntries {own origin : Nat} {state : PeerState} {x : Entry} (h : x ∈ missEntries own origin state table) :
    ∃ e ∈ table, x = e ∨ e.origin = origin ∧ origin ≠ own ∧ e.miss < 2 ∧ (x = { e with miss := e.miss + 1 }
      ∨ e.latched = true ∧ state = .missing ∧ x = { e with miss := e.miss + 1, state := .orphaned }) := by
  unfold missEntries at h
  split at h
  · exact ⟨x, h, .inl rfl⟩
  · next hne =>
    obtain ⟨e, he, hx⟩ := List.mem_filterMap.1 h
    refine ⟨e, he, ?_⟩
    unfold Entry.missed at hx
    split at hx
    · exact .inl (Option.some.inj hx).symm
    · next hcase =>
      have horigin : e.origin = origin := not_not.1 fun h => hcase (.inl h)
      have hmiss : e.miss < 2 := Nat.lt_of_not_le fun h => hcase (.inr h)
      refine .inr ⟨horigin, hne, hmiss, ?_⟩
      dsimp only at hx
      (repeat' split at hx)
      · exact .inl (Option.some.inj hx).symm
      · cases hx
      · exact .inl (Option.some.inj hx).symm
      · next hlast =>
        simp only [Bool.and_eq_true, beq_iff_eq] at hlast
        exact .inr ⟨hlast.1, hlast.2, (Option.some.inj hx).symm⟩
      · cases hx

theorem missEntries_of_own {own origin : Nat} {state : PeerState} {e : Entry} (he : e ∈ table) (ho : e.origin = own) :
    e ∈ missEntries own origin state table := by
  unfold missEntries
  split
  · exact he
  · next hne =>
    refine List.mem_filterMap.2 ⟨e, he, if_pos (.inl ?_)⟩
    exact fun heq => hne (heq.symm.trans ho)

theorem mem_restoreEntries {held : Nat → Bool} {x : Entry} : x ∈ restoreEntries own held table ↔
    (x ∈ table ∧ x.origin = own ∧ held x.input = false)
      ∨ ∃ e ∈ table, e.origin ≠ own ∧ e.state ≠ .orphaned ∧ x = { e with state := .provisional, miss := 0 } := by
  unfold restoreEntries
  rw [List.mem_filterMap]
  constructor
  · rintro ⟨e, he, hx⟩
    unfold Entry.restored at hx
    by_cases ho : e.origin = own
    · rw [if_pos ho] at hx
      cases hheld : held e.input with
      | true => simp [hheld] at hx
      | false =>
        obtain rfl : e = x := by simpa [hheld] using hx
        exact .inl ⟨he, ho, hheld⟩
    · rw [if_neg ho] at hx
      by_cases hs : e.state = .orphaned
      · simp [hs] at hx
      · rw [if_neg hs] at hx
        exact .inr ⟨e, he, ho, hs, (Option.some.inj hx).symm⟩
  · rintro (⟨hx, ho, hheld⟩ | ⟨e, he, ho, hs, rfl⟩)
    · exact ⟨x, hx, by simp [Entry.restored, ho, hheld]⟩
    · exact ⟨e, he, by simp [Entry.restored, ho, hs]⟩

end Sys2Proof.Machine
end

section
/-! PROOFS. Own entries, ORPHANED entries and ranges, through the operations that chapters share. -/

namespace Sys2Proof.Machine

variable {s : State}

/-- The conditions on the entries of the table, on what belongs to them and on the ranges of fields. -/
structure State.EntriesOk (s : State) : Prop where
  orphans : s.OrphansOk
  own : s.OwnOk
  ranges : s.RangesOk

theorem State.Ok.entriesOk (h : s.Ok) : s.EntriesOk := ⟨h.orphans, h.own, h.ranges⟩

/-- What of the startup the conditions on the entries read: the own address, and the image that waits for its load. -/
def Startup.keepsImage (u v : Startup) : Prop :=
  v.ownAddr = u.ownAddr
    ∧ (v.station = .starting → u.station = .starting ∧ v.step = u.step ∧ v.validity = u.validity ∧ v.image = u.image)

@[simp] theorem Startup.keepsImage_self (u : Startup) : u.keepsImage u := ⟨rfl, fun h => ⟨h, rfl, rfl, rfl⟩⟩

/-- The inputs that have a request decide which own entries there are, whatever else the inputs hold. -/
theorem State.EntriesOk.of_requests {t : State} (h : s.EntriesOk)
    (hrequest : ∀ i, (t.input i).request = .idle ↔ (s.input i).request = .idle)
    (hqueue : ∀ m ∈ t.queue.messages, m.news.Ok)
    (e : s.startup.keepsImage t.startup ∧ t.table = s.table ∧ t.roster = s.roster ∧ t.loop.heard = s.loop.heard
      ∧ t.loop.owner = s.loop.owner ∧ t.loop.part = s.loop.part ∧ t.bindings = s.bindings) : t.EntriesOk := by
  obtain ⟨horphans, hown, haddr, hbindings, htable, -, himage⟩ := h
  obtain ⟨⟨ea, ei⟩, et, er, eh, eo, ep, eb⟩ := e
  refine ⟨?_, ?_, ea ▸ haddr, eb ▸ hbindings, et ▸ htable, hqueue, fun hst hstep hvalid => ?_⟩
  · simpa only [State.OrphansOk, et, ea, er, eh, eo, ep] using horphans
  · simpa only [State.OwnOk, et, ea, ne_eq, hrequest] using hown
  · obtain ⟨hst', hstep', hvalid', himage'⟩ := ei hst
    rw [himage']
    exact himage hst' (hstep' ▸ hstep) (hvalid' ▸ hvalid)

/-- Nothing but these fields is read by the conditions on the entries. -/
theorem State.EntriesOk.of_eq {t : State} (h : s.EntriesOk)
    (e : s.startup.keepsImage t.startup ∧ t.table = s.table ∧ t.roster = s.roster ∧ t.loop.heard = s.loop.heard
      ∧ t.loop.owner = s.loop.owner ∧ t.loop.part = s.loop.part ∧ t.bindings = s.bindings ∧ t.inputs = s.inputs
      ∧ t.queue.messages = s.queue.messages) : t.EntriesOk := by
  obtain ⟨ea, et, er, eh, eo, ep, eb, ei, eq⟩ := e
  obtain ⟨-, -, -, hqueue, -⟩ := h.ranges
  refine h.of_requests (fun i => ?_) (fun m hm => hqueue m (eq ▸ hm)) ⟨ea, et, er, eh, eo, ep, eb⟩
  rw [State.input, ei]
  rfl

/-! ### The queue -/

theorem setQueue_entries {q : TxQueue} (h : s.EntriesOk) (hq : ∀ m ∈ q.messages, m.news.Ok) : (s.setQueue q).EntriesOk :=
  h.of_requests (fun _ => Iff.rfl) hq (by simp)

theorem State.EntriesOk.news (h : s.EntriesOk) : ∀ m ∈ s.queue.messages, m.news.Ok := by
  obtain ⟨-, -, -, hqueue, -⟩ := h.ranges
  exact hqueue

theorem mem_join {n : News} {q : TxQueue} {m : Message} (h : m ∈ (q.join n).1.messages) :
    m ∈ q.messages ∨ m.news = n := by
  have hless (p : Message → Bool) (h : m ∈ ((q.without p).takeIn n).1.messages) : m ∈ q.messages ∨ m.news = n :=
    (takeIn_mem h).imp_left fun hm => List.mem_of_mem_filter hm
  unfold TxQueue.join at h
  dsimp only at h
  split at h
  · exact hless _ h
  · split at h
    · split at h
      · exact hless _ h
      · exact .inl (List.mem_of_mem_filter h)
    · exact takeIn_mem h
  · split at h
    · exact .inl h
    · exact takeIn_mem h
  · split at h
    · exact .inl h
    · exact takeIn_mem h

theorem enqueue_entries (n : News) (h : s.EntriesOk) (hn : n.Ok) : (enqueue n s).EntriesOk := by
  have hq := setQueue_entries h (q := (s.queue.join n).1) fun m hm =>
    (mem_join hm).elim (h.news m) fun hnews => hnews ▸ hn
  unfold enqueue
  dsimp only
  split
  · exact hq.of_eq (by simp)
  · exact hq

theorem ageQueue_entries (h : s.EntriesOk) : (ageQueue s).EntriesOk := by
  refine State.EntriesOk.of_eq (setQueue_entries h (q := s.queue.age.1) fun m hm => ?_) (by simp [ageQueue])
  obtain ⟨x, hx, rfl⟩ := List.mem_map.1 (List.mem_of_mem_filter hm)
  rw [Message.aged_news]
  exact h.news x hx

theorem backFromLine_entries (h : s.EntriesOk) : (s.setQueue s.queue.backFromLine).EntriesOk := by
  refine setQueue_entries h fun m hm => ?_
  obtain ⟨x, hx, rfl⟩ := List.mem_map.1 hm
  exact h.news x hx

/-! ### Claims on the table -/

theorem setTable_entries {after : List Entry} (h : s.EntriesOk) (hk : TableKept s.startup.ownAddr s.table after) :
    (s.setTable after).EntriesOk := by
  obtain ⟨⟨horphans, hheard, howner⟩, hown, haddr, hbindings, -, hqueue, himage⟩ := h
  refine ⟨⟨fun e he ho => ?_, fun hsome => ?_, howner⟩, State.ownOk_iff.2 fun i => ?_, haddr, hbindings, hk.ok, hqueue, himage⟩
  · obtain ⟨x, hx, hxo, hxorigin, hxlatched⟩ := hk.orphans e he ho
    rw [← hxorigin, ← hxlatched]
    exact horphans x hx hxo
  · obtain ⟨hs, hnone⟩ := hheard hsome
    refine ⟨hs, fun e he hoe ho => ?_⟩
    obtain ⟨x, hx, hxo, hxorigin, -⟩ := hk.orphans e he ho
    exact hnone x hx (hoe.trans (congrArg some hxorigin.symm)) hxo
  · exact (hk.owns i).trans (State.ownOk_iff.1 hown i)

/-- A claim does to the entries what its table does. -/
theorem takeClaim_entries {after : List Entry} (h : (s.setTable after).EntriesOk) : (takeClaim after s).EntriesOk :=
  h.of_eq (by simp)

theorem State.EntriesOk.tableOk (h : s.EntriesOk) : ∀ e ∈ s.table, e.Ok := by
  obtain ⟨-, -, htable, -⟩ := h.ranges
  exact htable

theorem State.EntriesOk.ownAddr (h : s.EntriesOk) : s.startup.ownAddr ≤ 31 := h.ranges.1

theorem countOverflow_entries (n : Nat) (h : s.EntriesOk) : (countOverflow n s).EntriesOk := h.of_eq (by simp)

theorem applySilence_entries (h : s.EntriesOk) : (applySilence s).EntriesOk :=
  takeClaim_entries (setTable_entries h (.silence h.tableOk))

theorem originateSilence_entries (h : s.EntriesOk) : (originateSilence s).EntriesOk :=
  enqueue_entries _ (applySilence_entries h) trivial

section
variable {sender : Nat} {items : List Item}

theorem applyRaise_entries (stamp : Stamp) (h : s.EntriesOk) (hne : sender ≠ s.startup.ownAddr) (hs : sender ≤ 31)
    (hitems : ∀ i ∈ items, i.inRange = true) : (applyRaise sender stamp items s).EntriesOk := by
  refine takeClaim_entries (setTable_entries (countOverflow_entries _ h) ?_)
  simpa using TableKept.applyItems (stamp := stamp) h.tableOk hne hs hitems

theorem applyStatus_entries (stamp : Stamp) (h : s.EntriesOk) (hne : sender ≠ s.startup.ownAddr) (hs : sender ≤ 31)
    (hitems : ∀ i ∈ items, i.inRange = true) : (applyStatus sender stamp items s).EntriesOk := by
  refine takeClaim_entries (setTable_entries (countOverflow_entries _ h) ?_)
  simpa using TableKept.applyStatusItems (stamp := stamp) h.tableOk hne hs hitems

theorem applyClear_entries (h : s.EntriesOk) (hne : sender ≠ s.startup.ownAddr) : (applyClear sender items s).EntriesOk := by
  refine takeClaim_entries (setTable_entries h (.of_subset h.tableOk (fun e he => List.mem_of_mem_filter he)
    fun e he ho => List.mem_filter.2 ⟨he, ?_⟩))
  have hother : e.origin ≠ sender := fun heq => hne (heq.symm.trans ho)
  simp [Entry.hasKey, hother]

end

/-! ### Requests of this station -/

/-- The conditions on the entries of a station at which the own entry of one input is still to follow its request. -/
structure State.EntriesOkBut (i : Nat) (s : State) : Prop where
  orphans : s.OrphansOk
  own : ∀ j, j ≠ i → (HoldsOwn s.startup.ownAddr s.table j ↔ j < 12 ∧ (s.input j).request ≠ .idle)
  ranges : s.RangesOk

/-- A local raise gives the input its entry, which stands in every case (R30, R34). -/
theorem localRaise_entries {i : Nat} {r : Request} (h : s.EntriesOkBut i) (htable : TableOk s.table) (hi : i < 12)
    (hrequest : (s.input i).request ≠ .idle) (hr : r.Ok) : (localRaise i r s).EntriesOk := by
  obtain ⟨⟨horphans, hheard, howner⟩, hown, haddr, hbindings, hentries, hqueue, himage⟩ := h
  obtain ⟨hcue, hcue', hprio, hprio'⟩ := hr
  have hmem {e : Entry} (he : e ∈ (raisedTable i r s).1) : e = ownEntry i r s ∨ e ∈ s.table :=
    (mem_insertOwn he).imp_right List.mem_of_mem_filter
  have hothers : ∀ e ∈ withoutKey s.startup.ownAddr i s.table, e.origin = s.startup.ownAddr → e.input < 12 := by
    intro e he ho
    obtain ⟨he, hkey⟩ := (withoutKey_mem _ _ _ _).1 he
    exact ((hown e.input fun heq => hkey ⟨ho, heq⟩).1 ⟨e, he, ho, rfl⟩).1
  have hself : ownEntry i r s ∈ (raisedTable i r s).1 := mem_insertOwn_self (htable.withoutKey _ _) hothers
  have hset : (s.setTable (raisedTable i r s).1).EntriesOk := by
    refine ⟨⟨fun e he ho => ?_, fun hsome => ?_, howner⟩, State.ownOk_iff.2 fun j => ?_, haddr, hbindings, fun e he => ?_,
      hqueue, himage⟩
    · obtain rfl | he := hmem he
      · cases ho
      · exact horphans e he ho
    · obtain ⟨hs, hnone⟩ := hheard hsome
      refine ⟨hs, fun e he hoe ho => ?_⟩
      obtain rfl | he := hmem he
      · cases ho
      · exact hnone e he hoe ho
    · by_cases hj : j = i
      · subst hj
        exact ⟨fun _ => ⟨hi, hrequest⟩, fun _ => ⟨_, hself, rfl, rfl⟩⟩
      · refine Iff.trans ⟨?_, ?_⟩ (hown j hj)
        · rintro ⟨e, he, ho, hin⟩
          obtain rfl | he := hmem he
          · exact absurd hin.symm hj
          · exact ⟨e, he, ho, hin⟩
        · rintro ⟨e, he, ho, hin⟩
          refine ⟨e, mem_insertOwn_of_own ((withoutKey_mem _ _ _ _).2 ⟨he, fun hk => hj ?_⟩) ho, ho, hin⟩
          exact hin.symm.trans hk.2
    · obtain rfl | he := hmem he
      · exact ⟨hcue, hcue', hprio, hprio', haddr, Nat.le_of_lt_succ hi, Nat.zero_le _⟩
      · exact hentries e he
  rw [localRaise_eq]
  refine enqueue_entries _ ?_ ⟨Nat.le_of_lt_succ hi, hcue, hcue', hprio, hprio'⟩
  exact hset.of_eq (by simp [State.raiseClaimed])

/-- A local withdraw takes the entry of an input that is IDLE again (R36). -/
theorem localWithdraw_entries {i : Nat} (h : s.EntriesOkBut i) (hrequest : (s.input i).request = .idle) :
    (localWithdraw i s).EntriesOk := by
  obtain ⟨⟨horphans, hheard, howner⟩, hown, haddr, hbindings, hentries, hqueue, himage⟩ := h
  have hset : (s.setTable (withoutKey s.startup.ownAddr i s.table)).EntriesOk := by
    refine ⟨⟨fun e he => horphans e (List.mem_of_mem_filter he), fun hsome => ?_, howner⟩, State.ownOk_iff.2 fun j => ?_,
      haddr, hbindings, fun e he => hentries e (List.mem_of_mem_filter he), hqueue, himage⟩
    · obtain ⟨hs, hnone⟩ := hheard hsome
      exact ⟨hs, fun e he => hnone e (List.mem_of_mem_filter he)⟩
    · by_cases hj : j = i
      · subst hj
        refine ⟨fun ⟨e, he, ho, hin⟩ => ?_, fun ⟨_, hr⟩ => absurd hrequest hr⟩
        exact absurd ⟨ho, hin⟩ ((withoutKey_mem _ _ _ _).1 he).2
      · refine Iff.trans ⟨?_, ?_⟩ (hown j hj)
        · exact fun ⟨e, he, ho, hin⟩ => ⟨e, List.mem_of_mem_filter he, ho, hin⟩
        · rintro ⟨e, he, ho, hin⟩
          exact ⟨e, (withoutKey_mem _ _ _ _).2 ⟨he, fun hk => hj (hin.symm.trans hk.2)⟩, ho, hin⟩
  unfold localWithdraw
  split
  · next hnone =>
    have hsame : withoutKey s.startup.ownAddr i s.table = s.table :=
      List.filter_eq_self.2 fun e he => by simpa using List.find?_eq_none.1 hnone e he
    rw [hsame] at hset
    exact hset.of_eq (by simp)
  · next e he =>
    obtain ⟨hcue, hcue', hprio, hprio', -, hinput, -⟩ := hentries e (mem_hasKey_of_find? he).1
    obtain ⟨-, -, hin⟩ := mem_hasKey_of_find? he
    exact enqueue_entries _ (takeClaim_entries hset) ⟨hin ▸ hinput, hcue, hcue', hprio, hprio'⟩

end Sys2Proof.Machine
end

section
/-! PROOFS. Own entries, ORPHANED entries and ranges, through the roster, the inputs, the slots and the beat unit. -/

namespace Sys2Proof.Machine

variable {s : State}

/-! ### The roster -/

theorem peerState_modify (roster : List RosterEntry) (a : Nat) (f : RosterEntry → RosterEntry) (b : Nat) :
    peerState (roster.modify a f) b = if a = b ∧ b < roster.length then (f (roster.getD b RosterEntry.atStart)).state
      else peerState roster b := by
  simp only [peerState, List.getD_eq_getElem?_getD, List.getElem?_modify]
  by_cases hab : a = b
  · by_cases hb : b < roster.length
    · simp [hab, hb]
    · simp [hab, hb]
  · simp [hab]

theorem peerState_modify_of_ne {roster : List RosterEntry} {a b : Nat} {f : RosterEntry → RosterEntry} (h : a ≠ b) :
    peerState (roster.modify a f) b = peerState roster b := by
  rw [peerState_modify, if_neg fun hab => h hab.1]

/-- A change of the roster that leaves MISSING the stations that ORPHANED entries come from. -/
theorem setRoster_entries {roster : List RosterEntry} (h : s.EntriesOk)
    (hmissing : ∀ e ∈ s.table, e.state = .orphaned → peerState s.roster e.origin = .missing →
      peerState roster e.origin = .missing) : (s.setRoster roster).EntriesOk := by
  obtain ⟨⟨horphans, hheard, howner⟩, hown, hranges⟩ := h
  refine ⟨⟨fun e he ho => ?_, hheard, howner⟩, hown, hranges⟩
  obtain ⟨hlatched, hforeign, hmiss⟩ := horphans e he ho
  exact ⟨hlatched, hforeign, hmissing e he ho hmiss⟩

theorem moveRoster_entries {roster : List RosterEntry} (h : (s.setRoster roster).EntriesOk) : (moveRoster roster s).EntriesOk := by
  refine h.of_eq ?_
  obtain ⟨hroster, -⟩ := moveRoster_effect roster s
  simp [hroster]

/-- A change at one address that leaves its state. -/
theorem modifyRoster_entries {a : Nat} {f : RosterEntry → RosterEntry} (h : s.EntriesOk) (hf : ∀ e, (f e).state = e.state) :
    (s.setRoster (s.roster.modify a f)).EntriesOk := by
  refine setRoster_entries h fun e _ _ hmiss => ?_
  rw [peerState_modify]
  split
  · rw [hf]
    exact hmiss
  · exact hmiss

theorem storeFlags_entries (sender : Nat) (low fault : Bool) (h : s.EntriesOk) : (storeFlags sender low fault s).EntriesOk :=
  modifyRoster_entries h fun _ => rfl

theorem passSelf_entries (conflict : Bool) (h : s.EntriesOk) : (passSelf conflict s).EntriesOk := by
  have ht := modifyRoster_entries (a := s.startup.ownAddr) (f := fun e => { e with lastHeard := some s.stamp }) h fun _ => rfl
  unfold passSelf
  dsimp only
  split
  · exact ht.of_eq (by simp)
  · exact ht

theorem RosterEntry.missed_of_missing {e : RosterEntry} (h : e.state = .missing) : e.missed.state = .missing := by
  simp [RosterEntry.missed, h]

/-- A miss report makes ORPHANED only latched entries of a MISSING station (R44). -/
theorem missReport_entries {owner : Nat} (h : s.EntriesOk) (hheard : s.loop.heard = none) :
    (missReport owner (peerState s.roster owner) s).EntriesOk := by
  obtain ⟨⟨horphans, -, howner⟩, hown, haddr, hbindings, hentries, hqueue, himage⟩ := h
  refine takeClaim_entries ⟨⟨fun x hx ho => ?_, fun hsome => ?_, howner⟩, State.ownOk_iff.2 fun i => ?_, haddr, hbindings,
    fun x hx => ?_, hqueue, himage⟩
  · obtain ⟨e, he, rfl | ⟨horigin, hne, -, rfl | ⟨hlatched, hmissing, rfl⟩⟩⟩ := mem_missEntries hx
    · exact horphans x he ho
    · exact horphans e he ho
    · exact ⟨hlatched, fun heq => hne (horigin.symm.trans heq), (congrArg (peerState s.roster) horigin).trans hmissing⟩
  · rw [State.setTable_loop, hheard] at hsome
    cases hsome
  · refine Iff.trans ⟨?_, ?_⟩ (State.ownOk_iff.1 hown i)
    · rintro ⟨x, hx, ho, hi⟩
      obtain ⟨e, he, rfl | ⟨horigin, hne, -, rfl | ⟨-, -, rfl⟩⟩⟩ := mem_missEntries hx
      · exact ⟨x, he, ho, hi⟩
      · exact absurd (horigin.symm.trans ho) hne
      · exact absurd (horigin.symm.trans ho) hne
    · exact fun ⟨e, he, ho, hi⟩ => ⟨e, missEntries_of_own he ho, ho, hi⟩
  · obtain ⟨e, he, rfl | ⟨-, -, hmiss, hx⟩⟩ := mem_missEntries hx
    · exact hentries x he
    · obtain ⟨hcue, hcue', hprio, hprio', horigin, hinput, -⟩ := hentries e he
      obtain rfl | ⟨-, -, rfl⟩ := hx
      · exact ⟨hcue, hcue', hprio, hprio', horigin, hinput, hmiss⟩
      · exact ⟨hcue, hcue', hprio, hprio', horigin, hinput, hmiss⟩

/-- The owner's pass: one that was heard has no ORPHANED entry, one that was not is MISSING still (R41, R44, R97, R98). -/
theorem passOther_entries {owner : Nat} (h : s.EntriesOk) (howner : s.loop.owner = some owner) :
    (passOther owner s.loop.heard s).EntriesOk := by
  obtain ⟨-, hheard, -⟩ := h.orphans
  unfold passOther
  split
  · next hsome =>
    refine moveRoster_entries (setRoster_entries h fun e he ho hmiss => ?_)
    obtain ⟨-, hnone⟩ := hheard (by rw [hsome]; rfl)
    have hne : owner ≠ e.origin := fun heq => hnone e he (howner.trans (congrArg some heq)) ho
    rw [peerState_modify_of_ne hne]
    exact hmiss
  · next hnone =>
    have ht : (moveRoster (s.roster.modify owner RosterEntry.missed) s).EntriesOk := by
      refine moveRoster_entries (setRoster_entries h fun e _ _ hmiss => ?_)
      rw [peerState_modify]
      split
      · exact RosterEntry.missed_of_missing hmiss
      · exact hmiss
    exact missReport_entries ht (by simpa using hnone)

theorem passReport_entries {owner : Nat} (h : s.EntriesOk) (howner : s.loop.owner = some owner) :
    (passReport owner s).EntriesOk := by
  unfold passReport
  split
  · exact passSelf_entries _ h
  · exact passOther_entries h howner

/-! ### The inputs and the restore -/

theorem getD_modify (inputs : List Input) (i : Nat) (f : Input → Input) (j : Nat) :
    (inputs.modify i f).getD j Input.atStart
      = if i = j ∧ j < inputs.length then f (inputs.getD j Input.atStart) else inputs.getD j Input.atStart := by
  simp only [List.getD_eq_getElem?_getD, List.getElem?_modify]
  by_cases hij : i = j
  · by_cases hj : j < inputs.length
    · simp [hij, hj]
    · simp [hij, hj]
  · simp [hij]

theorem modifyInput_input_of_ne {i j : Nat} (f : Input → Input) (h : j ≠ i) : (modifyInput i f s).input j = s.input j := by
  rw [State.input, modifyInput, State.setInputs_inputs, getD_modify, if_neg fun hij => h hij.1.symm]
  rfl

theorem modifyInput_input_self {i : Nat} (f : Input → Input) (h : i < s.inputs.length) :
    (modifyInput i f s).input i = f (s.input i) := by
  rw [State.input, modifyInput, State.setInputs_inputs, getD_modify, if_pos ⟨rfl, h⟩]
  rfl

/-- A change of an input at which it keeps a request, or none. -/
theorem modifyInput_entries {i : Nat} {f : Input → Input} (h : s.EntriesOk)
    (hf : (f (s.input i)).request = .idle ↔ (s.input i).request = .idle) : (modifyInput i f s).EntriesOk := by
  refine h.of_requests (fun j => ?_) (by simpa using h.news) (by simp)
  rw [State.input, modifyInput, State.setInputs_inputs, getD_modify]
  split
  · next hij =>
    obtain ⟨rfl, -⟩ := hij
    exact hf
  · exact Iff.rfl

/-- A change of one input leaves the own entries of the others. -/
theorem modifyInput_but {i : Nat} {f : Input → Input} (h : s.EntriesOk) : (modifyInput i f s).EntriesOkBut i where
  orphans := h.orphans
  own j hj := by
    rw [modifyInput_input_of_ne f hj]
    exact State.ownOk_iff.1 h.own j
  ranges := h.ranges

theorem setInput_entries {i : Nat} {x : Input} (h : s.EntriesOk) (hx : x.request = .idle ↔ (s.input i).request = .idle) :
    (setInput i x s).EntriesOk :=
  (modifyInput_entries (i := i) (f := fun _ => x) h hx).of_eq (by simp [setInput_inputs, modifyInput])

theorem setInput_input {i : Nat} (x : Input) (j : Nat) : (setInput i x s).input j = (modifyInput i (fun _ => x) s).input j := by
  rw [State.input, setInput_inputs]
  rfl

theorem setInput_but {i : Nat} {x : Input} (h : s.EntriesOk) : (setInput i x s).EntriesOkBut i := by
  obtain ⟨horphans, hown, hranges⟩ := modifyInput_but (i := i) (f := fun _ => x) h
  refine ⟨by simpa [State.OrphansOk] using horphans, fun j hj => ?_, by simpa [State.RangesOk] using hranges⟩
  rw [setInput_input]
  simpa using hown j hj

theorem State.EntriesOk.binding_ok (h : s.EntriesOk) (i : Nat) : (s.binding i).request.Ok := by
  obtain ⟨-, hbindings, -⟩ := h.ranges
  rw [State.binding, List.getD_eq_getElem?_getD]
  cases hb : s.bindings[i]? with
  | none => simp [Binding.disabled, Request.Ok]
  | some b => exact hbindings b (List.mem_of_getElem? hb)

section
variable {i : Nat} (h : s.EntriesOk) (hk : s.Kept) (hi : i < 12)
include h hk hi

theorem qualifyActive_entries : (qualifyActive i (s.input i) s).EntriesOk := by
  have hlen : i < s.inputs.length := by rwa [hk.sizes.2]
  unfold qualifyActive
  split
  · refine localRaise_entries (setInput_but h) (by simpa using hk.table) hi ?_ (h.binding_ok i)
    rw [setInput_input, modifyInput_input_self _ hlen]
    exact nofun
  · next hheld => exact setInput_entries h ⟨nofun, fun hidle => absurd (hheld.symm.trans hidle) nofun⟩
  · exact setInput_entries h Iff.rfl

theorem qualifyNormal_entries : (qualifyNormal i (s.input i) s).EntriesOk := by
  have hlen : i < s.inputs.length := by rwa [hk.sizes.2]
  unfold qualifyNormal
  split
  · next hraised =>
    split
    · exact setInput_entries h ⟨nofun, fun hidle => absurd (hraised.symm.trans hidle) nofun⟩
    · refine localWithdraw_entries (setInput_but h) ?_
      rw [setInput_input, modifyInput_input_self _ hlen]
  · exact setInput_entries h Iff.rfl
  · exact setInput_entries h Iff.rfl

theorem postRequest_entries {r : Request} (hr : r.Ok) : (postRequest i r s).1.EntriesOk := by
  have hlen : i < s.inputs.length := by rwa [hk.sizes.2]
  unfold postRequest
  split
  · refine localRaise_entries (modifyInput_but h) hk.table hi ?_ hr
    rw [modifyInput_input_self _ hlen]
    exact nofun
  · exact h
  · exact h

theorem withdrawRequest_entries : (withdrawRequest i s).EntriesOk := by
  have hlen : i < s.inputs.length := by rwa [hk.sizes.2]
  unfold withdrawRequest
  split
  · next hraised =>
    split
    · exact modifyInput_entries h ⟨nofun, fun hidle => absurd (hraised.symm.trans hidle) nofun⟩
    · refine localWithdraw_entries (modifyInput_but h) ?_
      rw [modifyInput_input_self _ hlen]
  · exact h
  · exact h

end

theorem qualification_entries (i : Nat) (h : s.EntriesOk) (hk : s.Kept) : (qualification i s).EntriesOk := by
  unfold qualification
  split
  · next hnow =>
    simp only [State.qualifies, Bool.and_eq_true, decide_eq_true_iff] at hnow
    obtain ⟨⟨-, hi⟩, -⟩ := hnow
    dsimp only
    split
    · exact qualifyActive_entries h hk (by omega)
    · exact qualifyNormal_entries h hk (by omega)
    all_goals exact setInput_entries h Iff.rfl
  · exact h

theorem applyRestore_request (s : State) (i : Nat) :
    ((applyRestore s).input i).request ≠ .idle ↔ (s.input i).request ≠ .idle ∧ s.isHeld i = false := by
  have hinput : (applyRestore s).input i =
      if (s.input i).request = .held then { s.input i with request := .idle, posted := none } else s.input i := by
    simp only [State.input, applyRestore_inputs, List.getD_eq_getElem?_getD, List.getElem?_map]
    cases s.inputs[i]? <;> rfl
  rw [hinput, State.isHeld]
  cases hr : (s.input i).request <;> simp [hr]

/-- After a restore no entry is ORPHANED, and the own entries are those of the RAISED inputs (R49, R50, R161). -/
theorem applyRestore_entries (h : s.EntriesOk) : (applyRestore s).EntriesOk := by
  obtain ⟨⟨horphans, hheard, howner⟩, hown, haddr, hbindings, hentries, hqueue, himage⟩ := h
  obtain ⟨-, -, -, -, eloop, -, -, -, -, ebindings, -, -, estartup⟩ := applyRestore_frame s
  have htable : (applyRestore s).table = restoreEntries s.startup.ownAddr s.isHeld s.table := takeClaim_table _ _
  have hno : ∀ x ∈ (applyRestore s).table, x.state ≠ .orphaned ∧ x.Ok := by
    intro x hx
    rw [htable, mem_restoreEntries] at hx
    obtain ⟨hx, ho, -⟩ | ⟨e, he, -, -, rfl⟩ := hx
    · refine ⟨fun horphan => ?_, hentries x hx⟩
      obtain ⟨-, hforeign, -⟩ := horphans x hx horphan
      exact hforeign ho
    · obtain ⟨hcue, hcue', hprio, hprio', horigin, hinput, -⟩ := hentries e he
      exact ⟨nofun, hcue, hcue', hprio, hprio', horigin, hinput, Nat.zero_le _⟩
  refine ⟨⟨fun x hx ho => absurd ho (hno x hx).1, fun hsome => ?_, ?_⟩, State.ownOk_iff.2 fun i => ?_, ?_, ?_,
    fun x hx => (hno x hx).2, fun m hm => ?_, ?_⟩
  · rw [eloop] at hsome ⊢
    exact ⟨(hheard hsome).1, fun x hx _ => (hno x hx).1⟩
  · rw [eloop]
    exact howner
  · rw [estartup, applyRestore_request, ← and_assoc, ← State.ownOk_iff.1 hown i, htable]
    constructor
    · rintro ⟨x, hx, ho, hi⟩
      obtain ⟨hx, -, hheld⟩ | ⟨e, -, hne, -, rfl⟩ := mem_restoreEntries.1 hx
      · exact ⟨⟨x, hx, ho, hi⟩, hi ▸ hheld⟩
      · exact absurd ho hne
    · rintro ⟨⟨x, hx, ho, hi⟩, hheld⟩
      exact ⟨x, mem_restoreEntries.2 (.inl ⟨hx, ho, hi ▸ hheld⟩), ho, hi⟩
  · rw [estartup]
    exact haddr
  · rw [ebindings]
    exact hbindings
  · rw [applyRestore_queue] at hm
    exact hqueue m (List.mem_of_mem_filter hm)
  · rw [estartup]
    exact himage

theorem originateRestore_entries (h : s.EntriesOk) : (originateRestore s).EntriesOk :=
  enqueue_entries _ (applyRestore_entries h) trivial

end Sys2Proof.Machine
end

section
/-! PROOFS. Own entries, ORPHANED entries and ranges, through the keys, the slots, the beat unit and the DATA line. -/

namespace Sys2Proof.Machine

variable {s : State}

/-! ### Keys, player and station state -/

theorem restoreAction_entries (h : s.EntriesOk) : (restoreAction s).EntriesOk := by
  have ht : (s.setKeys { s.keys with state := .spent, hold := chordMarks }).EntriesOk := h.of_eq (by simp)
  exact (originateRestore_entries ht).of_eq (by simp [restoreAction])

theorem keyMark_entries (h : s.EntriesOk) : (keyMark s).EntriesOk := by
  unfold keyMark
  (repeat' split)
  · exact h
  · exact restoreAction_entries h
  · exact h.of_eq (by simp)

theorem handMark_entries {f : State → State} (h : s.EntriesOk) (hf : ∀ t : State, t.EntriesOk → (f t).EntriesOk) :
    (handMark f s).EntriesOk := by
  unfold handMark
  split
  · exact hf _ (keyMark_entries h)
  · exact keyMark_entries (hf _ h)

theorem ackAction_entries (h : s.EntriesOk) : (ackAction s).EntriesOk := by
  have ht : (setKeyState .idle s).EntriesOk := h.of_eq (by simp)
  exact (originateSilence_entries ht).of_eq (by simp [ackAction])

theorem keyEvent_entries (key : Key) (pressed : Bool) (h : s.EntriesOk) : (keyEvent key pressed s).EntriesOk := by
  unfold keyEvent
  split
  case h_3 => exact ackAction_entries h
  case h_8 =>
    split
    · exact h
    · exact h.of_eq (by simp)
  all_goals exact h.of_eq (by simp [beginChord])

theorem debounceExpiry_entries (key : Key) (h : s.EntriesOk) : (debounceExpiry key s).EntriesOk := by
  unfold debounceExpiry
  split
  · extract_lets raw t
    have ht : t.EntriesOk := h.of_eq (by simp [t])
    split
    · exact keyEvent_entries _ _ ht
    · exact ht
  · exact h

theorem setStartup_entries {u : Startup} (h : s.EntriesOk) (hu : s.startup.keepsImage u) : (s.setStartup u).EntriesOk :=
  h.of_eq (by simp [hu])

theorem setStation_entries {st : StationState} (h : s.EntriesOk) (hst : st ≠ .starting) : (setStation st s).EntriesOk :=
  h.of_eq (by simp [setStation_startup, Startup.keepsImage, hst])

theorem abandonTx_entries (h : s.EntriesOk) : (abandonTx s).EntriesOk := by
  unfold abandonTx
  (repeat' split)
  · exact h
  · exact (backFromLine_entries h).of_eq (by simp)
  · exact h

theorem indexZeroReport_entries (h : s.EntriesOk) : (indexZeroReport s).EntriesOk := by
  unfold indexZeroReport
  split
  · have ht : (s.setStartup { s.startup with membership := s.startup.membership + 1 }).EntriesOk :=
      setStartup_entries h ⟨rfl, fun hst => ⟨hst, rfl, rfl, rfl⟩⟩
    dsimp only
    split
    · exact setStation_entries ht nofun
    · exact ht
  · exact h

theorem lockedReport_entries (h : s.EntriesOk) : (lockedReport s).EntriesOk :=
  setStartup_entries h ⟨rfl, fun hst => ⟨hst, rfl, rfl, rfl⟩⟩

theorem freeReport_entries (h : s.EntriesOk) : (freeReport s).EntriesOk := by
  have ht : (s.setStartup { s.startup with membership := 0 }).EntriesOk :=
    setStartup_entries h ⟨rfl, fun hst => ⟨hst, rfl, rfl, rfl⟩⟩
  unfold freeReport
  dsimp only
  split
  · exact abandonTx_entries (setStation_entries ht nofun)
  · exact ht

/-! ### The slots -/

/-- A change of the slot state with an owner that belongs to a slot, and a STATUS heard of one without ORPHANED entries. -/
theorem setLoop_entries {x : Transceiver} (h : s.EntriesOk)
    (hheard : x.heard.isSome = true → x.owner.isSome = true ∧ ∀ e ∈ s.table, x.owner = some e.origin → e.state ≠ .orphaned)
    (howner : x.owner.isSome = true → x.part.slot.isSome = true) : (s.setLoop x).EntriesOk := by
  obtain ⟨⟨horphans, -, -⟩, hown, hranges⟩ := h
  exact ⟨⟨horphans, hheard, howner⟩, hown, hranges⟩

theorem endReception_entries (h : s.EntriesOk) : (endReception s).EntriesOk := by
  unfold endReception
  split
  · exact h
  · exact h.of_eq (by simp)

theorem clearSlot_entries (part : Part) (h : s.EntriesOk) : (clearSlot part s).EntriesOk :=
  setLoop_entries (abandonTx_entries h) nofun nofun

theorem restartSlotTimer_entries (h : s.EntriesOk) : (restartSlotTimer s).EntriesOk :=
  State.EntriesOk.of_eq (setLoop_entries (x := { s.loop with slotTimer := 0, part := .mark, owner := none, heard := none }) h
    nofun nofun) (by simp [restartSlotTimer])

theorem restartSlots_entries (h : s.EntriesOk) : (restartSlots s).EntriesOk :=
  restartSlotTimer_entries (clearSlot_entries _ (endReception_entries h))

theorem startTx_entries (slot : Slot) (f : Frame) (since : Nat) (sampled : Bool) (h : s.EntriesOk) :
    (startTx slot f since sampled s).EntriesOk := h.of_eq (by simp [startTx])

theorem sendStatus_entries (slot : Slot) (h : s.EntriesOk) : (sendStatus slot s).EntriesOk := by
  unfold sendStatus
  split
  · exact startTx_entries _ _ _ _ h
  · exact h

theorem offerHead_entries (since : Nat) (sampled : Bool) (h : s.EntriesOk) : (offerHead since sampled s).EntriesOk := by
  unfold offerHead
  split
  · exact h
  · next m rest hmessages =>
    refine startTx_entries _ _ _ _ (setQueue_entries h fun x hx => ?_)
    simp only [TxQueue.offerHead, hmessages, List.mem_cons] at hx
    obtain rfl | hx := hx
    · exact h.news m (by simp [hmessages])
    · exact h.news x (by simp [hmessages, hx])

/-- Before a slot no STATUS has been heard: a slot that begins has an owner of its own (R57, R71). -/
theorem slotBegin_entries (h : s.EntriesOk) : (slotBegin s).EntriesOk := by
  unfold slotBegin
  split
  · exact h
  · next sl hnext =>
    split
    · obtain ⟨-, hheard, howner⟩ := h.orphans
      have hpart : s.loop.part.slot = none := by
        cases hp : s.loop.part <;> simp_all [Part.nextSlot, Part.slot]
      have hnone : s.loop.heard.isSome ≠ true := fun hsome => by
        have hslot := howner (hheard hsome).1
        rw [hpart] at hslot
        cases hslot
      refine sendStatus_entries _ (setLoop_entries h (fun hsome => absurd hsome hnone) fun _ => ?_)
      cases sl <;> rfl
    · exact h

theorem openSlotAttempt_entries (h : s.EntriesOk) : (openSlotAttempt s).EntriesOk := by
  have ht : (s.setLoop { s.loop with attempt := .past }).EntriesOk := h.of_eq (by simp)
  unfold openSlotAttempt
  dsimp only
  (repeat' split)
  · exact h.of_eq (by simp)
  · exact offerHead_entries _ _ ht
  · exact ht
  · exact h

theorem slotEnd_entries (h : s.EntriesOk) : (slotEnd s).EntriesOk := by
  unfold slotEnd
  split
  · exact h
  · next sl _ =>
    split
    · extract_lets t u
      have ht : t.EntriesOk := by
        unfold t
        split
        · exact endReception_entries h
        · exact h
      have hu : u.EntriesOk := by
        unfold u
        split
        · next howner =>
          split
          · exact passReport_entries ht howner
          · exact ht
        · exact ht
      exact clearSlot_entries _ hu
    · exact h

/-! ### The beat unit -/

theorem modifyBeat_entries (f : BeatUnit → BeatUnit) (h : s.EntriesOk) : (modifyBeat f s).EntriesOk := h.of_eq (by simp)

theorem becomeZero_entries (h : s.EntriesOk) : (becomeZero s).EntriesOk := by
  unfold becomeZero
  dsimp only
  split
  · exact indexZeroReport_entries (modifyBeat_entries _ h)
  · exact modifyBeat_entries _ h

theorem startBeat_entries (kind : BeatKind) (h : s.EntriesOk) : (startBeat kind s).EntriesOk := by
  unfold startBeat
  dsimp only
  split
  · exact becomeZero_entries (modifyBeat_entries _ h)
  · exact modifyBeat_entries _ h

theorem holdMark_entries (h : s.EntriesOk) : (holdMark s).EntriesOk := by
  unfold holdMark
  exact modifyBeat_entries _ h

theorem handBeat_entries (h : s.EntriesOk) : (handBeat s).EntriesOk := by
  have ht := ageQueue_entries (restartSlots_entries h)
  exact handMark_entries (ht.of_eq (by simp)) fun t ht => ht.of_eq (by simp)

theorem enterLocked_entries (h : s.EntriesOk) : (enterLocked s).EntriesOk := lockedReport_entries (modifyBeat_entries _ h)

theorem enterFree_entries (h : s.EntriesOk) : (enterFree s).EntriesOk := freeReport_entries (modifyBeat_entries _ h)

theorem settleTo_entries (n : Nat) (h : s.EntriesOk) : (settleTo n s).EntriesOk := by
  unfold settleTo
  split
  · exact enterLocked_entries h
  · exact modifyBeat_entries _ h

theorem settlingBeat_entries (kind : BeatKind) (n : Nat) (h : s.EntriesOk) : (settlingBeat kind n s).EntriesOk :=
  handBeat_entries (holdMark_entries (settleTo_entries _ (startBeat_entries _ h)))

theorem lockedBeat_entries (kind : BeatKind) (h : s.EntriesOk) : (lockedBeat kind s).EntriesOk :=
  handBeat_entries (holdMark_entries (startBeat_entries _ h))

theorem sameBeat_entries (h : s.EntriesOk) : (sameBeat s).EntriesOk :=
  restartSlotTimer_entries (holdMark_entries (modifyBeat_entries _ h))

theorem stray_entries (h : s.EntriesOk) : (stray s).EntriesOk := by
  have ht : (bump .stray (modifyBeat (fun b => { b with strayTally := b.strayTally + 1 }) s)).EntriesOk := h.of_eq (by simp)
  unfold stray
  dsimp only
  split
  · exact enterFree_entries ht
  · exact ht

theorem takeFall_entries (h : s.EntriesOk) : (takeFall s).EntriesOk := by
  unfold takeFall
  dsimp only
  split
  · exact h
  · (repeat' split)
    · exact sameBeat_entries h
    · exact h
    · exact settlingBeat_entries _ _ h
  · (repeat' split)
    · exact h
    · exact settlingBeat_entries _ _ h
    · exact settlingBeat_entries _ _ h
  · (repeat' split)
    · exact h
    · exact stray_entries h
    · exact lockedBeat_entries _ h

theorem beatFall_entries (h : s.EntriesOk) : (beatFall s).EntriesOk := by
  unfold beatFall
  split
  · exact takeFall_entries (modifyBeat_entries _ (h.of_eq (by simp)))
  · exact h

theorem internalBeat_entries (h : s.EntriesOk) : (internalBeat s).EntriesOk := by
  have ht := startBeat_entries .internal h
  by_cases halone : 16 ≤ s.freeCount
  · rw [internalBeat_of_sixteen halone]
    exact handBeat_entries (holdMark_entries (enterLocked_entries (modifyBeat_entries _ ht)))
  · rw [internalBeat_of_few (Nat.lt_of_not_le halone)]
    exact handBeat_entries (modifyBeat_entries _ ht)

theorem beatTimerExpiry_entries (h : s.EntriesOk) : (beatTimerExpiry s).EntriesOk := by
  unfold beatTimerExpiry
  (repeat' split)
  · exact h
  · exact internalBeat_entries h
  · exact settlingBeat_entries _ _ h
  · exact lockedBeat_entries _ h
  · exact h

theorem barMark_entries (h : s.EntriesOk) : (barMark s).EntriesOk := by
  unfold barMark recogniseBarMark
  dsimp only
  (repeat' split)
  · exact modifyBeat_entries _ h
  · exact becomeZero_entries (modifyBeat_entries _ h)
  · exact h

theorem beatRise_entries (h : s.EntriesOk) : (beatRise s).EntriesOk := by
  unfold beatRise
  dsimp only
  (repeat' split)
  · exact (barMark_entries h).of_eq (by simp)
  · exact (barMark_entries h).of_eq (by simp)
  · exact h

theorem beatStuck_entries (h : s.EntriesOk) : (beatStuck s).EntriesOk := by
  have ht : (setFault .beatStuck (modifyBeat (fun b => { b with stuck := true }) s)).EntriesOk := h.of_eq (by simp)
  unfold beatStuck
  dsimp only
  (repeat' split)
  · exact enterFree_entries ht
  · exact ht
  · exact h

theorem eighthMark_entries (h : s.EntriesOk) : (eighthMark s).EntriesOk := by
  unfold eighthMark
  split
  · exact handMark_entries (modifyBeat_entries _ h) fun t ht => ht.of_eq (by simp)
  · exact h

theorem adopt_entries (sender : Nat) (bar : Byte) (beat : BitVec 4) (h : s.EntriesOk) :
    (adopt sender bar beat s).EntriesOk := h.of_eq (by simp)

/-! ### What a frame's bytes can hold -/

theorem inRange_of_itemsOk {bytes : List Byte} {n : Nat} : ∀ {pos : Nat}, itemsOk bytes pos n = true →
    ∀ i ∈ itemsFrom bytes pos n, i.inRange = true := by
  induction n with
  | zero => exact fun _ _ hi => absurd hi List.not_mem_nil
  | succ n ih =>
    intro pos hok i hi
    simp only [itemsOk, itemBytesOk, Bool.and_eq_true] at hok
    obtain rfl | hi := List.mem_cons.1 hi
    · exact hok.1.2
    · exact ih hok.2 i hi

/-- The length and the conditions on the bytes of a whole and valid frame give its items (R61, R63). -/
theorem itemsOk_of_whole {bytes : List Byte} {k : FrameKind} (hkind : kindOfLead (byteAt bytes 0) = some k)
    (hlength : expectedLength bytes = some bytes.length) (hvalid : validPrefix bytes = true) :
    itemsOk bytes (itemsAt k) (bitsOf (byteAt bytes 3) 4 4) = true := by
  unfold expectedLength at hlength
  split at hlength
  · cases hlength
  · next hfour =>
    simp only [hkind] at hlength
    split at hlength
    · have hlen := Option.some.inj hlength
      cases bytes with
      | nil => exact absurd (by decide) hfour
      | cons lead rest =>
        have hlead : kindOfLead lead = some k := hkind
        simp only [validPrefix, hlead, Bool.and_eq_true, Bool.or_eq_true, decide_eq_true_iff] at hvalid
        obtain ⟨-, hshort | ⟨⟨⟨-, hitems⟩, -⟩, -⟩⟩ := hvalid
        · exact absurd hshort hfour
        · rwa [Nat.min_eq_left (by omega)] at hitems
    · cases hlength

/-- The bytes of a whole and valid frame hold fields in range (R63). -/
theorem parseFrame_inRange {bytes : List Byte} {f : Frame} (h : parseFrame bytes = some f) :
    f.sender ≤ 31 ∧ ∀ i ∈ f.items, i.inRange = true := by
  unfold parseFrame at h
  split at h
  · cases h
  · next k hkind =>
    dsimp only at h
    split at h
    · next hwhole =>
      obtain ⟨hlength, -, hvalid⟩ := hwhole
      obtain rfl := Option.some.inj h
      exact ⟨Nat.le_of_lt_succ (Nat.mod_lt _ (by decide)), inRange_of_itemsOk (itemsOk_of_whole hkind hlength hvalid)⟩
    · cases h

end Sys2Proof.Machine
end

section
/-! PROOFS. Own entries, ORPHANED entries and ranges, through the DATA line. -/

namespace Sys2Proof.Machine

variable {s : State}

/-! ### Frames that end -/

theorem conflictBy_entries (slot : Slot) (f : Frame) (h : s.EntriesOk) : (conflictBy slot f s).EntriesOk := by
  unfold conflictBy
  (repeat' split)
  · exact h.of_eq (by simp)
  · exact h.of_eq (by simp)
  · exact h

theorem flagsBy_entries (f : Frame) (h : s.EntriesOk) : (flagsBy f s).EntriesOk := by
  unfold flagsBy
  split
  · exact storeFlags_entries _ _ _ h
  · exact h

section
variable {f : Frame} (slot : Slot) (h : s.EntriesOk) (hs : f.sender ≤ 31) (hitems : ∀ i ∈ f.items, i.inRange = true)
include h

theorem endClear_entries : (endClear slot f s).EntriesOk := by
  unfold endClear
  dsimp only
  refine flagsBy_entries _ (conflictBy_entries _ _ ?_)
  split
  · exact h
  · next hne => exact applyClear_entries h hne

theorem endSilence_entries : (endSilence slot f s).EntriesOk := by
  unfold endSilence
  dsimp only
  refine flagsBy_entries _ (conflictBy_entries _ _ ?_)
  split
  · exact h
  · exact applySilence_entries h

theorem endRestore_entries : (endRestore slot f s).EntriesOk := by
  unfold endRestore
  (repeat' split)
  · exact h
  · exact conflictBy_entries _ _ (applyRestore_entries h)
  · exact applyRestore_entries (conflictBy_entries _ _ h)
  · exact flagsBy_entries _ (applyRestore_entries h)

/-- The owner's STATUS is kept for the pass when the owner has no ORPHANED entry. -/
theorem noteOwner_entries (hnone : f.sender ≠ s.startup.ownAddr → ∀ e ∈ s.table, e.origin = f.sender → e.state ≠ .orphaned) :
    (noteOwner f s).EntriesOk := by
  unfold noteOwner
  (repeat' split)
  · exact h.of_eq (by simp)
  · exact h
  · next howner hne =>
    obtain ⟨-, -, hslot⟩ := h.orphans
    refine setLoop_entries h (fun _ => ?_) hslot
    rw [not_not] at howner
    exact ⟨by simp [howner], fun e he ho => hnone hne e he (Option.some.inj (howner.symm.trans ho)).symm⟩

include hs hitems

theorem endRaise_entries : (endRaise slot f s).EntriesOk := by
  unfold endRaise
  dsimp only
  refine flagsBy_entries _ (conflictBy_entries _ _ ?_)
  split
  · exact h
  · next hne => exact applyRaise_entries _ h hne hs hitems

theorem endStatus_entries : (endStatus slot f s).EntriesOk := by
  have ht := adopt_entries f.sender f.bar f.beat h
  unfold endStatus
  dsimp only
  refine conflictBy_entries _ _ ?_
  split
  · next hown => exact noteOwner_entries ht fun hne => absurd (by simpa using hown) hne
  · next hne =>
    refine noteOwner_entries (applyStatus_entries _ ht (by simpa using hne) hs hitems) fun _ e he ho => ?_
    rw [applyStatus, takeClaim_table] at he
    rw [active_of_mem_applyStatusItems he ho]
    exact nofun

theorem handOn_entries : (handOn slot f s).EntriesOk := by
  unfold handOn
  split
  · split
    · exact endRaise_entries slot h hs hitems
    · exact endClear_entries slot h
    · exact endSilence_entries slot h
    · exact endRestore_entries slot h
    · exact endStatus_entries slot h hs hitems
  · exact conflictBy_entries _ _ (h.of_eq (by simp))

end

theorem judgeFrame_entries (r : Reception) (h : s.EntriesOk) : (judgeFrame r s).EntriesOk := by
  unfold judgeFrame
  split
  · exact h.of_eq (by simp)
  · next slot _ =>
    split
    · next f hf =>
      have hparsed : parseFrame r.bytes = some f := by
        split at hf
        · exact hf
        · cases hf
      obtain ⟨hs, hitems⟩ := parseFrame_inRange hparsed
      exact handOn_entries slot h hs hitems
    · exact h.of_eq (by simp)

/-! ### Sending and read-back -/

theorem modifyTx_entries (f : TxRecord → TxRecord) (h : s.EntriesOk) : (modifyTx f s).EntriesOk :=
  h.of_eq (by simp [modifyTx])

theorem modifyLine_entries (f : Line → Line) (h : s.EntriesOk) : (modifyLine f s).EntriesOk := h.of_eq (by simp)

theorem countMismatch_entries (r : TxRecord) (h : s.EntriesOk) : (countMismatch r s).EntriesOk := by
  unfold countMismatch
  (repeat' split)
  all_goals exact h.of_eq (by simp)

theorem completeTx_entries (r : TxRecord) (h : s.EntriesOk) : (completeTx r s).EntriesOk := by
  have ht : (modifyTx (fun x => { x with sampled := true, outcome := .complete }) s).EntriesOk := modifyTx_entries _ h
  unfold completeTx
  extract_lets t u
  have hu : u.EntriesOk := by
    unfold u
    split
    · exact setQueue_entries ht fun m hm => ht.news m (List.mem_of_mem_filter hm)
    · exact ht
  split
  · exact hu.of_eq (by simp)
  · exact hu

theorem readBack_entries (h : s.EntriesOk) : (readBack s).EntriesOk := by
  unfold readBack
  (repeat' split)
  · exact h
  · exact abandonTx_entries (countMismatch_entries _ h)
  · exact completeTx_entries _ h
  · exact modifyTx_entries _ h
  · exact h

theorem bitTimeEnd_entries (h : s.EntriesOk) : (bitTimeEnd s).EntriesOk := by
  unfold bitTimeEnd
  (repeat' split)
  · exact h
  · exact modifyTx_entries _ h
  · exact h

theorem resynchronise_entries (h : s.EntriesOk) : (resynchronise s).EntriesOk := by
  unfold resynchronise
  (repeat' split)
  · exact h
  · exact modifyTx_entries _ h
  · exact h

/-! ### Edges and samples -/

theorem setPins_entries (p : Pins) (h : s.EntriesOk) : (s.setPins p).EntriesOk := h.of_eq (by simp)

theorem dataFall_entries (h : s.EntriesOk) : (dataFall s).EntriesOk := by
  unfold dataFall
  dsimp only
  (repeat' split)
  · exact h
  · exact resynchronise_entries (modifyLine_entries _ (modifyLine_entries _ (setPins_entries _ h)))
  · exact resynchronise_entries (modifyLine_entries _ (setPins_entries _ h))
  · exact modifyLine_entries _ (setPins_entries _ h)

theorem dataRise_entries (h : s.EntriesOk) : (dataRise s).EntriesOk := by
  unfold dataRise
  dsimp only
  (repeat' split)
  · exact modifyLine_entries _ (modifyLine_entries _ (setPins_entries _ h))
  · exact modifyLine_entries _ (setPins_entries _ h)
  · exact h

theorem beginFrame_entries (h : s.EntriesOk) : (beginFrame s).EntriesOk := by
  unfold beginFrame
  dsimp only
  split
  · exact offerHead_entries _ _ (h.of_eq (by simp))
  · exact h.of_eq (by simp)

theorem sampleStart_entries (h : s.EntriesOk) : (sampleStart s).EntriesOk := by
  unfold sampleStart
  dsimp only
  (repeat' split)
  · exact modifyLine_entries _ h
  · exact modifyLine_entries _ h
  · exact beginFrame_entries (modifyLine_entries _ h)

theorem sampleStop_entries (h : s.EntriesOk) : (sampleStop s).EntriesOk := by
  unfold sampleStop
  split
  · exact modifyLine_entries _ h
  · dsimp only
    split
    · exact judgeFrame_entries _ (modifyLine_entries _ (h.of_eq (by simp)))
    · exact modifyLine_entries _ (h.of_eq (by simp))

theorem receiverSample_entries (h : s.EntriesOk) : (receiverSample s).EntriesOk := by
  unfold receiverSample
  split
  · split
    · exact sampleStart_entries h
    · unfold sampleData
      exact modifyLine_entries _ h
    · exact sampleStop_entries h
    all_goals exact h
  · exact h

theorem bitSample_entries (h : s.EntriesOk) : (bitSample s).EntriesOk := receiverSample_entries (readBack_entries h)

theorem gapTimeout_entries (h : s.EntriesOk) : (gapTimeout s).EntriesOk := by
  unfold gapTimeout
  split
  · dsimp only
    split
    · exact modifyLine_entries _ h
    · exact h.of_eq (by simp)
  · exact h

end Sys2Proof.Machine
end

section
/-! PROOFS. Own entries, ORPHANED entries and ranges, through the starts of the station and the supply monitor. -/

namespace Sys2Proof.Machine

variable {s : State}

/-! ### A station without entries -/

/-- What of a station without entries the conditions on the entries still read. -/
structure State.WithoutEntries (s : State) : Prop where
  table : s.table = []
  requests : ∀ i, i < 12 → (s.input i).request = .idle
  queue : s.queue.messages = []
  heard : s.loop.heard = none
  owner : s.loop.owner = none

theorem State.WithoutEntries.entriesOk (h : s.WithoutEntries) (haddr : s.startup.ownAddr ≤ 31)
    (hbindings : ∀ b ∈ s.bindings, b.request.Ok)
    (himage : s.startup.station = .starting → s.startup.step = .checking → s.startup.validity ≠ .rejected →
      imageOk s.startup.image = true) : s.EntriesOk := by
  obtain ⟨htable, hrequests, hqueue, hheard, howner⟩ := h
  refine ⟨⟨?_, ?_, ?_⟩, ⟨fun i hi hr => absurd (hrequests i hi) hr, ?_⟩, haddr, hbindings, ?_, ?_, himage⟩
  · simp [htable]
  · simp [hheard]
  · simp [howner]
  · simp [htable]
  · simp [htable]
  · simp [hqueue]

/-- A STARTING or QUIESCENT station has no entries. -/
theorem State.EntriesOk.withoutEntries (h : s.EntriesOk) (hidle : s.IdleOk) : s.WithoutEntries where
  table := hidle.table
  requests i hi := by
    by_contra hr
    obtain ⟨e, he, -⟩ := (State.ownOk_iff.1 h.own i).2 ⟨hi, hr⟩
    rw [hidle.table] at he
    exact List.not_mem_nil he
  queue := hidle.queue
  heard := by rw [hidle.loop]; rfl
  owner := by rw [hidle.loop]; rfl

theorem input_replicate_request {t : State} (h : t.inputs = List.replicate 12 Input.atStart) (i : Nat) :
    (t.input i).request = .idle := by
  rw [State.input, h, getD_replicate_self]
  rfl

/-! ### The starts of the station -/

theorem Binding.disabled_requestOk : Binding.disabled.request.Ok := by
  simp [Binding.disabled, Request.Ok]

theorem replicate_disabled_requestOk (n : Nat) : ∀ b ∈ List.replicate n Binding.disabled, b.request.Ok := by
  intro b hb
  rw [List.eq_of_mem_replicate hb]
  exact Binding.disabled_requestOk

theorem coldStart_entries (cause : StartCause) (haddr : s.startup.ownAddr ≤ 31) : (coldStart cause s).EntriesOk := by
  have hempty : (coldStart cause s).WithoutEntries := ⟨rfl, fun i _ => input_replicate_request rfl i, rfl, rfl, rfl⟩
  refine hempty.entriesOk haddr (replicate_disabled_requestOk 8) fun _ hstep => ?_
  change (if s.pins.rst = .high then StartStep.settlingWait else .waiting) = .checking at hstep
  split at hstep <;> cases hstep

theorem requestScan_entries (h : s.EntriesOk) : (requestScan s).EntriesOk := h.of_eq (by simp)

theorem enterJoining_entries (h : s.WithoutEntries) (haddr : s.startup.ownAddr ≤ 31)
    (hbindings : ∀ b ∈ s.bindings, b.request.Ok) : (enterJoining s).EntriesOk := by
  have hempty : s.atJoining.WithoutEntries := ⟨h.table, h.requests, h.queue, h.heard, h.owner⟩
  rw [enterJoining_eq]
  exact requestScan_entries (hempty.entriesOk haddr hbindings nofun)

theorem State.EntriesOk.bindings (h : s.EntriesOk) : ∀ b ∈ s.bindings, b.request.Ok := by
  obtain ⟨-, hbindings, -⟩ := h.ranges
  exact hbindings

theorem warmStart_entries (h : s.EntriesOk) : (warmStart s).EntriesOk := by
  have hempty : s.atWarmStart.WithoutEntries := ⟨rfl, fun i _ => input_replicate_request rfl i, rfl, rfl, rfl⟩
  exact enterJoining_entries (s := s.atWarmStart) hempty h.ownAddr h.bindings

theorem enterQuiescent_entries (h : s.EntriesOk) : (enterQuiescent s).EntriesOk := by
  obtain ⟨player, port, heq, -⟩ := enterQuiescent_effect s
  have hempty : (enterQuiescent s).WithoutEntries := by
    rw [heq]
    refine ⟨rfl, fun i _ => ?_, rfl, rfl, rfl⟩
    have hin : (s.inputs.map Input.enterQuiescent).getD i Input.atStart = (s.input i).enterQuiescent := by
      rw [State.input, List.getD_eq_getElem?_getD, List.getD_eq_getElem?_getD, List.getElem?_map]
      cases s.inputs[i]? <;> rfl
    exact congrArg Input.request hin
  refine hempty.entriesOk ?_ ?_ ?_
  · rw [heq]
    exact h.ownAddr
  · rw [heq]
    exact h.bindings
  · rw [heq]
    exact nofun

/-! ### The steps of a cold start -/

/-- A change of the startup that keeps the address, with an image that has passed its checks where it waits for its load. -/
theorem setStartup_image_entries {u : Startup} (h : s.EntriesOk) (hown : u.ownAddr = s.startup.ownAddr)
    (himage : u.station = .starting → u.step = .checking → u.validity ≠ .rejected → imageOk u.image = true) :
    (s.setStartup u).EntriesOk := by
  obtain ⟨horphans, hOwn, haddr, hbindings, htable, hqueue, -⟩ := h
  refine ⟨?_, ?_, hown.symm ▸ haddr, hbindings, htable, hqueue, himage⟩
  · simpa [State.OrphansOk, hown] using horphans
  · simpa [State.OwnOk, State.input, hown] using hOwn

theorem State.reading_of_readingAfter {n : Nat} (h : s.readingAfter n = true) : s.startup.step = .reading := by
  simp only [State.readingAfter, State.startingAt, Bool.and_eq_true, beq_iff_eq] at h
  exact h.1.1.2

theorem rejectImage_entries (h : s.EntriesOk) (hidle : s.IdleOk) : (rejectImage s).EntriesOk := by
  obtain ⟨htable, hrequests, hqueue, hheard, howner⟩ := h.withoutEntries hidle
  have hempty : s.imageRejected.WithoutEntries := ⟨htable, hrequests, hqueue, hheard, howner⟩
  rw [rejectImage_eq]
  exact hempty.entriesOk h.ownAddr (replicate_disabled_requestOk 8) fun _ _ hvalid => absurd rfl hvalid

/-- The straps give an address of 0 to 31 (R185). -/
theorem settlingWaitEnd_entries (straps : BitVec 5) (h : s.EntriesOk) (hm : s.ModesHold) :
    (settlingWaitEnd straps s).EntriesOk := by
  unfold settlingWaitEnd
  split
  · next hnow =>
    have hidle := hm.idle_of_starting (State.starting_of_startingAt hnow.1)
    obtain ⟨htable, hrequests, hqueue, hheard, howner⟩ := h.withoutEntries hidle
    refine State.WithoutEntries.entriesOk ⟨htable, hrequests, hqueue, hheard, howner⟩ ?_ h.bindings nofun
    exact Nat.le_of_lt_succ straps.isLt
  · exact h

theorem headerReadComplete_entries (header : List Byte) (h : s.EntriesOk) (hm : s.ModesHold) :
    (headerReadComplete header s).EntriesOk := by
  unfold headerReadComplete
  split
  · next hnow =>
    split
    · refine setStartup_image_entries h rfl fun _ hstep => ?_
      exact absurd ((State.reading_of_readingAfter hnow.1).symm.trans hstep) nofun
    · exact rejectImage_entries h (hm.idle_of_starting (State.starting_of_readingAfter hnow.1))
  · exact h

theorem missingAcknowledge_entries (sent : Nat) (h : s.EntriesOk) (hm : s.ModesHold) :
    (missingAcknowledge sent s).EntriesOk := by
  unfold missingAcknowledge
  split
  · next hnow => exact rejectImage_entries h (hm.idle_of_starting (State.starting_of_readingAfter hnow.1))
  · exact h

theorem imageReadComplete_entries (rest : List Byte) (h : s.EntriesOk) (hm : s.ModesHold) :
    (imageReadComplete rest s).EntriesOk := by
  unfold imageReadComplete
  dsimp only
  split
  · next hnow =>
    split
    · next hok => exact setStartup_image_entries h rfl fun _ _ _ => hok
    · exact rejectImage_entries h (hm.idle_of_starting (State.starting_of_readingAfter hnow.1))
  · exact h

/-- The binding records of an image that has passed its checks hold requests in range (R187). -/
theorem imageBinding_requestOk {image : List Byte} (h : imageOk image = true) {n : Nat} (hn : n < 8) :
    (imageBinding image n).request.Ok := by
  obtain ⟨hpriority, hcue, -⟩ := ((imageOk_iff image).1 h).2 n hn
  exact ⟨hcue, Nat.le_of_lt_succ (Nat.mod_lt _ (by decide)), hpriority, Nat.le_of_lt_succ (Nat.mod_lt _ (by decide))⟩

theorem afterLoad_bindings (h : s.EntriesOk) (hst : s.startup.station = .starting) (hstep : s.startup.step = .checking) :
    ∀ b ∈ s.afterLoad.bindings, b.request.Ok := by
  obtain ⟨-, -, -, -, himage⟩ := h.ranges
  by_cases hvalid : s.startup.validity = .rejected
  · rw [afterLoad_of_rejected hvalid]
    exact h.bindings
  · rw [afterLoad_of_accepted hvalid, loadImage_eq]
    intro b hb
    obtain ⟨n, hn, rfl⟩ := List.mem_map.1 hb
    exact imageBinding_requestOk (himage hst hstep hvalid) (List.mem_range.1 hn)

theorem loadComplete_entries (h : s.EntriesOk) (hm : s.ModesHold) : (loadComplete s).EntriesOk := by
  by_cases hnow : s.startingAt .checking = true
  · have hst := State.starting_of_startingAt hnow
    simp only [State.startingAt, Bool.and_eq_true, beq_iff_eq] at hnow
    obtain ⟨htable, hrequests, hqueue, hheard, howner⟩ := h.withoutEntries (hm.idle_of_starting hst)
    obtain ⟨-, -, eloop, -, -, etable, equeue, -, -, -, eaddr⟩ := afterLoad_frame s
    have einputs : s.afterLoad.inputs = s.inputs := by
      unfold State.afterLoad
      split
      · rfl
      · rw [loadImage_eq]
    rw [loadComplete_of_checking hst hnow.2]
    refine enterJoining_entries ⟨?_, fun i hi => ?_, ?_, ?_, ?_⟩ ?_ ?_
    · simpa [etable] using htable
    · simpa [State.input, einputs] using hrequests i hi
    · simpa [equeue] using hqueue
    · simpa [eloop] using hheard
    · simpa [eloop] using howner
    · simpa [Startup.toStep, eaddr] using h.ownAddr
    · simpa using afterLoad_bindings h hst hnow.2
  · rw [loadComplete, if_neg hnow]
    exact h

/-! ### RST -/

theorem endWaiting_entries (h : s.EntriesOk) : (endWaiting s).EntriesOk := by
  unfold endWaiting
  split
  · exact setStartup_image_entries h rfl nofun
  · exact h

theorem rstFall_entries (h : s.EntriesOk) : (rstFall s).EntriesOk := by
  unfold rstFall
  split
  · exact setPins_entries _ h
  all_goals exact h

theorem resetPin_entries (h : s.EntriesOk) : (resetPin s).EntriesOk := by
  unfold resetPin
  (repeat' split)
  · exact coldStart_entries _ h.ownAddr
  all_goals exact h

theorem rstRise_entries (h : s.EntriesOk) : (rstRise s).EntriesOk := by
  have ht : (s.setPins { s.pins with rst := .high }).EntriesOk := setPins_entries _ h
  unfold rstRise
  dsimp only
  (repeat' split)
  · exact h
  · exact coldStart_entries _ h.ownAddr
  · exact endWaiting_entries ht
  · exact coldStart_entries _ h.ownAddr
  · exact endWaiting_entries ht

/-! ### The converter and the supply monitor -/

theorem scanSample_entries (i : Nat) (b : Byte) (h : s.EntriesOk) : (scanSample i b s).EntriesOk := by
  unfold scanSample
  split
  · refine modifyInput_entries h ?_
    unfold Input.sample
    split <;> exact Iff.rfl
  · exact h

theorem recover_entries (h : s.EntriesOk) : (recover s).EntriesOk := by
  unfold recover
  extract_lets _ t
  have ht : t.EntriesOk := h.of_eq (by simp [t, becomeLow, setCondition])
  split
  · exact coldStart_entries _ ht.ownAddr
  · exact warmStart_entries ht

theorem becomeCutoff_entries (h : s.EntriesOk) : (becomeCutoff s).EntriesOk := by
  have ht : (clearFault .supplyLow (setCondition .cutoff s)).EntriesOk := h.of_eq (by simp [setCondition])
  exact enterQuiescent_entries ht

theorem supplySample_entries (b : Byte) (h : s.EntriesOk) : (supplySample b s).EntriesOk := by
  unfold supplySample
  extract_lets t
  have ht : t.EntriesOk := h.of_eq (by simp [t])
  (repeat' split)
  · exact ht
  · exact ht.of_eq (by simp [becomeNormal, setCondition])
  · exact becomeCutoff_entries ht
  · exact recover_entries ht
  · exact ht.of_eq (by simp [becomeLow, setCondition])

theorem setConverter_entries (c : Converter) (h : s.EntriesOk) : (s.setConverter c).EntriesOk := h.of_eq (by simp)

theorem handReading_entries (b : Byte) (a : Conversion) (discard : Bool) (h : s.EntriesOk) :
    (handReading b a discard s).EntriesOk := by
  unfold handReading
  (repeat' split)
  · exact h
  · exact h
  · exact scanSample_entries _ _ h
  · exact supplySample_entries _ h

theorem conversionComplete_entries (b : Byte) (h : s.EntriesOk) : (conversionComplete b s).EntriesOk := by
  unfold conversionComplete
  split
  · exact setConverter_entries _ (handReading_entries _ _ _ (setConverter_entries _ h))
  · exact h

theorem scanNext_entries (h : s.EntriesOk) : (scanNext s).EntriesOk := by
  unfold scanNext
  (repeat' split)
  · exact h
  · exact requestScan_entries (h.of_eq (by simp))
  · exact h

theorem supplyOwnTimer_entries (h : s.EntriesOk) : (supplyOwnTimer s).EntriesOk := by
  unfold supplyOwnTimer
  (repeat' split)
  · exact h
  · exact h.of_eq (by simp)
  · exact h

end Sys2Proof.Machine
end

section
/-! PROOFS. The panel port, a wait, and the conditions on the entries after every step: O60. -/

namespace Sys2Proof.Machine

variable {s : State}

/-! ### The panel port -/

theorem setPort_entries (p : Port) (h : s.EntriesOk) : (s.setPort p).EntriesOk := h.of_eq (by simp)

theorem closeWith_entries (response : List Byte) (h : s.EntriesOk) : (closeWith response s).EntriesOk := setPort_entries _ h

theorem post_inRange {payload : List Byte} (h : postInRange payload = true) :
    (byteAt payload 0).toNat < 12 ∧ (postFields payload).Ok := by
  simp only [postInRange, Bool.and_eq_true, decide_eq_true_iff, virtualInput_iff, and_assoc] at h
  obtain ⟨-, hlast, hcue, hcue', hpriority, hpriority', -⟩ := h
  exact ⟨Nat.lt_succ_of_le hlast, hcue, hcue', hpriority, hpriority'⟩

theorem PanelAction.entries {c : PanelCommand} {act : List Byte → State → Taken} (ha : PanelAction c act)
    (payload : List Byte) (h : s.EntriesOk) (hk : s.Kept) : (act payload s).state.EntriesOk := by
  cases ha
  case readSummary => exact setPort_entries _ h
  case readTable => exact h
  case readRoster =>
    unfold actReadRoster
    dsimp only
    split <;> exact h
  case readInputs => exact h
  case readCounters => exact h
  case post =>
    unfold actPost
    dsimp only
    split
    · next hrange =>
      obtain ⟨hi, hr⟩ := post_inRange hrange
      split
      · exact postRequest_entries h hk hi hr
      · exact h
    · exact h
  case withdraw =>
    unfold actWithdraw
    dsimp only
    split
    · next hvirtual => exact withdrawRequest_entries h hk (Nat.lt_succ_of_le ((virtualInput_iff _).1 hvirtual).2)
    · exact h
  case silence => exact originateSilence_entries h
  case restore => exact originateRestore_entries h
  case test =>
    rw [actTest_eq]
    exact h.of_eq (by simp)
  case clearCounters => exact h.of_eq (by simp [actClearCounters])

theorem closeCommand_entries {c : PanelCommand} {act : List Byte → State → Taken} (ha : PanelAction c act) (h : s.EntriesOk)
    (hk : s.Kept) : (closeCommand c act s).EntriesOk := by
  have htaken (payload : List Byte) : (takeCommand c act payload s).state.EntriesOk := by
    unfold takeCommand
    (repeat' split)
    · exact ha.entries _ h hk
    all_goals exact h
  unfold closeCommand
  split
  · split
    · exact closeWith_entries _ (htaken _)
    · exact h
  all_goals exact h

/-! ### A wait -/

theorem elapse_entries (dt : Nat) (h : s.EntriesOk) : (s.elapse dt).EntriesOk :=
  h.of_requests (fun i => by rw [request_elapse]) h.news ⟨⟨rfl, fun hst => ⟨hst, rfl, rfl, rfl⟩⟩, rfl, rfl, rfl, rfl, rfl, rfl⟩

theorem setPending_entries (l : List Instr) (h : s.EntriesOk) : (s.setPending l).EntriesOk := h.of_eq (by simp)

/-! ### An operation and a step -/

theorem operation_entries {op : State → State} (hop : Operation op) (h : s.EntriesOk) (hk : s.Kept) (hm : s.ModesHold) :
    (op s).EntriesOk := by
  cases hop
  case nothing => exact h
  case powerOn => exact coldStart_entries _ (Nat.zero_le _)
  case rstFall => exact rstFall_entries h
  case resetPin => exact resetPin_entries h
  case rstRise => exact rstRise_entries h
  case settlingWaitEnd straps => exact settlingWaitEnd_entries straps h hm
  case headerReadComplete header => exact headerReadComplete_entries header h hm
  case missingAcknowledge sent => exact missingAcknowledge_entries sent h hm
  case imageReadComplete rest => exact imageReadComplete_entries rest h hm
  case loadComplete => exact loadComplete_entries h hm
  case beatFall => exact beatFall_entries h
  case beatTimerExpiry => exact beatTimerExpiry_entries h
  case markRelease => unfold markRelease; (repeat' split) <;> simp [h, modifyBeat_entries]
  case barMark => exact barMark_entries h
  case beatRise => exact beatRise_entries h
  case beatStuck => exact beatStuck_entries h
  case eighthMark => exact eighthMark_entries h
  case slotBegin => exact slotBegin_entries h
  case openSlotAttempt => exact openSlotAttempt_entries h
  case slotEnd => exact slotEnd_entries h
  case bitSample => exact bitSample_entries h
  case gapTimeout => exact gapTimeout_entries h
  case dataStuck => exact h.of_eq (by simp)
  case dataFall => exact dataFall_entries h
  case dataRise => exact dataRise_entries h
  case bitTimeEnd => exact bitTimeEnd_entries h
  case scanNext => exact scanNext_entries h
  case supplyOwnTimer => exact supplyOwnTimer_entries h
  case conversionComplete b => exact conversionComplete_entries b h
  case qualification i => exact qualification_entries i h hk
  case keyLevelChange => exact h.of_eq (by simp)
  case debounceExpiry key => exact debounceExpiry_entries key h
  case chirpEnd =>
    obtain ⟨d, hd⟩ := chirpEnd_frame s
    rw [hd]
    exact h.of_eq (by simp)
  case periodStart => exact h.of_eq (by simp [periodStart])
  case transactionOpen => unfold transactionOpen; split <;> simp [h, setPort_entries]
  case psckRise => unfold psckRise; split <;> simp [h, setPort_entries]
  case psckFall => unfold psckFall; split <;> simp [h, setPort_entries]
  case closeNothing => unfold closeNothing; split <;> simp [h, closeWith_entries]
  case closeBad => unfold closeBad; split <;> simp [h, closeWith_entries]
  case closeUnknown => unfold closeUnknown; split <;> simp [h, closeWith_entries]
  case closeCommand ha => exact closeCommand_entries ha h hk

theorem step_entries {t : State} (h : s.Ok) (hstep : step s = .next t) : t.EntriesOk := by
  obtain rfl | ⟨rest, dt, op, hop, rfl⟩ := step_cases hstep
  · exact h.entriesOk
  · exact operation_entries hop (elapse_entries dt (setPending_entries rest h.entriesOk))
      (elapse_kept dt (setPending_kept rest h.kept)) (elapse_modes dt (setPending_modes rest h.modesHold))

end Sys2Proof.Machine

open Sys2Proof Sys2Proof.Machine

/-- Settles O60: each operation keeps the own entries on their requests, the ORPHANED ones on MISSING stations, and every
field in range; the changes of station state find or leave a station without entries. -/
theorem everyStepKeepsTheEntries : Obligations.EveryStepKeepsTheEntries := by
  unfold Obligations.EveryStepKeepsTheEntries
  intro s t h hstep
  have ht := step_entries h hstep
  exact ⟨ht.orphans, ht.own, ht.ranges⟩

end
